-- ==== Sys2Proof/Word.lean ====
section
/-!
DEFINITION. The words the SLS-4832 moves and the one container the model keeps its arrays in.
-/

namespace Sys2Proof

/-- One 32-bit word: the unit of every register and memory access (R3). -/
abbrev Word := BitVec 32

/-- One byte of an addressed memory. -/
abbrev Byte := BitVec 8

/-- A 28-bit byte address (R3). -/
abbrev Addr := BitVec 28

/-- An engine accumulator, Q10.62 in 72 bits (R72, R114). -/
abbrev Acc := BitVec 72

/-- A table of which almost every entry stands at its default: the entries that do not, by rising key.
The default belongs to the use and is named where the table is read. -/
abbrev Sparse (α : Type) := List (Nat × α)

end Sys2Proof
end

