-- ==== Sys2Proof/Syntax.lean ====
section
/-!
DEFINITION. The commands of the block: one constructor of `Instr` for each row of the operation table.
A command that comes from outside, or whose effect depends on the moment, carries `t`, the ECLK cycle at which it acts.
Where a row names one of several like units, the unit's number is an operand.
-/

namespace Sys2Proof

/-- Who makes an access on the address map (R32): the host bridge or the control core. -/
inductive Requester where
  | host
  | core
  deriving DecidableEq, Repr

/-- The four slots of an instruction word (R106). -/
inductive SlotName where
  | arith
  | xmove
  | ymove
  | ctrl
  deriving DecidableEq, Repr

/-- The two address units of an engine: X memory or the Y Table (R123). -/
inductive MoveUnit where
  | x
  | y
  deriving DecidableEq, Repr

/-- The three domain clocks (R325). -/
inductive ClockName where
  | eclk
  | fclk
  | hclk
  deriving DecidableEq, Repr

/-- The two auxiliary outputs (R448). -/
inductive AuxName where
  | aux5
  | aux33
  deriving DecidableEq, Repr

/-- The fields of a pointer's configuration that a write can stage (R148). -/
inductive PtrField where
  | cfg
  | mod
  | init
  deriving DecidableEq, Repr

/-- A copy lane: one for each engine and one for the router (R205). -/
inductive LaneName where
  | engine (e : Fin 32)
  | router
  deriving DecidableEq, Repr

/-- The sixteen TDM ports' masks (R282). -/
inductive MaskName where
  | rx
  | tx
  deriving DecidableEq, Repr

/-- The header of a host frame as it arrives: the device and generation fields of the command word (R357), the
check that followed, `none` when HSEL_N rose before HCHK was complete (R371), and whether another holder keeps HOWN_N low meanwhile
(R364). -/
structure Head where
  device : BitVec 7
  gen : BitVec 4
  hchk : Option (BitVec 16)
  ownLow : Bool
  deriving DecidableEq, Repr

/-- What follows the header of a frame with a DCHK: its whole words, the check, and the bits left over
beyond whole words plus the check (R371). -/
structure Body where
  words : List Word
  dchk : BitVec 16
  extraBits : Nat
  deriving DecidableEq, Repr

/-- Which request FAR_RETURN grants: the place of the read in the engine's far queue, and which of the two words of an interpolated read,
all it still waits for where that is `none` (R130, R176). -/
structure FarGrant where
  place : Fin 8
  word : Option (Fin 2)
  deriving DecidableEq, Repr

/-- How a read's words came: from word `late` on one was not ready when due (R369), and at a bank the first request waited `wait` bank
cycles (R187, R508). -/
structure ReadPace where
  late : Option Nat
  wait : Nat
  deriving DecidableEq, Repr

/-- When a posted entry completes, and how many bank cycles its requests waited at a bank at most (R187, R372, R508). -/
structure EntryGrant where
  wait : Nat
  t : Nat
  deriving DecidableEq, Repr

/-- How a DMA word came through: the further reads issued by the time its write lands (R400), and the bank cycles that its read and its
write waited at their banks (R187, R508). -/
structure WordGrant where
  ahead : Nat
  readWait : Nat
  writeWait : Nat
  deriving DecidableEq, Repr

/-- The request that no target acknowledged, a write or a read, and of each channel k how many of its oldest writes had issued by then,
`issued[k]` (R401). -/
structure BusRequest where
  write : Bool
  issued : List Nat
  deriving DecidableEq, Repr

/-- One biphase subframe as received (R293): preamble kind is judged by `BiphaseFrame`. -/
structure Subframe where
  audio : BitVec 24
  v : Bool
  u : Bool
  c : Bool
  p : Bool
  deriving DecidableEq, Repr

/-- One received biphase frame (R293, R295): whether it opened with Z, whether its two preambles are X or Z then Y,
whether it holds a coding violation, and its period in XCLK cycles. -/
structure BiphaseFrame where
  z : Bool
  preamblesOk : Bool
  violation : Bool
  period : Nat
  a : Subframe
  b : Subframe
  deriving DecidableEq, Repr

/-- The strap levels sampled at tR (R470). -/
structure Straps where
  devnum : BitVec 6
  boot : BitVec 2
  hmode : BitVec 2
  xsettle : BitVec 2
  iovA : Bool
  iovB : Bool
  testen : Bool
  deriving DecidableEq, Repr

/-- One telemetry sample: means over the last millisecond (R461). Voltages in 10 mV, currents in mA, temperature in
0.1 degree Celsius; the input power is formed from VIN and the input current of the same sample. -/
structure Telemetry where
  vin : BitVec 16
  iin : BitVec 16
  icore : BitVec 16
  imem : BitVec 16
  iio18 : BitVec 16
  iio33 : BitVec 16
  iaux5 : BitVec 16
  iaux33 : BitVec 16
  temp : BitVec 16
  deriving DecidableEq, Repr

/-- The instructions of the test access port (R530). -/
inductive TapInstr where
  | bypass
  | samplePreload
  | extest
  | highz
  deriving DecidableEq, Repr

/-- The commands of the SLS-4832: one constructor for each row of the operation table. -/
inductive Instr where
  /-- REGISTER_WRITE (R5) -/
  | registerWrite (by_ : Requester) (a : Addr) (w : Word) (t : Nat)
  /-- RC_READ (R33): `coincident` when an increment of the counter falls in the same cycle. -/
  | rcRead (by_ : Requester) (a : Addr) (coincident : Bool) (t : Nat)
  /-- LATCHING_READ (R32) -/
  | latchingRead (by_ : Requester) (a : Addr) (t : Nat)
  /-- WIDE_WRITE (R34) -/
  | wideWrite (by_ : Requester) (a : Addr) (w : Word) (t : Nat)
  /-- FRAME_MARK (R337) -/
  | frameMark (tb : Fin 4) (t : Nat)
  /-- FLYWHEEL_START (R338) -/
  | flywheelStart (tb : Fin 4) (t : Nat)
  /-- FLYWHEEL_TICK (R338) -/
  | flywheelTick (tb : Fin 4) (t : Nat)
  /-- SINK_DELIVERY (R232) of every sink of the timebase -/
  | sinkDelivery (tb : Fin 4) (t : Nat)
  /-- INPUT_LATCH (R80) -/
  | inputLatch (e : Fin 32) (t : Nat)
  /-- ROUND_START (R76) -/
  | roundStart (e : Fin 32) (t : Nat)
  /-- MATRIX_COMPUTE (R235) -/
  | matrixCompute (t : Nat)
  /-- PUBLICATION (R81) -/
  | publication (e : Fin 32) (t : Nat)
  /-- BUDGET_END (R78) -/
  | budgetEnd (e : Fin 32)
  /-- NOP (R109) in the named slot -/
  | nop (e : Fin 32) (slot : SlotName)
  /-- MAC (R115) -/
  | mac (e : Fin 32)
  /-- DMAC (R115) -/
  | dmac (e : Fin 32)
  /-- CMAC (R115) -/
  | cmac (e : Fin 32)
  /-- CLR (R117) -/
  | clr (e : Fin 32)
  /-- ADDA (R116) -/
  | adda (e : Fin 32)
  /-- MOVA (R117) -/
  | mova (e : Fin 32)
  /-- ABSA (R117) -/
  | absa (e : Fin 32)
  /-- ASH (R120) -/
  | ash (e : Fin 32)
  /-- LDA (R117) -/
  | lda (e : Fin 32)
  /-- ADDD (R116) -/
  | addd (e : Fin 32)
  /-- SUBD (R116) -/
  | subd (e : Fin 32)
  /-- RND (R119) -/
  | rnd (e : Fin 32)
  /-- RNDK (R119) -/
  | rndk (e : Fin 32)
  /-- CMP (R122) -/
  | cmp (e : Fin 32)
  /-- CMPA (R122) -/
  | cmpa (e : Fin 32)
  /-- ADD (R121) -/
  | add (e : Fin 32)
  /-- SUB (R121) -/
  | sub (e : Fin 32)
  /-- MIN (R121) -/
  | min (e : Fin 32)
  /-- MAX (R121) -/
  | max (e : Fin 32)
  /-- ABS (R121) -/
  | abs (e : Fin 32)
  /-- NEG (R121) -/
  | neg (e : Fin 32)
  /-- AND (R121) -/
  | and (e : Fin 32)
  /-- OR (R121) -/
  | or (e : Fin 32)
  /-- XOR (R121) -/
  | xor (e : Fin 32)
  /-- SHF (R120) -/
  | shf (e : Fin 32)
  /-- MPYD (R119) -/
  | mpyd (e : Fin 32)
  /-- LD (R124) in the X or the Y slot -/
  | ld (e : Fin 32) (u : MoveUnit)
  /-- ST (R124) -/
  | st (e : Fin 32)
  /-- LDC (R125) in the X or the Y slot -/
  | ldc (e : Fin 32) (u : MoveUnit)
  /-- STC (R125) -/
  | stc (e : Fin 32)
  /-- SETP (R145) in the X or the Y slot -/
  | setp (e : Fin 32) (u : MoveUnit)
  /-- GETP (R145) in the X or the Y slot -/
  | getp (e : Fin 32) (u : MoveUnit)
  /-- REP (R157) -/
  | rep (e : Fin 32)
  /-- FINAL (R76) -/
  | final (e : Fin 32)
  /-- FRD (R130) -/
  | frd (e : Fin 32)
  /-- FWR (R177) -/
  | fwr (e : Fin 32)
  /-- MOVF (R174) -/
  | movf (e : Fin 32)
  /-- MOVG (R127) -/
  | movg (e : Fin 32)
  /-- MVI (R128) -/
  | mvi (e : Fin 32)
  /-- OUT (R81) -/
  | out (e : Fin 32)
  /-- HIN (R92) -/
  | hin (e : Fin 32)
  /-- SEL (R135) -/
  | sel (e : Fin 32)
  /-- LDI (R127) -/
  | ldi (e : Fin 32)
  /-- LDIH (R127) -/
  | ldih (e : Fin 32)
  /-- GLP (R136) -/
  | glp (e : Fin 32)
  /-- FAR_RETURN (R130, R176): at cycle `t` the granted words of a read of the engine's far queue arrive. -/
  | farReturn (e : Fin 32) (k : FarGrant) (t : Nat)
  /-- FAR_STALL (R185) -/
  | farStall (e : Fin 32)
  /-- FAR_WRITE_LAND (R177): the write at place `i` of the engine's far queue is granted. -/
  | farWriteLand (e : Fin 32) (i : Fin 8) (t : Nat)
  /-- PROGRAM_WRITE (R70): word `n` of program memory, upper half when `hi`. -/
  | programWrite (e : Fin 32) (n : BitVec 12) (hi : Bool) (w : Word) (t : Nat)
  /-- POINTER_CONFIG_WRITE (R153) -/
  | pointerConfigWrite (by_ : Requester) (e : Fin 32) (p : Fin 8) (f : PtrField) (w : Word) (t : Nat)
  /-- ENGINE_START (R88) -/
  | engineStart (e : Fin 32) (t : Nat)
  /-- ENGINE_ARM (R89) -/
  | engineArm (e : Fin 32) (t : Nat)
  /-- ENGINE_STOP (R88) -/
  | engineStop (e : Fin 32) (t : Nat)
  /-- RECOVER (R88) -/
  | recover (e : Fin 32) (t : Nat)
  /-- RETENTION_LOST (R97) -/
  | retentionLost (set : Fin 8) (t : Nat)
  /-- STAGE_ENTRY_WRITE (R195): field 0 STG_TARGET, 1 STG_LOC, 2 STG_LEN. -/
  | stageEntryWrite (n : Fin 16) (field : Fin 3) (w : Word) (t : Nat)
  /-- STAGE_ARM (R193) -/
  | stageArm (n : Fin 16) (t : Nat)
  /-- STAGE_CANCEL (R195) -/
  | stageCancel (n : Fin 16) (t : Nat)
  /-- STAGE_CHECK_END (R194) -/
  | stageCheckEnd (n : Fin 16) (t : Nat)
  /-- SHELF_WRITE (R203) to a Y Shelf or router Shelf address -/
  | shelfWrite (by_ : Requester) (a : Addr) (w : Word) (t : Nat)
  /-- COMMIT_NOW (R210) -/
  | commitNow (g : Fin 32) (t : Nat)
  /-- SCHEDULE (R212) -/
  | schedule (g : Fin 32) (t : Nat)
  /-- CANCEL (R217) -/
  | cancel (g : Fin 32) (t : Nat)
  /-- REVERT (R218) -/
  | revert (g : Fin 32) (t : Nat)
  /-- COMMIT_DUE (R204): the group's members on the timebase, at the timebase's present tick. -/
  | commitDue (g : Fin 32) (tb : Fin 4) (t : Nat)
  /-- RESHELVE_END (R205) -/
  | reshelveEnd (lane : LaneName) (t : Nat)
  /-- REVERT_DONE (R218) -/
  | revertDone (lane : LaneName) (t : Nat)
  /-- MUTE_WRITE (R252): word `n` of the mute bits. -/
  | muteWrite (n : Fin 35) (w : Word) (t : Nat)
  /-- ZC_TIMEOUT (R254) -/
  | zcTimeout (n : Fin 16) (t : Nat)
  /-- FIRE (R244): a write of GENn_B for an impulse generator. -/
  | fire (n : Fin 8) (w : Word) (t : Nat)
  /-- STREAM_PREFETCH (R246) -/
  | streamPrefetch (m : Fin 64) (t : Nat)
  /-- STREAM_ARRIVAL (R246): `late` when the word misses cycle 0 of its tick. -/
  | streamArrival (m : Fin 64) (late : Bool) (t : Nat)
  /-- TDM_ENABLE (R278) -/
  | tdmEnable (p : Fin 16) (t : Nat)
  /-- TDM_DISABLE (R278) -/
  | tdmDisable (p : Fin 16) (t : Nat)
  /-- MASK_WRITE (R282) -/
  | maskWrite (p : Fin 16) (m : MaskName) (w : Word) (t : Nat)
  /-- TDM_FRAME_MARK (R277): the frame mark of port `p`. The frame it ends had `bits` bit clocks, of which the first
  half `half`, and carried the slot words `slots` (each in the low bits of its word). -/
  | tdmFrameMark (p : Fin 16) (bits : Nat) (half : Nat) (slots : List Word) (t : Nat)
  /-- TDM_MARK_TIMEOUT (R278) -/
  | tdmMarkTimeout (p : Fin 16) (t : Nat)
  /-- TDM_STOP_TIMEOUT (R278) -/
  | tdmStopTimeout (p : Fin 16) (t : Nat)
  /-- STAMP_READ (R286) -/
  | stampRead (by_ : Requester) (p : Fin 16) (t : Nat)
  /-- BPRX_ENABLE (R296) -/
  | bprxEnable (n : Fin 4) (t : Nat)
  /-- BPRX_DISABLE (R296) -/
  | bprxDisable (n : Fin 4) (t : Nat)
  /-- BIPHASE_FRAME (R295) -/
  | biphaseFrame (n : Fin 4) (f : BiphaseFrame) (t : Nat)
  /-- PREAMBLE_TIMEOUT (R296) -/
  | preambleTimeout (n : Fin 4) (t : Nat)
  /-- BPTX_ENABLE (R308) -/
  | bptxEnable (n : Fin 4) (t : Nat)
  /-- BPTX_DISABLE (R308) -/
  | bptxDisable (n : Fin 4) (t : Nat)
  /-- SWAP (R309) -/
  | swap (n : Fin 4) (t : Nat)
  /-- XCLK_LOST (R316) -/
  | xclkLost (t : Nat)
  /-- XCLK_BACK (R316) -/
  | xclkBack (t : Nat)
  /-- DCO_CFG_WRITE (R318) -/
  | dcoCfgWrite (w : Word) (t : Nat)
  /-- XSETTLE_END (R322) -/
  | xsettleEnd (t : Nat)
  /-- LOCK_WINDOW (R321): a window in which DCO/64 gave `count` edges. -/
  | lockWindow (count : Nat) (t : Nat)
  /-- CLOCK_SELECT_WRITE (R327) -/
  | clockSelectWrite (c : ClockName) (w : Word) (t : Nat)
  /-- CLOCK_SWITCH_DONE (R328): `forced` when the old clock gave no edge for 64 target cycles. -/
  | clockSwitchDone (c : ClockName) (forced : Bool) (t : Nat)
  /-- GATE_CLOSE (R330) -/
  | gateClose (n : Fin 15) (t : Nat)
  /-- RATE_MEASUREMENT (R331): 256 edges of input `i` took `count` XCLK cycles; `clean` unless the window overlapped
  an XCLK loss or a failed lock window (R333). -/
  | rateMeasurement (i : Fin 20) (count : Nat) (clean : Bool) (t : Nat)
  /-- RATE_ABSENT (R331) -/
  | rateAbsent (i : Fin 20) (t : Nat)
  /-- ALIGN (R342) -/
  | align (t : Nat)
  /-- ALIGN_LOAD (R342) -/
  | alignLoad (t : Nat)
  /-- RD (R356): `a` is the address phase as sent (R358). -/
  | rd (h : Head) (a : Word) (t : Nat)
  /-- RDC (R356) -/
  | rdc (h : Head) (a : Word) (t : Nat)
  /-- WR (R360): whole words and the bits left over. -/
  | wr (h : Head) (a : Word) (words : List Word) (extraBits : Nat) (t : Nat)
  /-- WRC (R361) -/
  | wrc (h : Head) (a : Word) (b : Body) (t : Nat)
  /-- CMT (R373) -/
  | cmt (h : Head) (b : Body) (t : Nat)
  /-- STS (R373) -/
  | sts (h : Head) (t : Nat)
  /-- KEEP (R363) -/
  | keep (h : Head) (t : Nat)
  /-- ADOPT (R374) -/
  | adopt (h : Head) (b : Body) (t : Nat)
  /-- RST (R476) -/
  | rst (h : Head) (b : Body) (t : Nat)
  /-- ALIGN_FRAME (R373) -/
  | alignFrame (h : Head) (b : Body) (t : Nat)
  /-- READ_READY (R367): the host clocks out `n` words. -/
  | readReady (n : Nat) (pace : ReadPace) (t : Nat)
  /-- READ_ABANDONED (R370): HSEL_N rises after `fetched` words of the read have been fetched. -/
  | readAbandoned (fetched : Nat) (t : Nat)
  /-- POSTED_COMPLETE (R372) -/
  | postedComplete (g : EntryGrant)
  /-- QUARANTINE (R376) -/
  | quarantine (t : Nat)
  /-- RAW_START (R381) -/
  | rawStart (t : Nat)
  /-- RAW_DONE (R381): the words received, first bit in bit 31. -/
  | rawDone (received : List Word) (t : Nat)
  /-- MODE_FAULT (R379) -/
  | modeFault (t : Nat)
  /-- HOWN_RISE (R383) -/
  | hownRise (t : Nat)
  /-- FLASH_BOOT (R382) -/
  | flashBoot (t : Nat)
  /-- FLASH_READ_END (R382): the bytes read from flash. -/
  | flashReadEnd (bytes : List Byte) (t : Nat)
  /-- BEGIN_FULL (R59) -/
  | beginFull (t : Nat)
  /-- BEGIN_PARTIAL (R68) -/
  | beginPartial (t : Nat)
  /-- ABORT (R67) -/
  | abort (t : Nat)
  /-- RESTART (R62) -/
  | restart (t : Nat)
  /-- IMAGE_START (R49) -/
  | imageStart (t : Nat)
  /-- STOPPING_END (R59): `timeout` when it ends by the 10 ms. -/
  | stoppingEnd (timeout : Bool) (t : Nat)
  /-- LOAD_WINDOW_WRITE (R53) -/
  | loadWindowWrite (w : Word) (t : Nat)
  /-- RECEIVE_TIMEOUT (R68) -/
  | receiveTimeout (t : Nat)
  /-- VERIFICATION_END (R54) -/
  | verificationEnd (t : Nat)
  /-- APPLY_END (R57) -/
  | applyEnd (t : Nat)
  /-- UNIT_START (R48): the unit of entry `i` of the START_LIST. -/
  | unitStart (i : Nat) (t : Nat)
  /-- CHANNEL_START (R395) -/
  | channelStart (c : Fin 16) (t : Nat)
  /-- CHANNEL_STOP (R403) -/
  | channelStop (c : Fin 16) (t : Nat)
  /-- STOP_ALL (R403) -/
  | stopAll (t : Nat)
  /-- CLEAR_HALT (R402) -/
  | clearHalt (t : Nat)
  /-- DESCRIPTOR_FETCH (R393) -/
  | descriptorFetch (c : Fin 16) (t : Nat)
  /-- PACE_TICK (R399) -/
  | paceTick (c : Fin 16) (t : Nat)
  /-- TRANSACTION_COMPLETE (R400) -/
  | transactionComplete (c : Fin 16) (g : WordGrant) (t : Nat)
  /-- BUS_ERROR (R401): on channel `c`. -/
  | busError (c : Fin 16) (q : BusRequest) (t : Nat)
  /-- METER_POWER_UP (R423) -/
  | meterPowerUp (t : Nat)
  /-- SEAL (R425): `burnOk` is the read-back of the burn. -/
  | seal (burnOk : Bool) (t : Nat)
  /-- UNSEAL (R425) -/
  | unseal (burnOk : Bool) (t : Nat)
  /-- SEAL_N_CHANGE (R424) -/
  | sealNChange (level : Bool) (t : Nat)
  /-- METER_SECOND (R419): DCO/64 gave `dco` edges in the second, and XCLK edges were present when `xclk`. -/
  | meterSecond (dco : Nat) (xclk : Bool) (t : Nat)
  /-- LT_UPDATE (R412) -/
  | ltUpdate (t : Nat)
  /-- TAP_FRAME (R415): a frame of channel `m`'s tapped pair, as TDM_FRAME_MARK, at `rateOk` the class 1 class it measured. -/
  | tapFrame (m : Fin 2) (bits : Nat) (half : Nat) (slots : List Word) (cls : BitVec 4) (t : Nat)
  /-- TAP_TIMEOUT (R415) -/
  | tapTimeout (m : Fin 2) (t : Nat)
  /-- CLOCK_DEGRADED (R417) -/
  | clockDegraded (t : Nat)
  /-- PARAM_RELOAD (R433): word `n` of the shadow failed its parity check. -/
  | paramReload (n : Fin 24) (t : Nat)
  /-- VIN_LOSS (R443): `overVoltage` when VIN rose past the over-voltage threshold. -/
  | vinLoss (overVoltage : Bool) (t : Nat)
  /-- POWER_UP (R444) with the straps sampled at its step 7 -/
  | powerUp (straps : Straps) (t : Nat)
  /-- RAIL_TIMEOUT (R444) -/
  | railTimeout (t : Nat)
  /-- DOMAIN_EN_WRITE (R451) -/
  | domainEnWrite (w : Word) (t : Nat)
  /-- DOMAIN_DONE (R450): SW`(n + 1)` -/
  | domainDone (n : Fin 20) (t : Nat)
  /-- STORE_LOST (R452) -/
  | storeLost (q : Fin 4) (t : Nat)
  /-- SLEEP (R455) -/
  | sleep (t : Nat)
  /-- DEEP_SLEEP (R456) -/
  | deepSleep (t : Nat)
  /-- RUN (R457) -/
  | run (t : Nat)
  /-- MODE_DONE (R454) -/
  | modeDone (t : Nat)
  /-- WAKE (R457) -/
  | wake (t : Nat)
  /-- WAKE_GPIO (R457): pin `i` has held `level` for 10 microseconds. -/
  | wakeGpio (i : Fin 16) (level : Bool) (t : Nat)
  /-- WAKE_RESUME (R458) -/
  | wakeResume (t : Nat)
  /-- AUX_FAULT (R448) -/
  | auxFault (o : AuxName) (t : Nat)
  /-- AUX_RETRY (R448) -/
  | auxRetry (o : AuxName) (t : Nat)
  /-- TELEMETRY_UPDATE (R461) -/
  | telemetryUpdate (m : Telemetry) (t : Nat)
  /-- THERM_SHUT (R464) -/
  | thermShut (t : Nat)
  /-- THERMAL_CUTOFF (R465) -/
  | thermalCutoff (temp : BitVec 16) (t : Nat)
  /-- RESET_N (R475): low for `lowNs` nanoseconds, with the straps sampled at its rising edge. -/
  | resetN (lowNs : Nat) (straps : Straps) (t : Nat)
  /-- ROM_CHECK_END (R472) -/
  | romCheckEnd (ok : Bool) (t : Nat)
  /-- NO_LOCK (R473) -/
  | noLock (t : Nat)
  /-- RST_MODULE (R476) with the straps sampled -/
  | rstModule (straps : Straps) (t : Nat)
  /-- RST_CORE (R480) -/
  | rstCore (t : Nat)
  /-- RST_DMA (R476) -/
  | rstDma (t : Nat)
  /-- RST_ROUTER (R476) -/
  | rstRouter (t : Nat)
  /-- RST_TDM_LOW (R476) -/
  | rstTdmLow (t : Nat)
  /-- RST_TDM_HIGH (R476) -/
  | rstTdmHigh (t : Nat)
  /-- RST_BIPHASE (R476) -/
  | rstBiphase (t : Nat)
  /-- RST_SET (R476) -/
  | rstSet (set : Fin 8) (t : Nat)
  /-- DOORBELL (R483) -/
  | doorbell (w : Word) (t : Nat)
  /-- PING (R484): the core handles the waiting command. -/
  | ping (t : Nat)
  /-- IMAGE_LOAD (R485): the core handles the waiting command. -/
  | imageLoad (t : Nat)
  /-- SET_CONTROL (R493): the core handles the waiting command. -/
  | setControl (t : Nat)
  /-- EVENT_FIRE (R484): the core handles the waiting command. -/
  | eventFire (t : Nat)
  /-- EVENT_LIST_FIRE (R488): entry `i`, at the present tick of its timebase; `late` when its firing ends after the next. -/
  | eventListFire (i : Fin 1024) (late : Bool) (t : Nat)
  /-- GPIO_EVENT (R497): pin `i` has held `level` for 2 HCLK cycles; `busy` while its previous event waits. -/
  | gpioEvent (i : Fin 16) (level : Bool) (busy : Bool) (t : Nat)
  /-- TICK_OUT_END (R498) -/
  | tickOutEnd (i : Fin 16) (t : Nat)
  /-- UNLOCK (R504) -/
  | unlock (w : Word) (t : Nat)
  /-- ARB_ENG (R508) -/
  | arbEng (w : Word) (t : Nat)
  /-- ARB_LOWER (R508) -/
  | arbLower (w : Word) (t : Nat)
  /-- FAR_LAT (R507) -/
  | farLat (n : Fin 32) (w : Word) (t : Nat)
  /-- BP (R507) -/
  | bp (i : Fin 20) (w : Word) (t : Nat)
  /-- BP_EXPIRY (R509) -/
  | bpExpiry (i : Fin 20) (t : Nat)
  /-- HOST_NOTREADY (R507) -/
  | hostNotready (w : Word) (t : Nat)
  /-- TICK_SHIFT (R507) -/
  | tickShift (w : Word) (t : Nat)
  /-- TICK_SUPPRESS (R507) -/
  | tickSuppress (w : Word) (t : Nat)
  /-- DCO_OFFSET (R507) -/
  | dcoOffset (w : Word) (t : Nat)
  /-- DMA_ERR (R507) -/
  | dmaErr (w : Word) (t : Nat)
  /-- SLIP (R507) -/
  | slip (w : Word) (t : Nat)
  /-- LOOP (R510) -/
  | loop (w : Word) (t : Nat)
  /-- BAD_OPCODE_FRAME (R363) -/
  | badOpcodeFrame (opcode : BitVec 5) (h : Head) (t : Nat)
  /-- BAD_OPCODE_COMMAND (R484): the core handles the waiting command. -/
  | badOpcodeCommand (t : Nat)
  /-- OVER_VOLTAGE_RESTART (R443) with the straps sampled -/
  | overVoltageRestart (straps : Straps) (t : Nat)
  /-- AUX_POWER_GOOD (R448): the output's voltage enters or leaves its window. -/
  | auxPowerGood (o : AuxName) (inWindow : Bool) (t : Nat)
  /-- TEST_ACCESS_PORT (R530) -/
  | testAccessPort (i : TapInstr) (t : Nat)
  deriving DecidableEq, Repr

end Sys2Proof
end

