-- ==== Sys2Proof/Decode.lean ====
section
/-!
DEFINITION. The command that a word of the operation table's bits spells, and the frame that a command word of the host port begins
(R357). No row of the table gives bits: the part's commands are accesses, frames and events, and none is fetched as a word. (The
engines' own instruction words are decoded in Sys2Proof/Machine/Operands.lean.)
-/

namespace Sys2Proof

/-- The command spelled by `nbits` bits of the operation table: none, since no row gives bits. -/
def decodeTableWord (_nbits _w : Nat) : Option Instr := none

/-- What follows the command phase of a frame as it arrives: HCHK, the level of HOWN_N, the address phase, the whole words, DCHK and the
bits left over (R356, R364, R371). -/
structure FrameRest where
  hchk : Option (BitVec 16)
  ownLow : Bool
  address : Word
  words : List Word
  dchk : BitVec 16
  extraBits : Nat
  deriving DecidableEq, Repr

/-- The frame that a command word begins: [15:11] OPCODE, [10:4] DEVICE, [3:0] GEN (R357). A reserved OPCODE begins a frame that acts on
nothing (R363). -/
def frameOf (w : BitVec 16) (r : FrameRest) (t : Nat) : Instr :=
  let h : Head := ⟨w.extractLsb' 4 7, w.extractLsb' 0 4, r.hchk, r.ownLow⟩
  let b : Body := ⟨r.words, r.dchk, r.extraBits⟩
  match (w.extractLsb' 11 5).toNat with
  | 1 => .rd h r.address t
  | 2 => .rdc h r.address t
  | 3 => .wr h r.address r.words r.extraBits t
  | 4 => .wrc h r.address b t
  | 5 => .cmt h b t
  | 6 => .sts h t
  | 7 => .keep h t
  | 8 => .adopt h b t
  | 9 => .rst h b t
  | 10 => .alignFrame h b t
  | _ => .badOpcodeFrame (w.extractLsb' 11 5) h t

end Sys2Proof
end

