-- ==== Sys2Proof/Config.lean ====
section
/-!
DEFINITION. What an implementation fixes and the free values: constants without a body, of which nothing can be proved but
what their types say. Each is named in an entry of the assumption log.
-/

namespace Sys2Proof.Config

/-- Whether KIND of the header, and not the command that began the load, says what an image is where the two disagree (R37, R51). -/
opaque headerKind : Bool

/-- The contents of a Delay Store quarter of banks 8 to 15 after the `n`-th time a full load destroyed one, by word address
(R62). -/
opaque freeStore : Nat → Nat → Word

/-- What a counter that stands at its greatest value becomes at an increment, where the manual states no wrap. -/
opaque counterFull : Word

/-- A value wider than the field that shows it, where the manual states no limit: what the field shows. -/
opaque wideField : Nat → Nat → Nat

/-- The error with which a sine generator forms its value, by phase and ATTEN, held within 2^-28 where it is used (R244). -/
opaque sineError : Nat → Nat → Rat

/-- A pink noise generator's sequence, by generator and tick, in units of its own rms (R244). -/
opaque pinkNoise : Nat → Nat → Rat

/-- The error of a high-pass filter's own arithmetic, by corner, rate, state and input, held within 2^-24 where it is used (R242). -/
opaque highPassError : Nat → Rat → List Int → Word → Rat

/-- A weighting filter's next state and output, by weighting (0 A, 1 C, 2 Z), rate class, state and input (R412, R414). -/
opaque weighting : Nat → Nat → List Int → Word → List Int × Rat

/-- The read-back of a burn into the seal store, for a SEAL_CMD written through the address map, by the model's count of free values
(R425). -/
opaque burnReads : Nat → Bool

/-- The bits a looped-back TDM port samples in a slot it leaves undriven, by port, slot and frame (R276, R510). -/
opaque undriven : Nat → Nat → Nat → Word

/-- The bank cycles that a request of a lower class waits at a Delay Store bank where nothing outside shows its wait, by the model's count
of free values, held within R192 where it is used (R186, R192, R200). -/
opaque bankWait : Nat → Nat

/-- What a preload of the boundary register has each output cell drive, by the model's count of free values and land, none for a cell that
drives nothing (R530). -/
opaque preloaded : Nat → Nat → Option Bool

/-- The level of a data output within its frame as the boundary register captures it, by the model's count of free values and land
(R530). -/
opaque sentLevel : Nat → Nat → Bool

/-- DETAIL of a log entry whose DETAIL holds two values that the manual does not place in it (R428). -/
opaque detailPair : Nat → Nat → Nat

/-- The difference in ppm of a count of DCO/64 edges from a demand for none (R428). -/
opaque ppmOfNone : Nat → Int

/-- Whether a quantity that falls between two values of the register that shows it reads as the upper of them (R337, R376, R419). -/
opaque roundUp : Rat → Bool

/-- Whether a pulse on RESET_N between 100 ns and 1 microsecond resets the module, by the model's count of free values (R475). -/
opaque resetTaken : Nat → Bool

/-- Whether a write in flight at a reset of the side that sent it has landed, by the model's count of free values (R476, R478). -/
opaque writeLands : Nat → Bool

/-- DATA0 of the PERTURB entry logged at tR with TESTEN 1, when no value was written (R506). -/
opaque testenData : Nat

/-- The part of its frequency by which the DCO has drifted in HOLDOVER, by cycle, held within 50 ppm where it is used (R324). -/
opaque holdDrift : Nat → Rat

/-- The AON oscillator's rate over its nominal one, by cycle, held between 1 and 1.3 where it is used (R376). -/
opaque aonRate : Nat → Rat

/-- What becomes of a word that crosses clocks whose ratio breaks a limit: the word that is stored or read in its place, by the model's
count of free values and the word (R326). -/
opaque crossedWord : Nat → Word → Word

/-- Whether a control word stored under a broken clock ratio is under a parity error, by the model's count of free values (R326). -/
opaque crossedBad : Nat → Bool

/-- Whether a posted write into an FCLK unit is lost with HCLK above FCLK, by the model's count of free values (R326). -/
opaque postedLost : Nat → Bool

/-- What a host read of an FCLK unit returns with HCLK above FCLK, by the model's count of free values and the present word (R326). -/
opaque staleWord : Nat → Word → Word

/-- The steering the discipline loop demands next, in units of 2^-24, by the present steering, the mark's error in cycles and
DISC.BW (R319, R320). -/
opaque steerDemand : Int → Int → Nat → Int

end Sys2Proof.Config
end

