-- ==== Sys2Proof/Machine/State.lean ====
section
/-!
DEFINITION. The state of the SLS-4832 as plain data, its stop reasons and the state after reset.

Control-block registers that a field of a unit does not already hold live in `State.regs`, keyed by byte address: an
unlisted register reads its Reset value (Sys2Proof/Machine/RegMap.lean). Addressed memories live in `State.mem`, one byte per cell;
an unlisted byte reads zero. Every other piece of state is a named field of the unit it belongs to.
Gains and levels are exact rationals; `Sparse` tables name their default where they are read.
-/

namespace Sys2Proof.Machine

/-! ## Engines -/

/-- Engine states (R88, R101). -/
inductive EngState where
  | off
  | stopped
  | armed
  | running
  | faulted
  deriving DecidableEq, Repr

/-- When an ARMED engine starts (R88, R89): the next tick of its timebase, or its first tick at or after a TB0 tick. -/
inductive StartAt where
  | nextTick
  | atTb0 (c : Nat)
  deriving DecidableEq, Repr

/-- Where a result in flight lands (R137). -/
inductive Dest where
  | d (n : Nat)
  | g (n : Nat)
  | accSource (n : Nat)
  | flags
  | pointer (n : Nat)
  deriving DecidableEq, Repr

/-- One result in flight: the cycle it lands, the cycle its instruction issued, its slot's rank under R139 (CTRL 3, ARITH 2, YMOVE 1, XMOVE 0), where
it lands and its value; `mark` is an accumulator's saturation mark. -/
structure Landing where
  due : Nat
  issued : Nat
  rank : Nat
  dest : Dest
  val : Acc
  mark : Bool
  deriving DecidableEq, Repr

/-- One active block of a REP: its first word and its END (R157). -/
structure Block where
  first : Nat
  last : Nat
  deriving DecidableEq, Repr

/-- One entry of an engine's far queue (R130, R131, R175 to R178). `w0` and `w1` are the byte addresses of the word requests not yet granted, `none`
for a word that has been granted or makes no request; `hold0` and `hold1` the bank cycles each is held from its arrival (R508), and `v0` and `v1` the
words granted, zero for one that makes no request. `value` is the word returned, once `arrived` is the cycle of arrival. `passed` when the deadline
fell outside a Round; `counted` once the read has been counted as late, or is not to be (R10); `dead` once its engine has left RUNNING, so that its
word is discarded (R181). -/
structure FarReq where
  read : Bool
  issued : Nat
  deadline : Nat
  g : Nat
  w0 : Option Nat
  w1 : Option Nat
  hold0 : Nat
  hold1 : Nat
  v0 : Word
  v1 : Word
  interp : Bool
  frac : Nat
  data : Word
  arrived : Option Nat
  value : Word
  passed : Bool
  counted : Bool
  dead : Bool := false
  deriving DecidableEq, Repr

/-- A running glide ramp (R224): the slot that started it, its Y word, its endpoints, its length G and the present tick j. -/
structure Ramp where
  slot : Nat
  addr : Nat
  v0 : Word
  v1 : Word
  len : Nat
  j : Nat
  deriving DecidableEq, Repr

/-- What waits on a copy lane, in arrival order (R206, R218): a Shelf write, or the copy of a REVERT of a group. -/
inductive LaneWait where
  | write (a : Nat) (w : Word)
  | revert (g : Nat)
  deriving DecidableEq, Repr

/-- What a copy lane is doing (R205, R218). `reshelve` and `revert` hold the Shelf words still to copy, by their offset in the Shelf. -/
inductive LaneJob where
  | idle
  | reshelve (words : List Nat)
  | revert (g : Nat)
  deriving DecidableEq, Repr

/-- A Shelf write that has landed: the word's offset, what it wrote, what stood there before and whether that was under a parity error, and whether
the write made the word dirty. -/
structure LandedWrite where
  a : Nat
  w : Word
  old : Word
  oldBad : Bool
  fresh : Bool
  deriving DecidableEq, Repr

/-- One copy lane: its job, what waits on it, the Shelf words that are dirty (R203, R205), the tick number of the last exchange, so that several
groups due in one tick share it (R216), and the writes that landed in the cycle `landedAt`, newest first, which an exchange in that cycle comes before
(R206). -/
structure Lane where
  job : LaneJob
  waiting : List LaneWait
  dirty : List Nat
  exchanged : Option Nat
  landedAt : Nat := 0
  landed : List LandedWrite := []
  deriving DecidableEq, Repr

/-- One engine (R70, R72, R88, R99). `pubWork` holds the working values last published, before the gain; `dueAt` the cycle at which the Round of a
tick is to start, until it starts (R17, R76); `structSeen` once a parity error in a structural register has taken effect (R88); `ptrFresh` the staged
pointer words written since they were last made live, `4 p + k` (R153, R154); `ramps` the running glide ramps, latest first; `pubSince` whether a
publication has fallen since the last tick (R82). Tables: `d`, `g`, `inp`, `outw`, `pub` hold words, default 0; `acc` is the value an accumulating
operation starts from and `accSource` the value a source read sees (R137, R138); `mark` and `markSource` are the saturation marks, default false;
`ptrOff` and `ptrView` the offsets, default 0; `ptrLive` the live pointer configuration, word `4 p + k` with k = 0 CFG, 1 MOD, 2 INIT, default 0;
`fDrawer`, `fTap`, `fFrac` the far descriptor parts, default 0; `lc` the loop counters, default 0. -/
structure Engine where
  st : EngState
  start : StartAt
  stopping : Bool
  stopAtEnd : Bool
  reload : Bool
  gain : Rat
  pubTag : Option Nat
  roundTick : Option Nat
  latched : Option Nat
  skipTick : Option Nat
  inRound : Bool
  ridx : Nat
  pc : Nat
  issued : Nat
  cyc : Nat
  firstCyc : Nat
  slotsDone : List SlotName
  repeatTo : Option (Nat × Nat)
  finalSeen : Bool
  published : Bool
  pubSince : Bool
  blocks : List Block
  lc : Sparse (BitVec 16)
  d : Sparse Word
  acc : Sparse Acc
  accSource : Sparse Acc
  mark : Sparse Bool
  markSource : Sparse Bool
  lt : Bool
  eq : Bool
  ptrOff : Sparse (BitVec 13)
  ptrView : Sparse (BitVec 13)
  ptrLive : Sparse Word
  fDrawer : Sparse Word
  fTap : Sparse Word
  fFrac : Sparse Word
  g : Sparse Word
  inp : Sparse Word
  outw : Sparse Word
  pub : Sparse Word
  pubWork : Sparse Word
  dueAt : Option Nat
  structSeen : Bool
  ptrFresh : List Nat
  landings : List Landing
  far : List FarReq
  lastFar : Option Nat
  stalled : Bool
  ramps : List Ramp
  tableBank : Bool
  lane : Lane
  deriving DecidableEq, Repr

/-- An idle lane with nothing dirty. -/
def Lane.reset : Lane := ⟨.idle, [], [], none, 0, []⟩

/-- An engine after reset: OFF with g at 0 (R99). -/
def Engine.reset : Engine where
  st := .off
  start := .nextTick
  stopping := false
  stopAtEnd := false
  reload := false
  gain := 0
  pubTag := none
  roundTick := none
  latched := none
  skipTick := none
  inRound := false
  ridx := 0
  pc := 0
  issued := 0
  cyc := 0
  firstCyc := 0
  slotsDone := []
  repeatTo := none
  finalSeen := false
  published := false
  pubSince := false
  blocks := []
  lc := []
  d := []
  acc := []
  accSource := []
  mark := []
  markSource := []
  lt := false
  eq := false
  ptrOff := []
  ptrView := []
  ptrLive := []
  fDrawer := []
  fTap := []
  fFrac := []
  g := []
  inp := []
  outw := []
  pub := []
  pubWork := []
  dueAt := none
  structSeen := false
  ptrFresh := []
  landings := []
  far := []
  lastFar := none
  stalled := false
  ramps := []
  tableBank := false
  lane := Lane.reset

/-! ## Commit groups and stage entries -/

/-- Commit group states (R219). -/
inductive GroupState where
  | idle
  | pending
  | scheduled
  | deferred
  deriving DecidableEq, Repr

/-- A member of a commit group (R208). -/
inductive Member where
  | engine (e : Nat)
  | router
  | tdm (p : Nat)
  | bprx (n : Nat)
  | bptx (n : Nat)
  | stage (n : Nat)
  deriving DecidableEq, Repr

/-- One commit group's outstanding commit: its state, its scheduled tick, the tick number each timebase had when the command acted, the members that
have taken it, the engines that will take it at the publication of a squeezed Round (R86), the timebases on which it last deferred (R219), and the
tick last deferred on each timebase. -/
structure Group where
  st : GroupState
  sched : Option Nat
  from_ : Sparse Nat
  taken : List Member
  late : List Nat
  deferring : List Nat
  deferredAt : Sparse Nat
  deriving DecidableEq, Repr

/-- An IDLE group. -/
def Group.reset : Group := ⟨.idle, none, [], [], [], [], []⟩

/-- Stage entry states (R202). -/
inductive StageState where
  | idle
  | checking
  | ready
  | refused
  deriving DecidableEq, Repr

/-- One stage entry's state and CAUSE (R202), and the timebase and its tick number at which it was last applied, so that several groups due in one
tick share it (R216). -/
structure Stage where
  st : StageState
  cause : BitVec 4
  appliedAt : Option (Nat × Nat)
  deriving DecidableEq, Repr

/-- An IDLE stage entry. -/
def Stage.reset : Stage := ⟨.idle, 0, none⟩

/-! ## Timebases -/

/-- Timebase states (R338). -/
inductive TbState where
  | off
  | acquire
  | tracking
  | flywheel
  | hold
  deriving DecidableEq, Repr

/-- One timebase (R337, R338). `period` is P in ECLK cycles, `hist` its interval history, newest first. `ref` is the reference instant, `lastTick` the
last tick, `interval` the tick interval that it closed, 0 before the second tick, `realTick` the last tick taken in TRACKING since TRACKING was last
entered or a flywheel tick was made, `tickNo` the number of ticks made. `lastMark` and `acq` serve ACQUIRE, HOLD and the return from FLYWHEEL.
`shifted` is set between a tick moved by TICK_SHIFT and the next one. `heldAt` and `frameAt` are the instants of the last tick or of the last period
of a hold that has passed, as the engines' gains (R82, R87) and the transmitters' frames (R306) count them. `evlAt` and `evlPrev` are the TB0 tick
counts at its latest tick and at the one before it, from the latest resumption of the event list on (R459, R488). -/
structure Timebase where
  st : TbState
  period : Rat
  hist : List Nat
  ref : Nat
  lastTick : Nat
  interval : Nat
  realTick : Option Nat
  tickNo : Nat
  lastMark : Option Nat
  acq : List Nat
  fly : Nat
  flyCancel : Bool
  glitched : Bool
  glitchRun : Nat
  mismatch : Bool
  shifted : Bool
  heldAt : Rat
  frameAt : Rat
  evlAt : Option Nat
  evlPrev : Option Nat
  deriving DecidableEq, Repr

/-- A timebase after reset: OFF, with P at 0 (R347). -/
def Timebase.reset : Timebase :=
  ⟨.off, 0, [], 0, 0, 0, none, 0, none, [], 0, false, false, 0, false, false, 0, 0, none, none⟩

/-! ## Fades and ports -/

/-- A gain on its way to 0 or 1: the gain, whether it rises, and the step latched when the fade began. -/
structure Fade where
  gain : Rat
  up : Bool
  step : Rat
  deriving DecidableEq, Repr

/-- A gain at 0. -/
def Fade.zero : Fade := ⟨0, false, 0⟩

/-- TDM port and biphase transmitter states (R278, R308). -/
inductive PortState where
  | disabled
  | starting
  | running
  | hold
  | stopping
  | faulted
  deriving DecidableEq, Repr

/-- A slot-mask sequence (R283): its target masks, whether the added slots are rising, the receive and transmit steps done, the latched FADE_LEN once
read, and whether the port was aligned when it began. -/
structure MaskSeq where
  rx : Word
  tx : Word
  adding : Bool
  rxStep : Nat
  txStep : Nat
  len : Option Nat
  aligned : Bool
  deriving DecidableEq, Repr

/-- The receive side of a port that passes frames to ticks (R274, R275, R280, R281): the frames waiting, oldest first, the frame an aligned port has
completed, the frame the sources hold, whether the FIFO has settled, whether an overrun is still to be recovered, whether the last tick repeated, the
faults in progress, and the frames read since a fault. -/
structure RxSide where
  fifo : List (List Word)
  fresh : Option (List Word)
  held : List Word
  settled : Bool
  trim : Bool
  repeated : Bool
  under : Bool
  overrun : Bool
  good : Nat
  deriving DecidableEq, Repr

/-- A receive side with nothing received. -/
def RxSide.reset : RxSide := ⟨[], none, [], false, false, false, false, false, 0⟩

/-- A frame to be transmitted: one value for each slot, and the removal step of R283 it carries. -/
structure PortFrame where
  slots : List Word
  step : Nat
  deriving DecidableEq, Repr

/-- One TDM port (R268 to R292). `count` counts stable frames, or zero frames in STOPPING, toward `countTo`; `tx` and `rx` are the two gains;
`prevBits` the bit count of the last frame received whole; `lastMark` the cycle of the last frame mark; `unstable` the run of frames that are not
stable; `rxs` the receive side; `lastTx` the last frame sent; `txGood` the frames taken since a transmit fault; `frameNo` the frames since RUNNING;
`stamps` the stamp entries, oldest first, and `stampAt` the cycle of the newest; `slipTx` a forced slip still to act on the transmit FIFO, true for a
repeat (R507); `quiet` while QUARANTINE holds SDO undriven (R288); `sdo` what the port drives in each slot of the present frame, and `rest` what it
drives in every other bit of it, the delay before the slots and the bits beyond them, `none` for undriven (R270, R276). -/
structure Port where
  st : PortState
  restart : Bool
  count : Nat
  countTo : Option Nat
  tx : Fade
  rx : Fade
  prevBits : Option Nat
  lastMark : Option Nat
  unstable : Nat
  rxs : RxSide
  txFifo : List PortFrame
  lastTx : PortFrame
  txUnder : Bool
  txOver : Bool
  txGood : Nat
  rxLive : Word
  txLive : Word
  seq : Option MaskSeq
  next : Option (Word × Word)
  frameNo : Nat
  stamps : List (BitVec 64 × Word)
  stampAt : Option Nat
  slipTx : Option Bool
  quiet : Bool
  sdo : List (Option Word)
  rest : Option Word
  deriving DecidableEq, Repr

/-- A port after reset: DISABLED (R290). -/
def Port.reset : Port where
  st := .disabled
  restart := false
  count := 0
  countTo := none
  tx := Fade.zero
  rx := Fade.zero
  prevBits := none
  lastMark := none
  unstable := 0
  rxs := RxSide.reset
  txFifo := []
  lastTx := ⟨[], 0⟩
  txUnder := false
  txOver := false
  txGood := 0
  rxLive := 0
  txLive := 0
  seq := none
  next := none
  frameNo := 0
  stamps := []
  stampAt := none
  slipTx := none
  quiet := false
  sdo := []
  rest := none

/-- Biphase receiver states (R296). -/
inductive RxState where
  | disabled
  | searching
  | running
  | hold
  | faulted
  deriving DecidableEq, Repr

/-- One channel of a biphase receiver (R296, R301, R302): its gain, whether it is open, NONPCM, PRO, and the C and U bits of the block in progress,
first bit first. -/
structure RxChannel where
  fade : Fade
  isOpen : Bool
  nonpcm : Bool
  pro : Bool
  cBits : List Bool
  uBits : List Bool
  deriving DecidableEq, Repr

/-- A closed channel. -/
def RxChannel.reset : RxChannel := ⟨Fade.zero, false, false, false, [], []⟩

/-- One biphase receiver (R295 to R305). `leaving` while it fades toward DISABLED, `badRun` the run of bad frames, `prevPeriod` the period of the
frame before, `place` the place in its block of the last frame once a Z has been seen, `blockGood` whether every frame of the block was good,
`blockNo` the blocks since RUNNING, `rxs` the receive side: each frame holds the two audio words and a word whose bits 0 and 1 cut channel A and B;
`lost` the cuts of frames that were discarded before they became a source, which the next frame carries (R301). -/
structure BpRx where
  st : RxState
  leaving : Bool
  count : Nat
  countTo : Option Nat
  badRun : Nat
  prevPeriod : Option Nat
  place : Option Nat
  blockGood : Bool
  blockNo : Nat
  a : RxChannel
  b : RxChannel
  rxs : RxSide
  lost : Word
  deriving DecidableEq, Repr

/-- A receiver after reset: DISABLED (R313). -/
def BpRx.reset : BpRx where
  st := .disabled
  leaving := false
  count := 0
  countTo := none
  badRun := 0
  prevPeriod := none
  place := none
  blockGood := false
  blockNo := 0
  a := RxChannel.reset
  b := RxChannel.reset
  rxs := RxSide.reset
  lost := 0

/-- What a biphase transmitter put on BPO in one frame: preamble Z, the two audio fields, V, the two C and U bits, and the parity of each subframe
(R307). -/
structure TxFrame where
  z : Bool
  audioA : Word
  audioB : Word
  v : Bool
  cA : Bool
  cB : Bool
  uA : Bool
  uB : Bool
  pA : Bool
  pB : Bool
  deriving DecidableEq, Repr

/-- One biphase transmitter (R306 to R312). `frame` is the place of the next frame in its block, `swapAt` the tick number at which a SWAP was armed
while one is pending, `delivered` the values delivered for the next frame, and `sent` the frame on the wire, `none` while BPO is held low. -/
structure BpTx where
  st : PortState
  restart : Bool
  count : Nat
  countTo : Option Nat
  fade : Fade
  frame : Nat
  swapAt : Option Nat
  delivered : List Word
  sent : Option TxFrame
  deriving DecidableEq, Repr

/-- A transmitter after reset: DISABLED (R314). -/
def BpTx.reset : BpTx := ⟨.disabled, false, 0, none, Fade.zero, 0, none, [], none⟩

/-! ## Router -/

/-- One sample in a look-ahead line (R239): its sum in raw Q14.52, its target in dB, and the applied gain in dB when it entered. -/
structure LimSample where
  sum : Int
  target : Rat
  entered : Rat
  deriving DecidableEq, Repr

/-- A column limiter's state (R239): the applied gain in dB, never above 0, and the look-ahead line, oldest first. -/
structure Limiter where
  gain : Rat
  line : List LimSample
  deriving DecidableEq, Repr

/-- A crosspoint's gain ramp (R249). -/
structure XptRamp where
  g0 : Int
  g1 : Int
  n : Nat
  j : Nat
  deriving DecidableEq, Repr

/-- The old side of a crossfade (R250, R251, R253): an entry still followed, or a sample held. -/
inductive FadeFrom where
  | entry (w : Word)
  | held (w : Word)
  deriving DecidableEq, Repr

/-- A row's or a sink's crossfade (R250, R251). -/
structure Cross where
  old : FadeFrom
  n : Nat
  j : Nat
  deriving DecidableEq, Repr

/-- A sink's MUTE fade (R252): the value it starts from when it interrupted another ramp, its length once the change has acted, and the next step. -/
structure MuteFade where
  held : Option Word
  n : Option Nat
  j : Nat
  deriving DecidableEq, Repr

/-- What waits on a zero-cross sink (R254, R255): a patch change, the MUTE level to come, and the ticks of the sink since the first waiting change
fell due. -/
structure ZcWait where
  patch : Bool
  mute : Option Bool
  ticks : Nat
  deriving DecidableEq, Repr

/-- A stream source's prefetch (R246): the byte address issued, `none` for no drawer, the cycle of issue, the bank cycles for which it is held from
its arrival (R508), and the word once it has arrived. -/
structure Prefetch where
  addr : Option Nat
  issued : Nat
  hold : Nat
  word : Option Word
  deriving DecidableEq, Repr

/-- A test generator (R244): its phase, the ticks since its last periodic impulse, a FIRE that waits, and the ticks it has run. -/
structure Gen where
  phase : BitVec 24
  since : Option Nat
  fire : Bool
  count : Nat
  deriving DecidableEq, Repr

/-- The router's state (R228 to R255). `src` holds each source's value at its own step 1 and `snap` all of them at the last step 1 of each timebase;
`row` the row values of the last computation; `sums` each active column's raw sum and the place of its last crosspoint in the lanes' order, `computed`
the results to be delivered at the next TB0 step 4, `col` those last delivered; `sink` the values last delivered; all default 0. `patchOld` holds the
patch entry still in effect on a sink whose change waits, `patchWait` the sinks whose change waits for the first tick of their own timebase (R251),
`muteAt` the MUTE bits as they stood at each sink's last tick (R252), `muted` the MUTE level in effect, `mixFade` the gain of R233 by timebase,
default 1. -/
structure Router where
  src : Sparse Word
  snap : Sparse (Sparse Word)
  row : Sparse Word
  sums : Sparse (Int × Nat)
  computedAt : Option Nat
  computed : Sparse Word
  col : Sparse Word
  sink : Sparse Word
  lim : Sparse Limiter
  xpt : Sparse (Option XptRamp)
  rowFade : Sparse (Option Cross)
  sinkFade : Sparse (Option Cross)
  muteFade : Sparse (Option MuteFade)
  muted : Sparse Bool
  patchOld : Sparse (Option Word)
  patchWait : List Nat
  muteAt : Sparse Bool
  mixFade : Sparse Rat
  zc : Sparse (Option ZcWait)
  gens : Sparse Gen
  prefetch : Sparse (Option Prefetch)
  hpfLive : Sparse Word
  hpfState : Sparse (List Int)
  lane : Lane
  tableBank : Bool
  deriving DecidableEq, Repr

/-- A limiter at 0 dB with its line at zero (R241). -/
def Limiter.reset : Limiter := ⟨0, []⟩

/-- A generator at rest. -/
def Gen.reset : Gen := ⟨0, none, false, 0⟩

/-- The router after reset (R241). -/
def Router.reset : Router where
  src := []
  snap := []
  row := []
  sums := []
  computedAt := none
  computed := []
  col := []
  sink := []
  lim := []
  xpt := []
  rowFade := []
  sinkFade := []
  muteFade := []
  muted := []
  patchOld := []
  patchWait := []
  muteAt := []
  mixFade := []
  zc := []
  gens := []
  prefetch := []
  hpfLive := []
  hpfState := []
  lane := Lane.reset
  tableBank := false

/-! ## Clocks -/

/-- DCO states (R323). -/
inductive DcoState where
  | off
  | settling
  | comparing
  | locked
  | holdover
  deriving DecidableEq, Repr

/-- The clock generator (R316 to R330). `steer` is s in units of 2^-24, `held` the control word held in HOLDOVER, `settling` while an XSETTLE delay
runs, `passes` the consecutive windows passed, `discMark` the last discipline mark, `discRun` and `unlockRun` the runs of R320, `windowWord` the
control word at the start of the present lock window (R323), `pinHz` the frequency at the XCLK land in Hz, which is the board's (R315), `spoilt` the
rate meter inputs whose present window overlaps an XCLK loss or a failed lock window (R324, R333), `sel` the pending target of each clock's switch,
`closed` the closed gates, `saved` the domain clock settings at deep-sleep entry. -/
structure Clocks where
  xclkOk : Bool
  dco : DcoState
  settling : Bool
  passes : Nat
  steer : Int
  held : Option (Word × Int)
  discMark : Option Nat
  discLocked : Bool
  discClamp : Bool
  discRun : Nat
  unlockRun : Nat
  windowWord : Word × Int
  pinHz : Nat
  spoilt : List Nat
  sel : Sparse (Option Word)
  closed : List Nat
  saved : Option (Word × Word × Word)
  rmRef : Sparse Nat
  rmOut : Sparse Bool
  deriving DecidableEq, Repr

/-- The clock generator at the start of step 1 of R472: XCLK present, the DCO SETTLING. R344's Reset column gives DCO_STATUS 0x0000_0000, while R472
(step 1), R316 and R323 have XCLK_OK at 1 and the DCO SETTLING from tR on: the model follows the latter, so DCO_STATUS reads 0x0000_0104 (DESIGN
CHOICE, log entry 70). The XCLK land has 24.576 MHz, XCLK_FREQ's Reset value (DESIGN CHOICE, log entry 71). -/
def Clocks.reset : Clocks where
  xclkOk := true
  dco := .settling
  settling := true
  passes := 0
  steer := 0
  held := none
  discMark := none
  discLocked := false
  discClamp := false
  discRun := 0
  unlockRun := 0
  windowWord := (0x00320000, 0)
  pinHz := 24576000
  spoilt := []
  sel := []
  closed := []
  saved := none
  rmRef := []
  rmOut := []

/-! ## Host port -/

/-- The failover states of a module (R376, R384). -/
inductive SysState where
  | normal
  | quarantine
  | superseded
  deriving DecidableEq, Repr

/-- A posted write or command (R372). -/
inductive Posted where
  | write (words : List (Nat × Word))
  | commit (lo hi cmd : Word)
  | adopt (w : Word)
  | reset (scope : BitVec 8)
  | align (lo hi : Word)
  deriving DecidableEq, Repr

/-- A read frame that waits for READY (R367): its first address, whether the address is fixed, and its words (`none` for RD, as many as the host
clocks out). -/
structure ReadJob where
  addr : Nat
  fixed : Bool
  words : Option Nat
  deriving DecidableEq, Repr

/-- The host port (R350 to R389). `active` and `gen` are ACTIVE and G; `chkErr`, `range` and `fault` collect for the next status byte (R366); `read`
is the read frame in progress; `status`, `reply` and `check` are the status byte with READY, the words and the check that the module last sent,
`notReady` the further not-ready bytes that HOST_NOTREADY adds (R507), and `waitByte` a not-ready byte as it stood before that READY byte (R366).
`hold` is the number of bank cycles for which the requests of the entry or read now in turn are held (R508). `mastering` while the module holds HOWN_N
low, `rawWaiting` while a raw transfer waits to start, `rawLoop` while it is looped back (R510), `rawOut` the words that the last transfer it mastered
sent, `driven` the lanes it used and its divider of HCLK (R381, R382), `flashRest` the bytes of a flash read that do not yet make a word, and `edges`
the rising edges of HOWN_N counted. -/
structure HostPort where
  st : SysState
  active : BitVec 6
  gen : BitVec 4
  chkErr : Bool
  range : Bool
  fault : Bool
  read : Option ReadJob
  status : Byte
  reply : List Word
  check : Option (BitVec 16)
  notReady : Nat
  waitByte : Byte
  posted : List Posted
  hold : Nat
  mastering : Bool
  rawWaiting : Bool
  rawLoop : Bool
  rawOut : List Word
  driven : Nat × Nat
  flashRest : List Byte
  edges : Nat
  deriving DecidableEq, Repr

/-- The host port at tR: NORMAL, nothing posted, nothing sent. -/
def HostPort.reset : HostPort where
  st := .normal
  active := 0
  gen := 0
  chkErr := false
  range := false
  fault := false
  read := none
  status := 0xFF
  reply := []
  check := none
  notReady := 0
  waitByte := 0xFF
  posted := []
  hold := 0
  mastering := false
  rawWaiting := false
  rawLoop := false
  rawOut := []
  driven := (0, 0)
  flashRest := []
  edges := 0

/-! ## Image loader -/

/-- Loader states (R68). -/
inductive LoadState where
  | idle
  | stopping
  | receiving
  | verifying
  | applying
  | starting
  | failed
  | hold
  deriving DecidableEq, Repr

/-- How a load reached the loader (R51): for a mailbox load, word 0 of its command and the byte address of its image. -/
inductive LoadPath where
  | host
  | flash
  | mailbox (head : Word) (addr : Nat)
  deriving DecidableEq, Repr

/-- One START_LIST entry (R47) and whether its unit has started. -/
structure StartEntry where
  unit : Nat
  inst : Nat
  offset : Nat
  started : Bool
  deriving DecidableEq, Repr

/-- The image loader (R51 to R69). `staged` holds the words received, first word first. `begun` is the state a load began in. `previous` is the
START_LIST that RESTART runs. `clockTodo` holds the words of a full image's CLOCK sections still to be written (R61). -/
structure Loader where
  st : LoadState
  full : Bool
  begun : LoadState
  path : LoadPath
  staged : List Word
  startAt : Nat
  entries : List StartEntry
  previous : Option (List StartEntry)
  clockTodo : List (Nat × Word)
  deriving DecidableEq, Repr

/-- The loader after reset: IDLE (R66). -/
def Loader.reset : Loader := ⟨.idle, false, .idle, .host, [], 0, [], none, []⟩

/-! ## DMA -/

/-- DMA channel states (R405). -/
inductive ChanState where
  | stopped
  | running
  | waiting
  | stopping
  deriving DecidableEq, Repr

/-- A word read and not yet written (R400): where it comes from and goes, its value, the descriptor it belongs to, that descriptor's CTRL where it is
its last word, and the bank cycles for which its requests are held (R508). -/
structure DmaWord where
  src : Nat
  dst : Nat
  val : Word
  index : Nat
  last : Option Word
  hold : Nat
  deriving DecidableEq, Repr

/-- One DMA channel (R390 to R407). `fetch` is the descriptor to be fetched next; `inHand`, `src`, `dst`, `left` and `ctrl` the descriptor last
fetched, `left` counting the words whose read has not issued; `waits` until its grid tick; `flight` the words read and not yet written, oldest first;
`ending` the cause with which the channel stops once `flight` is empty. `index` and `remain` are what the registers show. `hung` while a read that no
target acknowledges has issued and the channel is told to stop (R401). `gridAt` is the tick number of the start, `usedGrid` the last grid tick used or
skipped. -/
structure Channel where
  st : ChanState
  hung : Bool
  cause : BitVec 4
  index : Nat
  fetch : Option Nat
  inHand : Nat
  src : Nat
  dst : Nat
  left : Nat
  ctrl : Word
  waits : Bool
  flight : List DmaWord
  ending : Option (BitVec 4)
  remain : Nat
  links : Nat
  descs : Word
  gridAt : Nat
  usedGrid : Option Nat
  cfg : Word
  deriving DecidableEq, Repr

/-- A STOPPED channel. -/
def Channel.reset : Channel where
  st := .stopped
  hung := false
  cause := 0
  index := 0
  fetch := none
  inHand := 0
  src := 0
  dst := 0
  left := 0
  ctrl := 0
  waits := false
  flight := []
  ending := none
  remain := 0
  links := 0
  descs := 0
  gridAt := 0
  usedGrid := none
  cfg := 0

/-- The DMA unit: its channels, its halt (R401), and whether SW17 has gone off since the reset, so that its channels' CAUSE is to read DOMAIN when it
returns (R406). -/
structure Dma where
  chans : Sparse Channel
  halted : Bool
  wentOff : Bool
  deriving DecidableEq, Repr

/-- The DMA unit after reset. -/
def Dma.reset : Dma := ⟨[], false, false⟩

/-! ## Sealed Meter -/

/-- Seal states (R423). -/
inductive SealState where
  | never
  | unsealed
  | sealed
  | permanent
  deriving DecidableEq, Repr

/-- One record of the one-time seal store (R426): the 24 words, their check, AUDIT at the seal, the unseal mark, and whether its burn read back good
(R425 STORE). -/
structure SealRecord where
  words : List Word
  check : Word
  audit : Word
  unsealed : Bool
  good : Bool
  deriving DecidableEq, Repr

/-- What the meter keeps of one whole second (R412): weighted energy as a mean of squares, and whether it held valid input. -/
structure Second where
  energy : Rat
  valid : Bool
  deriving DecidableEq, Repr

/-- One measurement channel (R411 to R416): VALID, its run of frames that meet R277, the bit count of the last frame, the class it measured, the
weighting filters' states, the sum of weighted squares and the samples of the present second, how many of those came with a tick or a frame, whether
it was VALID throughout that second, its peaks, the smoothed energy of LT, the past seconds, newest first, the last input, the XCLK cycles at which it
came and the meter time between it and the one before, 0 while not known, and the SRC and TAP words under which the channel measures. -/
structure MeterChannel where
  valid : Bool
  goodRun : Nat
  prevBits : Option Nat
  cls : Nat
  weight : List Int
  weightC : List Int
  sum : Rat
  samples : Nat
  ticks : Nat
  wasValid : Bool
  peakC : Rat
  peakZ : Rat
  smooth : Rat
  seconds : List Second
  last : Word
  lastAt : Rat
  gap : Rat
  source : Word × Word
  deriving DecidableEq, Repr

/-- A channel that has measured nothing. -/
def MeterChannel.reset : MeterChannel where
  valid := false
  goodRun := 0
  prevBits := none
  cls := 0
  weight := []
  weightC := []
  sum := 0
  samples := 0
  ticks := 0
  wasValid := false
  peakC := 0
  peakZ := 0
  smooth := 0
  seconds := []
  last := 0
  lastAt := 0
  gap := 0
  source := (0, 0)

/-- How a group's Leq gain moves until the next whole second (R419). -/
inductive GuardMove where
  | fall
  | rise
  | rest
  deriving DecidableEq, Repr

/-- One guard group (R419, R421): gL in dB (0 down to -60), its movement, failsafe, and the XCLK cycles at its last move. -/
structure Guard where
  gain : Rat
  move : GuardMove
  failsafe : Bool
  movedAt : Option Rat
  deriving DecidableEq, Repr

/-- A guard at 0 dB. -/
def Guard.reset : Guard := ⟨0, .rest, false, none⟩

/-- The sealed domain (R411 to R441). `records` and `epoch` are the one-time store, `seq` the n of AUDIT. `log` holds entries of eight words by index,
`latched` the indices latched since they were written, `chain` the last CHECK. `chans` and `guards` are the channels and guard groups, `peak` each
guard slot's gP, default 1, and `peakAt` the XCLK cycles at which it was formed, as `sealNSince` those since SEAL_N changed. `rejected` and its first
address and data form the combined entry of R430. `shadowBad` lists shadow words in error that no record can reload (R433). `up` once the meter has
loaded since SW18 came on. -/
structure Meter where
  sealSt : SealState
  records : List SealRecord
  epoch : Nat
  exhausted : Bool
  seq : Nat
  log : Sparse (List Word)
  latched : List Nat
  chain : Word
  seconds : Nat
  chans : Sparse MeterChannel
  guards : Sparse Guard
  peak : Sparse Rat
  peakAt : Sparse (Option Rat)
  muted : Bool
  mutedFrom : Nat
  degraded : Bool
  degradedSecs : Nat
  degradedNow : Bool
  disagree : Bool
  disagreeRun : Nat
  agreeRun : Nat
  sealN : Bool
  sealNSince : Rat
  rejected : Nat
  rejectedAt : Nat
  rejectedData : Word
  shadowBad : List Nat
  ok : Bool
  up : Bool
  deriving DecidableEq, Repr

/-- The sealed domain with an empty seal store. -/
def Meter.reset : Meter where
  sealSt := .never
  records := []
  epoch := 0
  exhausted := false
  seq := 0
  log := []
  latched := []
  chain := 0
  seconds := 0
  chans := []
  guards := []
  peak := []
  peakAt := []
  muted := false
  mutedFrom := 0
  degraded := false
  degradedSecs := 0
  degradedNow := false
  disagree := false
  disagreeRun := 0
  agreeRun := 0
  sealN := true
  sealNSince := 0
  rejected := 0
  rejectedAt := 0
  rejectedData := 0
  shadowBad := []
  ok := false
  up := false

/-! ## Power, boot, core, pins -/

/-- Power modes (R453). -/
inductive PowerMode where
  | run
  | sleep
  | deepSleep
  deriving DecidableEq, Repr

/-- An auxiliary output (R448): ON, FAULT and PG, and whether its fault still holds it off. -/
structure Aux where
  on : Bool
  fault : Bool
  good : Bool
  held : Bool
  deriving DecidableEq, Repr

/-- The power unit (R443 to R465). `vin` while VIN is in range and the rails are up, `pgood` the PGOOD pin, `on` the domains that are powered with
isolation released (n for SWn), `rising` those switched on and not yet done, `lost` those whose memories were not retained. `target` is the mode a
change in progress goes to, `exiting` while it is a wake, `wakeLatched` a wake that arrived during an entry (R460), `cool` once the die has fallen
below 110 degrees since a thermal shutdown (R464), `sampled` once a temperature was taken since TEMP_MAX was last read (R466). -/
structure Power where
  vin : Bool
  overVoltage : Bool
  pgood : Bool
  on : List Nat
  rising : List Nat
  lost : List Nat
  mode : PowerMode
  target : Option PowerMode
  exiting : Bool
  wakeLatched : Option (BitVec 3)
  wakeCause : BitVec 3
  therm : Bool
  thermWarned : Bool
  vinWarned : Bool
  cool : Bool
  sampled : Bool
  aux5 : Aux
  aux33 : Aux
  deriving DecidableEq, Repr

/-- Power at tR: AON, SW18, SW19 and SW20 on (R444, R449). -/
def Power.reset : Power where
  vin := true
  overVoltage := false
  pgood := true
  on := [18, 19, 20]
  rising := []
  lost := []
  mode := .run
  target := none
  exiting := false
  wakeLatched := none
  wakeCause := 0
  therm := false
  thermWarned := false
  vinWarned := false
  cool := true
  sampled := false
  aux5 := ⟨false, false, false, false⟩
  aux33 := ⟨false, false, false, false⟩

/-- Boot phases (R502). -/
inductive Phase where
  | settling
  | locking
  | romCheck
  | waitHost
  | flash
  | queued
  | loading
  | running
  | halted
  | asleep
  deriving DecidableEq, Repr

/-- A crossing whose one side was reset (R478, R479): the epoch that the other side waits for, the consecutive good ticks since a value of it, and the
gain of the side that was not reset, with what it holds. -/
structure Crossing where
  epoch : BitVec 4
  waiting : Bool
  good : Nat
  fade : Fade
  held : Sparse Word
  deriving DecidableEq, Repr

/-- A crossing that has never been reset. -/
def Crossing.reset : Crossing := ⟨0, false, 0, ⟨1, true, 0⟩, []⟩

/-- What the core does once Shelf writes of its own have landed (R206, R493, R494): the lanes on which it waits, the groups to commit, the mailbox
response to post, and the engines and DMA channels to start then. -/
structure AutoWait where
  lanes : List LaneName
  groups : List Nat
  reply : Option (List Word)
  engines : List Nat
  chans : List Nat
  deriving DecidableEq, Repr

/-- What the core wrote back as an event-list entry fired (R488): the entry, the cycle, and its words 0 to 2 as they were read. -/
structure WriteBack where
  entry : Nat
  cycle : Nat
  words : List Word
  deriving DecidableEq, Repr

/-- The control core (R470 to R494). `saved` is the phase that it left for deep-sleep (R456, R458), `epochs` the reset epoch of each resettable side
by its bit of CROSS_RESET (R478), `writeBack` the latest write-back of an event-list entry. `paused` while the event list is paused, `idle` once it
has declared itself idle, `imageStands` once an image has been applied since tR, `crossings` by place of the crossing; `autoWait` the control values
still waiting, and `replies` the responses that wait for a free slot. -/
structure Core where
  phase : Phase
  cause : BitVec 4
  dcoPath : Bool
  inReset : Bool
  paused : Bool
  imageStands : Bool
  idle : Bool
  crossings : Sparse Crossing
  resetPending : Bool
  autoWait : List AutoWait
  replies : List (List Word)
  saved : Option Phase
  epochs : Sparse (BitVec 4)
  writeBack : Option WriteBack
  deriving DecidableEq, Repr

/-- The control core at tR: held in reset, PHASE SETTLING. -/
def Core.reset : Core where
  phase := .settling
  cause := 0
  dcoPath := false
  inReset := true
  paused := false
  imageStands := false
  idle := false
  crossings := []
  resetPending := false
  autoWait := []
  replies := []
  saved := none
  epochs := []
  writeBack := none

/-- The GPIO pins (R495 to R498): the levels at the lands, the levels of the TICK_OUT pins, and when each was last driven high; `waiting` names the
pins whose event still waits to be fired. -/
structure Gpio where
  level : BitVec 16
  tickOut : BitVec 16
  tickAt : Sparse Nat
  waiting : BitVec 16
  deriving DecidableEq, Repr

/-- The GPIO block after reset: every pin an input at level 0 (DESIGN CHOICE: the manual gives the pins' own levels). -/
def Gpio.reset : Gpio := ⟨0, 0, [], 0⟩

/-- The key state of the PERTURB block (R504). -/
structure Perturb where
  unlocked : Bool
  firstKey : Bool
  deriving DecidableEq, Repr

/-- What the controls of PERTURB do at present (R507, R509). `acting` holds, by the control's address, the value of FAR_LAT, BP and LOOP that acts on
the units since the last tick of their timebase; `loopAt` by port (16 on for receivers) the cycle in which its loopback last began or ended;
`ticksLeft` by BP entry the ticks it has still to act; `lower` the values that ARB_LOWER has had, latest first, each with the cycle from which it
stood (R508). -/
structure Provoked where
  acting : Sparse Word
  loopAt : Sparse Nat
  ticksLeft : Sparse Nat
  lower : List (Nat × Word)
  deriving DecidableEq, Repr

/-- Nothing is provoked. -/
def Provoked.reset : Provoked := ⟨[], [], [], []⟩

/-- The test access port (R530): the instruction loaded, the boundary register as it last captured the lands, GPIO0 to GPIO15, SDO0 to SDO15, BPO0 to
BPO3, HIRQ_N, HOWN_N and PGOOD in this order, an undriven one as none, the bit of the bypass register, and which of the preloads gave what the
boundary register would drive. -/
structure TestPort where
  instr : TapInstr
  boundary : List (Option Bool)
  bypass : Bool
  preload : Nat
  deriving DecidableEq, Repr

/-- The test access port with BYPASS loaded. -/
def TestPort.reset : TestPort := ⟨.bypass, [], false, 0⟩

/-! ## The whole module -/

/-- A write that a hold of R508 keeps from its bank: the cycle at which it is eligible, its byte address, its word, its class (0 router stream, 2
control core, 3 host bridge), and the bank cycles for which it is held. -/
structure HeldWrite where
  due : Nat
  addr : Nat
  word : Word
  cls : Nat
  hold : Nat
  deriving DecidableEq, Repr

/-- The state of one SLS-4832. -/
structure State where
  /-- The commands that wait, first in first out. -/
  pending : List Instr
  /-- The ECLK cycle of the latest command: the model's own clock. -/
  now : Nat
  /-- The cycle of the latest reset, from which the system counter counts before the first TB0 tick (R341, R347). -/
  resetAt : Nat
  /-- The XCLK cycles that have passed, as the meter times its seconds by them (R417). The model's own. -/
  xcycles : Rat
  /-- What the silence timer has counted since it last restarted, in XCLK cycles (R376). -/
  silent : Rat
  /-- Control-block registers by byte address; unlisted: the Reset value. -/
  regs : Sparse Word
  /-- Addressed memories, a byte a cell; unlisted: zero. -/
  mem : List Host.Cell
  /-- Control words under a parity error, by address; unlisted: good (R29). -/
  parityBad : Sparse Bool
  /-- By Delay Store quarter: non-zero once a full load has destroyed its contents, and then names them (R62). The model's own. -/
  storeEpoch : Sparse Nat
  /-- By EVENT register: the cycle in which the device last set bits of it, and those bits (R5). -/
  eventSet : Sparse (Nat × Word)
  /-- Writes that a hold keeps from their bank, oldest first (R247, R508). -/
  heldWrites : List HeldWrite
  /-- Host accesses that arrived during APPLYING and wait for its end, first in first out (R57, R58). -/
  waiting : List Instr
  /-- Counts free values drawn. The model's own. -/
  drawn : Nat
  /-- The read latches of the host bridge and of the control core, by address (R32). -/
  hostLatch : Sparse Word
  coreLatch : Sparse Word
  /-- Words held in write latches, by address (R34). -/
  writeLatch : Sparse (Option Word)
  /-- The word the last register read by REGISTER, RC or LATCHING commands returned. The model's own. -/
  readData : Word
  engines : Sparse Engine
  timebases : Sparse Timebase
  tickCount : BitVec 48
  alignAt : Option (BitVec 48 × Nat)
  groups : Sparse Group
  stages : Sparse Stage
  router : Router
  ports : Sparse Port
  bprx : Sparse BpRx
  bptx : Sparse BpTx
  clocks : Clocks
  host : HostPort
  loader : Loader
  dma : Dma
  meter : Meter
  power : Power
  core : Core
  gpio : Gpio
  perturb : Perturb
  provoked : Provoked
  tap : TestPort
  straps : Straps
  uid : BitVec 64
  deriving DecidableEq, Repr

/-- Faults of the model: none. The manual gives every fault of the module as a state of the module (a status bit, a counter, a FAULTED unit), so every
command ends in a next state. -/
inductive Fault where
  deriving DecidableEq, Repr

/-- Refusals of the model. -/
inductive Refusal where
  /-- Raised by exec for a command whose meaning has not been written; safe: the model stops where the module goes on. -/
  | notModelled (mnemonic : String)
  deriving DecidableEq, Repr

/-- All straps at 0 (DESIGN CHOICE: the straps are the board's, R470; log entry 2). -/
def Straps.reset : Straps := ⟨0, 0, 0, 0, false, false, false⟩

/-- The module right after reset (R8, R472, R475), at the end of a power-on with an empty seal store. -/
def State.reset : State where
  pending := []
  now := 0
  resetAt := 0
  xcycles := 0
  silent := 0
  regs := []
  mem := []
  parityBad := []
  storeEpoch := []
  eventSet := []
  heldWrites := []
  waiting := []
  drawn := 0
  hostLatch := []
  coreLatch := []
  writeLatch := []
  readData := 0
  engines := []
  timebases := []
  tickCount := 0
  alignAt := none
  groups := []
  stages := []
  router := Router.reset
  ports := []
  bprx := []
  bptx := []
  clocks := Clocks.reset
  host := HostPort.reset
  loader := Loader.reset
  dma := Dma.reset
  meter := Meter.reset
  power := Power.reset
  core := Core.reset
  gpio := Gpio.reset
  perturb := ⟨false, false⟩
  provoked := Provoked.reset
  tap := TestPort.reset
  straps := Straps.reset
  uid := 0

end Sys2Proof.Machine
end

