-- ==== Sys2Proof/Machine/RegMap.lean ====
section
/-!
DEFINITION. The register map: for every register of every control block, which bits each kind of access reaches (R5), the
Reset value (R8), and the encodings the register admits (R7). A field whose bits appear in no mask is reserved or read-only.
Values that read-only registers compute from the units are formed in Sys2Proof/Machine/Bus.lean.
-/

namespace Sys2Proof.Machine

/-- The values a field admits: the field's bits and the ranges, ends included, of its encodings that are not reserved. -/
structure FieldRule where
  hi : Nat
  lo : Nat
  ok : List (Nat × Nat)
  deriving DecidableEq, Repr

/-- One register: its Reset value, the bits a host or core write reaches (`rw`), those the loader alone reaches (`img`),
those a write of 1 clears, those a read clears, and its reserved encodings. -/
structure Row where
  reset : Word := 0
  rw : Word := 0
  img : Word := 0
  w1c : Word := 0
  rc : Word := 0
  rules : List FieldRule := []
  deriving DecidableEq, Repr

/-- The byte address of offset `o` of control block `b` (R20). -/
def blk (b o : Nat) : Nat := b * 0x1000 + o

/-- Bits `hi` to `lo` of a word as a number. -/
def fld (w : Word) (hi lo : Nat) : Nat := (w.toNat >>> lo) % 2 ^ (hi + 1 - lo)

/-- Bit `i` of a word. -/
def bit (w : Word) (i : Nat) : Bool := w.getLsbD i

/-- A word whose bits `hi` to `lo` are set. -/
def maskOf (hi lo : Nat) : Word := BitVec.ofNat 32 ((2 ^ (hi + 1 - lo) - 1) <<< lo)

/-- A word with bits `hi` to `lo` replaced by `v`. -/
def setFld (w : Word) (hi lo v : Nat) : Word :=
  (w &&& ~~~ maskOf hi lo) ||| (BitVec.ofNat 32 (v <<< lo) &&& maskOf hi lo)

/-- A word whose bit `i` is `b`. -/
def setBit (w : Word) (i : Nat) (b : Bool) : Word := setFld w i i (if b then 1 else 0)

/-- A read-only register. -/
def rowRo (reset : Word) : Row := { reset := reset }

/-- A register whose every field is RW. -/
def rowRw (m : Word) (reset : Word := 0) (rules : List FieldRule := []) : Row := { reset := reset, rw := m, rules := rules }

/-- A register whose every field is IMG. -/
def rowImg (m : Word) (reset : Word := 0) (rules : List FieldRule := []) : Row := { reset := reset, img := m, rules := rules }

/-- A read-to-clear register. -/
def rowRc (m : Word := 0xFFFFFFFF) : Row := { rc := m }

/-- The BLOCK_ID of block `b`, whose kind's first block is `k` (R25). -/
def blockId (b k : Nat) : Word := BitVec.ofNat 32 (k * 0x1000000 + (b - k) * 0x10000 + 0x100)

/-- The common header of block `b` of kind `k` with EVENT bits `ev` (R24), and `rest` beyond it. -/
def rowHeader (b k : Nat) (ev : Word) (o : Nat) (rest : Row) : Row :=
  if o = 0 then rowRo (blockId b k)
  else if o = 4 then { w1c := ev }
  else if o = 8 then rowRw ev
  else rest

/-- SYS (R384). -/
def rowSys (o : Nat) : Row :=
  if o = 0x010 then rowRo 0x48320100
  else if o = 0x028 then rowRw 0xFFFF
  else if o = 0x030 ∨ o = 0x034 ∨ o = 0x038 then rowRc
  else {}

/-- PWR (R466 to R469). -/
def rowPwr (o : Nat) : Row :=
  if o = 0x010 then rowRw 0x3 0 [⟨1, 0, [(0, 2)]⟩]
  else if o = 0x018 then rowRw 0x1 1
  else if o = 0x01C then { reset := 0x001C0000, rw := 0x001FE000, img := 0x00001FFE }
  else if o = 0x024 then rowImg 0xF
  else if o = 0x028 then rowRw 0x0F0F
  else if o = 0x030 then rowRw 0xF 3
  else if o = 0x034 then rowRw 0xFFFFFFFF
  else if o = 0x038 then rowRw 0xFFFFF
  else if o = 0x03C then rowRw 0xFF 0x69 [⟨7, 0, [(0, 0), (60, 115)]⟩]
  else if o = 0x040 then rowRw 0x3FF 0x15E [⟨9, 0, [(0, 0), (330, 750)]⟩]
  else if o = 0x058 then rowRc 0xFFFF
  else if o = 0x060 then rowRc
  else {}

/-- A domain clock's selector (R345). -/
def rowSel : Row := rowRw 0x13F 0x101

/-- CLK (R344 to R346). -/
def rowClk (o : Nat) : Row :=
  if o = 0x010 then rowRw 0x00FFFFFF 0x00320000 [⟨23, 16, [(20, 127)]⟩]
  else if o = 0x018 then rowRw 0xFF 4 [⟨7, 0, [(1, 255)]⟩]
  else if o = 0x01C then rowRw 0x371 0 [⟨6, 4, [(0, 0), (4, 7)]⟩]
  else if o = 0x028 ∨ o = 0x02C ∨ o = 0x030 then rowSel
  else if o = 0x034 then rowRw 0x01FFFFFF 0x01770000 [⟨24, 0, [(10000000, 27000000)]⟩]
  else if o = 0x038 ∨ o = 0x03C then rowRc
  else if 0x040 ≤ o ∧ o ≤ 0x078 then rowRw 0x7 1
  else {}

/-- TIME (R347 to R349). The admitted values of TBn_NOM depend on TBn_CFG.CLASS; `legalPair` says which. -/
def rowTime (o : Nat) : Row :=
  if o = 0x018 then rowRw 0xFFFFFFFF
  else if o = 0x01C then rowRw 0xFFFF
  else if 0x040 ≤ o ∧ o < 0x0C0 then
    if o % 32 = 0 then rowImg 0xFFFF0F37 2
    else if o % 32 = 4 then rowImg 0x1FFFF 0 [⟨16, 0, [(0, 0), (3200, 76800)]⟩]
    else if o % 32 ≥ 16 then rowRc
    else {}
  else if 0x100 ≤ o ∧ o < 0x1A0 ∧ o % 8 = 4 then rowRw 0xFFFF
  else if o = 0x1A0 ∨ o = 0x1A4 then { w1c := 0xFFFFF }
  else {}

/-- HOST (R353, R385, R386, R388). TXBUF and RXBUF of RAW_BUF are byte offsets of words: their bits [1:0] do not take part, as R3 has it
of addresses (DESIGN CHOICE: the manual does not say what an offset that is no multiple of 4 does; log entry 76). -/
def rowHost (o : Nat) : Row :=
  if o = 0x010 then rowRw 0x3
  else if 0x014 ≤ o ∧ o ≤ 0x020 then
    rowRw 0x3F1F033F
      (if o = 0x014 then 0x01080100 else if o = 0x018 then 0x01080114 else if o = 0x01C then 0x01080128 else 0x0108013C)
  else if o = 0x024 then rowRw 0x3F 8
  else if o = 0x028 then rowRw 0xFFFFFFFF
  else if o = 0x02C then rowRw 0x7FFFFFFF
  else if o = 0x030 then rowRc 0xFF
  else if o = 0x038 ∨ o = 0x03C ∨ o = 0x040 then rowRc
  else if o = 0x048 then rowRw 0xFF3C 0x400 [⟨15, 8, [(4, 255)]⟩]
  else if o = 0x04C then rowRw 0xFFFF
  else if o = 0x050 then rowRw 0x1FFC1FFC
  else {}

/-- IRQ (R389). -/
def rowIrq (o : Nat) : Row :=
  if o = 0x010 then rowRw 1
  else if 0x040 ≤ o ∧ o ≤ 0x05C then rowRw 0xFFFFFFFF
  else {}

/-- CORE (R501). -/
def rowCore (o : Nat) : Row :=
  if o = 0x014 then rowRo 0x00010000
  else if o = 0x018 then rowRo 0xFE
  else if o = 0x01C then rowRw 1
  else if o = 0x020 ∨ o = 0x02C then rowRw 0x7F
  else if o = 0x030 then { w1c := 0x1FFF }
  else if o = 0x038 ∨ o = 0x03C ∨ o = 0x040 then rowRc
  else {}

/-- IMAGE (R66). -/
def rowImage (o : Nat) : Row := if o = 0x03C then rowRc else {}

/-- DMA (R408). -/
def rowDma (o : Nat) : Row := if o = 0x020 ∨ o = 0x024 then rowRc else {}

/-- DMA_CH (R409, R410). -/
def rowDmaCh (o : Nat) : Row :=
  if 0x100 ≤ o ∧ o < 0x300 then
    if o % 32 = 0 then rowRw 0xFFFF303F 0 [⟨5, 0, [(0, 32)]⟩]
    else if o % 32 = 4 then rowRw 0xFFF
    else {}
  else {}

/-- COMMIT (R226). -/
def rowCommit (o : Nat) : Row :=
  if o = 0x014 then rowRw 0xFFFFFFFF
  else if o = 0x018 then rowRw 0xFFFF
  else if o = 0x020 then { w1c := 0xFFFFFFFF }
  else if o = 0x030 ∨ o = 0x034 then rowRc
  else if 0x100 ≤ o ∧ o < 0x500 then
    if o % 32 = 0 then rowImg 0xFFFFFFFF
    else if o % 32 = 4 then rowImg 0xFFFF0001
    else if o % 32 = 8 then rowImg 0x00FFFFFF
    else {}
  else {}

/-- GPIO (R499, R500). -/
def rowGpio (o : Nat) : Row :=
  if o = 0x010 ∨ o = 0x014 then rowRw 0xFFFF
  else if o = 0x01C then rowRc
  else if 0x040 ≤ o ∧ o ≤ 0x07C then rowRw 0x3FF8FFF7 0 [⟨5, 4, [(0, 2)]⟩, ⟨2, 0, [(0, 2)]⟩]
  else {}

/-- TDM ports (R290, R291). -/
def rowTdm (o : Nat) : Row :=
  if o = 0x010 then rowImg 0x1F1F07FF 0 [⟨7, 6, [(0, 2)]⟩, ⟨5, 4, [(0, 2)]⟩]
  else if o = 0x014 then rowRw 1
  else if o = 0x018 then rowRw 0x00FF03FF 0x00200040
  else if o = 0x01C ∨ o = 0x020 then rowRw 0xFFFFFFFF
  else if o = 0x02C then rowRw 0x1FF 0 [⟨8, 0, [(0, 0), (8, 256)]⟩]
  else if 0x038 ≤ o ∧ o ≤ 0x04C then rowRc
  else if o = 0x054 then rowRc
  else {}

/-- Biphase receivers (R313). -/
def rowBpRx (o : Nat) : Row :=
  if o = 0x010 then rowImg 0x3F 0 [⟨3, 2, [(0, 2)]⟩]
  else if o = 0x014 then rowRw 1
  else if o = 0x018 then rowRw 0x00FF03FF 0x00200040
  else if 0x020 ≤ o ∧ o ≤ 0x040 then rowRc
  else {}

/-- Biphase transmitters (R314). -/
def rowBpTx (o : Nat) : Row :=
  if o = 0x010 then rowImg 0x13
  else if o = 0x014 then rowRw 1
  else if o = 0x018 then rowRw 0x00FF03FF 0x00200040
  else if o = 0x01C then rowRw 0x177 0 [⟨6, 4, [(0, 0), (4, 7)]⟩, ⟨2, 0, [(0, 0), (4, 7)]⟩]
  else if 0x040 ≤ o ∧ o < 0x0A0 then rowRw 0xFFFFFFFF
  else {}

/-- ROUTER (R262). -/
def rowRouter (o : Nat) : Row :=
  if o = 0x018 then rowRw 0xFFF
  else if o = 0x01C ∨ o = 0x020 ∨ o = 0x024 then rowRc
  else if 0x100 ≤ o ∧ o < 0x180 then
    rowImg 0xFFFFFFFF 0 ((List.range 16).map fun i => ⟨2 * i + 1, 2 * i, [(0, 2)]⟩)
  else if 0x800 ≤ o then rowRc
  else {}

/-- A stream descriptor (R265). -/
def rowStream : Row := rowImg 0xC7C000FF

/-- ROUTER_SRC (R263, R264). -/
def rowRouterSrc (o : Nat) : Row :=
  if o = 0x010 then rowRc
  else if 0x040 ≤ o ∧ o < 0x080 then
    if o % 8 = 4 then rowRw 0x1FF
    else if (o - 0x040) / 8 ≤ 3 then rowRw 0x80FFFFFF 0 [⟨23, 0, [(0, 0x800000)]⟩]
    else if (o - 0x040) / 8 ≤ 5 then rowRw 0x80FFFFFF 0 [⟨23, 0, [(0, 0)]⟩]
    else rowRw 0x80FFFFFF
  else if 0x100 ≤ o ∧ o < 0x204 then rowRw 0xFFFFFFFF
  else if 0x400 ≤ o ∧ o < 0x500 then rowStream
  else {}

/-- ROUTER_SNK (R266, R267). -/
def rowRouterSnk (o : Nat) : Row :=
  if o = 0x014 then rowRc
  else if 0x100 ≤ o ∧ o < 0x140 then
    { reset := 0x00320000, rw := 0x01FF0000, img := 0x800007FF, rules := [⟨24, 16, [(0, 500)]⟩, ⟨10, 0, [(0, 1095)]⟩] }
  else if o = 0x288 then rowRw 0x000000FF
  else if 0x200 ≤ o ∧ o < 0x288 then rowRw 0xFFFFFFFF
  else if 0x400 ≤ o ∧ o < 0x500 then rowStream
  else {}

/-- A drawer's LOC (R167, R168). -/
def rowLoc : Row := rowImg 0x7FFFFFFF 0 [⟨29, 24, [(0, 0x21)]⟩]

/-- STORE (R200 to R202). STG_LOC has LOC's reserved OWNERs (R7, R168, R193); what else R171 refuses, R194 judges when the entry is
armed. -/
def rowStore (o : Nat) : Row :=
  if o = 0x014 then rowRc 0x0F00FFFF
  else if o = 0x018 then rowRc 0x3F00FFFF
  else if o = 0x01C then rowRc
  else if 0x100 ≤ o ∧ o < 0x500 then rowLoc
  else if 0x500 ≤ o ∧ o < 0x900 then rowImg 0x007FFFFF
  else if 0xD00 ≤ o ∧ o < 0xE00 then
    if o % 16 = 0 then rowRw 0x870000FF
    else if o % 16 = 4 then rowRw 0x7FFFFFFF 0 [⟨29, 24, [(0, 0x21)]⟩]
    else if o % 16 = 8 then rowRw 0x007FFFFF
    else {}
  else {}

/-- ENGINE (R99, R100, R148 to R151, R220 to R222). -/
def rowEngine (o : Nat) : Row :=
  if o = 0x010 then rowImg 0x8FFF0303
  else if o = 0x014 then rowImg 0x7FFF 0 [⟨14, 0, [(0, 19136)]⟩]
  else if o = 0x020 then rowRw 0xFFFFFFFF
  else if o = 0x024 then rowRw 0xFFFF
  else if o = 0x02C then rowRw 0xFF 0x20
  else if 0x03C ≤ o ∧ o ≤ 0x048 then rowRc
  else if o = 0x050 then rowRc 0xFFFF
  else if 0x100 ≤ o ∧ o < 0x180 then
    if o % 16 = 0 then rowRw 0x3FFF1FFF 0 [⟨29, 16, [(0, 8192)]⟩]
    else if o % 16 = 4 then rowRw 0x3FFF
    else if o % 16 = 8 then rowRw 0x80001FFF
    else {}
  else if 0x400 ≤ o ∧ o < 0x600 then
    if o % 8 = 0 then rowRw 0x80001FFF else rowRw 0xFFFF
  else {}

/-- SET (R104, R105, R166). -/
def rowSet (o : Nat) : Row :=
  if o = 0x010 then rowImg 1
  else if o = 0x014 then rowImg 0x7310
  else if o = 0x01C then rowRc
  else if 0x100 ≤ o ∧ o < 0x500 then
    if o % 16 = 0 then { rowLoc with rules := [⟨29, 24, [(0, 0x21)]⟩, ⟨21, 0, [(0, 524287)]⟩] }
    else if o % 16 = 4 then rowImg 0x007FFFFF
    else {}
  else {}

/-- METER (R437, R439). -/
def rowMeter (o : Nat) : Row :=
  if o = 0x010 then rowRo 0x4D310100
  else if o = 0x020 then rowRw 0xFFFFFFFF
  else if o = 0x100 ∨ o = 0x104 then rowImg 0xDF0F0007 0 [⟨31, 30, [(0, 2)]⟩]
  else if o = 0x108 ∨ o = 0x10C then rowImg 0x001F07FC 0 [⟨7, 6, [(0, 2)]⟩, ⟨5, 4, [(0, 2)]⟩]
  else if o = 0x110 ∨ o = 0x114 then rowImg 0xFFFF 0 [⟨15, 0, [(0, 0), (5000, 20000)]⟩]
  else if o = 0x118 then rowImg 0x0707 0 [⟨1, 0, [(0, 2)]⟩, ⟨9, 8, [(0, 2)]⟩]
  else if o = 0x11C then rowImg 0x01FFFFFF
  else if o = 0x120 ∨ o = 0x130 then rowImg 0xE000FFFF 0 [⟨31, 29, [(0, 4)]⟩, ⟨15, 0, [(0, 0), (2000, 14000)]⟩]
  else if o = 0x124 ∨ o = 0x134 then
    rowImg 0x00FFFFFF 0 [⟨23, 16, [(0, 100)]⟩, ⟨15, 8, [(0, 100)]⟩, ⟨7, 0, [(0, 100)]⟩]
  else if o = 0x128 ∨ o = 0x138 then rowImg 0x00FF00FF 0 [⟨23, 16, [(0, 60), (255, 255)]⟩, ⟨7, 0, [(0, 240)]⟩]
  else if 0x140 ≤ o ∧ o < 0x160 then rowImg 0x800101FF
  else {}

/-- METER_LOG (R441). -/
def rowMeterLog (o : Nat) : Row := if o = 0x018 then rowRw 0xFF else {}

/-- PERTURB (R507, R512). -/
def rowPerturb (o : Nat) : Row :=
  if o = 0x018 then rowRw 0xFFFFFFFF
  else if 0x01C ≤ o ∧ o < 0x0A0 then rowRw 0xFF
  else if 0x0A0 ≤ o ∧ o < 0x0E0 then rowRw 0x00FF0003
  else if 0x0E0 ≤ o ∧ o < 0x0F0 then rowRw 0x00FF0003 0 [⟨1, 0, [(0, 0), (2, 2)]⟩]
  else if o = 0x0F0 then rowRw 0xFF
  else if o = 0x0F4 then rowRw 0x1FFF
  else if o = 0x0F8 then rowRw 0x3FF
  else if o = 0x0FC then rowRw 0x7FF 0 [⟨10, 0, [(0, 1000), (1048, 2047)]⟩]
  else if o = 0x100 then rowRw 0x00FFFFFF
  else if o = 0x104 then rowRw 0x800FFFFF
  else if o = 0x108 then rowRw 0x010FFFFF
  else {}

/-- The kind of control block `b`: the first block of its kind, its EVENT bits and its rows; `none` for a block number
absent from the control-block index (R23). -/
def blockKind (b : Nat) : Option (Nat × Word × (Nat → Row)) :=
  if b = 0x00 then some (0x00, 0x1F, rowSys)
  else if b = 0x01 then some (0x01, 0x7FF, rowPwr)
  else if b = 0x02 then some (0x02, 0x7FF, rowClk)
  else if b = 0x03 then some (0x03, 0xFF, rowTime)
  else if b = 0x04 then some (0x04, 0x1F, rowHost)
  else if b = 0x05 then some (0x05, 0x1, rowIrq)
  else if b = 0x06 then some (0x06, 0xFF, rowCore)
  else if b = 0x07 then some (0x07, 0x7F, rowImage)
  else if b = 0x08 then some (0x08, 0x7F, rowDma)
  else if b = 0x09 then some (0x09, 0x1FFFF, rowDmaCh)
  else if b = 0x0A then some (0x0A, 0x3F, rowCommit)
  else if b = 0x0B then some (0x0B, 0x3FFFF, rowGpio)
  else if 0x10 ≤ b ∧ b ≤ 0x1F then some (0x10, 0x7FF, rowTdm)
  else if 0x20 ≤ b ∧ b ≤ 0x23 then some (0x20, 0x1FFF, rowBpRx)
  else if 0x24 ≤ b ∧ b ≤ 0x27 then some (0x24, 0x1F, rowBpTx)
  else if b = 0x30 then some (0x30, 0x7, rowRouter)
  else if b = 0x31 then some (0x31, 0x7, rowRouterSrc)
  else if b = 0x32 then some (0x32, 0x7, rowRouterSnk)
  else if b = 0x38 then some (0x38, 0x1F, rowStore)
  else if 0x40 ≤ b ∧ b ≤ 0x5F then some (0x40, 0xFFF, rowEngine)
  else if 0x60 ≤ b ∧ b ≤ 0x67 then some (0x60, 0x7, rowSet)
  else if b = 0x80 then some (0x80, 0x1FF, rowMeter)
  else if b = 0x81 then some (0x81, 0x7, rowMeterLog)
  else if b = 0xF0 then some (0xF0, 0x7, rowPerturb)
  else none

/-- The row of the register at byte address `a` of the control blocks (R20, R21, R24). -/
def rowAt (a : Nat) : Row :=
  match blockKind (a / 0x1000) with
  | none => {}
  | some (k, ev, f) => rowHeader (a / 0x1000) k ev (a % 0x1000) (f (a % 0x1000))

/-- The Reset value of the register at byte address `a` (R8). -/
def resetWord (a : Nat) : Word := (rowAt a).reset

/-- The value `w` of a field obeys its rule. -/
def FieldRule.admits (f : FieldRule) (w : Word) : Bool :=
  f.ok.any fun r => r.1 ≤ fld w f.hi f.lo && fld w f.hi f.lo ≤ r.2

/-- Encodings reserved by more than one field of a word at once: a Store drawer with a Set number (R201, R265), and fewer
than 2 dummy cycles in a half-duplex profile (R352, R386). -/
def legalPair (a : Nat) (mask w : Word) : Bool :=
  if 0x4014 ≤ a ∧ a ≤ 0x4020 then fld w 5 4 == 0 || fld w 20 16 ≥ 2
  else if (a / 0x1000 = 0x38 ∧ 0xD00 ≤ a % 0x1000 ∧ a % 0x1000 < 0xE00 ∧ a % 16 = 0)
      ∨ ((a / 0x1000 = 0x31 ∨ a / 0x1000 = 0x32) ∧ 0x400 ≤ a % 0x1000 ∧ a % 0x1000 < 0x500) then
    mask = 0 || !(bit w 31) || fld w 26 24 == 0
  else true

/-- A write of `w` that can change the bits of `mask` holds no reserved encoding in them (R7). -/
def legalWrite (a : Nat) (mask w : Word) : Bool :=
  ((rowAt a).rules.all fun f => mask &&& maskOf f.hi f.lo == 0 || f.admits w) && legalPair a mask w

end Sys2Proof.Machine
end

