-- ==== Sys2Proof/Machine/Ops.lean ====
section
/-!
DEFINITION. The named operations over tables, memory, registers and units that every meaning is written with.
-/

namespace Sys2Proof.Machine

/-! ## Tables -/

/-- The value at a key; `d` where the key is not listed. -/
def look {α : Type} (d : α) : Sparse α → Nat → α
  | [], _ => d
  | (k', v) :: r, k => if k = k' then v else look d r k

/-- The table with a value listed at its place. -/
def ins {α : Type} : Sparse α → Nat → α → Sparse α
  | [], k, v => [(k, v)]
  | (k', v') :: r, k, v =>
    if k < k' then (k, v) :: (k', v') :: r else if k = k' then (k, v) :: r else (k', v') :: ins r k v

/-- The table with a key not listed. -/
def del {α : Type} : Sparse α → Nat → Sparse α
  | [], _ => []
  | (k', v') :: r, k => if k = k' then del r k else (k', v') :: del r k

/-- The table with a value stored: a key at the default `d` is not listed, so that equal tables are equal data. -/
def put {α : Type} [DecidableEq α] (d : α) (l : Sparse α) (k : Nat) (v : α) : Sparse α :=
  if v = d then del l k else ins l k v

/-- A list of indices in rising order together with those of another list. -/
def joinKeys (a b : List Nat) : List Nat := (b.foldl (fun l k => ins l k ()) (a.foldl (fun l k => ins l k ()) [])).map (·.1)

/-- The table without the keys from `lo` up to but not including `hi`. -/
def delRange {α : Type} (l : Sparse α) (lo hi : Nat) : Sparse α := l.filter fun c => c.1 < lo || hi ≤ c.1

/-- The one canonical form of a table: keys strictly rising and no entry equal to the default. -/
abbrev Table.wf {α : Type} (d : α) (l : Sparse α) : Prop := l.Pairwise (fun a b => a.1 < b.1) ∧ ∀ c ∈ l, c.2 ≠ d

/-- The canonical form of memory: addresses strictly rising and no byte equal to what an unlisted address reads as. -/
abbrev Memory.wf (m : List Host.Cell) : Prop := Table.wf (0 : Byte) m

/-! ## Numbers -/

/-- The integer nearest `n / d`, a tie going to the even one. -/
def rneDiv (n : Int) (d : Nat) : Int :=
  if 2 * (n % d) < d then n / d
  else if 2 * (n % d) > d then n / d + 1
  else if (n / d) % 2 = 0 then n / d else n / d + 1

/-- The integer nearest a rational, a tie going to the even one. -/
def rne (q : Rat) : Int := rneDiv q.num q.den

/-- A raw value saturated to Q1.31. -/
def sat31 (v : Int) : Word :=
  if v > 0x7FFFFFFF then 0x7FFFFFFF else if v < -0x80000000 then 0x80000000 else BitVec.ofInt 32 v

/-- A Q1.31 word times a gain from 0 to 1, rounded to nearest-even into Q1.31. -/
def scale (g : Rat) (w : Word) : Word := sat31 (rne (g * w.toInt))

/-- `(1 - a) * x + a * y`, rounded to nearest-even into Q1.31 (R250, R251). -/
def blend (a : Rat) (x y : Word) : Word := sat31 (rne ((1 - a) * x.toInt + a * y.toInt))

/-- A value times a gain, rounded to nearest-even into `w` bits and saturated (R271, R294). -/
def narrow (v : Word) (g : Rat) (w : Nat) : Word :=
  let q := rne (g * v.toInt / 2 ^ (32 - w))
  let q := max (-(2 ^ (w - 1) : Int)) (min (2 ^ (w - 1) - 1 : Int) q)
  (BitVec.ofInt 32 q) &&& BitVec.ofNat 32 (2 ^ w - 1)

/-! ## Time, memory and registers -/

/-- The model's clock at the cycle a command acts. What passes by itself up to that cycle is in Sys2Proof/Machine/Advance.lean. -/
def State.clockTo (s : State) (t : Nat) : State := { s with now := max s.now t }

/-- One byte of memory. -/
def State.byteAt (s : State) (a : Nat) : Byte := look 0 s.mem a

/-- Memory with one byte stored. -/
def State.setByte (s : State) (a : Nat) (b : Byte) : State := { s with mem := put 0 s.mem a b }

/-- What the free contents of Delay Store banks 8 to 15 add to the stored form of a word (R62): zero in a quarter whose
contents no full load has destroyed. -/
def State.storeMask (s : State) (a : Nat) : Word :=
  if 0x2800000 ≤ a ∧ a < 0x3000000 then
    let n := look 0 s.storeEpoch ((a - 0x2000000) / 0x400000)
    if n = 0 then 0 else Config.freeStore n a
  else 0

/-- The address of the word a byte address lies in (R3). -/
def wordOf (a : Nat) : Nat := a / 4 * 4

/-- The word that holds byte address `a` (R3). -/
def State.wordAt (s : State) (a : Nat) : Word :=
  (s.byteAt (wordOf a + 3) ++ s.byteAt (wordOf a + 2) ++ s.byteAt (wordOf a + 1) ++ s.byteAt (wordOf a) : BitVec 32)
    ^^^ s.storeMask (wordOf a)

/-- Memory with the word that holds byte address `a` stored (R3). -/
def State.setWord (s : State) (a : Nat) (w : Word) : State :=
  let x := w ^^^ s.storeMask (wordOf a)
  (((s.setByte (wordOf a) (x.extractLsb' 0 8)).setByte (wordOf a + 1) (x.extractLsb' 8 8)).setByte
    (wordOf a + 2) (x.extractLsb' 16 8)).setByte (wordOf a + 3) (x.extractLsb' 24 8)

/-- Memory with the bytes from `lo` up to but not including `hi` cleared to zero. -/
def State.clearMem (s : State) (lo hi : Nat) : State := { s with mem := delRange s.mem lo hi }

/-- Delay Store quarter `q` cleared to zero. -/
def State.clearStore (s : State) (q : Nat) : State :=
  { s.clearMem (0x2000000 + q * 0x400000) (0x2400000 + q * 0x400000) with storeEpoch := put 0 s.storeEpoch q 0 }

/-- Delay Store quarter `q` with contents that the manual leaves undefined (R62). -/
def State.freeQuarter (s : State) (q : Nat) : State :=
  { s.clearMem (0x2000000 + q * 0x400000) (0x2400000 + q * 0x400000) with
    storeEpoch := put 0 s.storeEpoch q (s.drawn + 1), drawn := s.drawn + 1 }

/-- The stored word of the register at byte address `a`. -/
def State.reg (s : State) (a : Nat) : Word := look (resetWord a) s.regs a

/-- The state with the register at byte address `a` holding `w`. -/
def State.setReg (s : State) (a : Nat) (w : Word) : State := { s with regs := put (resetWord a) s.regs a w }

/-- The state with bits `hi` to `lo` of a register holding `v`. -/
def State.setRegFld (s : State) (a hi lo v : Nat) : State := s.setReg a (setFld (s.reg a) hi lo v)

/-- The state with every register of block `b` at its Reset value. -/
def State.resetBlock (s : State) (b : Nat) : State := { s with regs := delRange s.regs (blk b 0) (blk (b + 1) 0) }

/-- A word incremented, where the manual states no wrap. -/
def bumped (w : Word) : Word := if w = 0xFFFFFFFF then Config.counterFull else w + 1

/-- The state with the counter at byte address `a` incremented. -/
def State.bump (s : State) (a : Nat) : State := s.setReg a (bumped (s.reg a))

/-- The bits of the W1C register at `a` that the device has set in the present cycle (R5). -/
def State.justSet (s : State) (a : Nat) : Word :=
  let e := look (0, 0) s.eventSet a
  if e.1 = s.now then e.2 else 0

/-- The device sets bit `i` of the W1C register at `a` (R5). -/
def State.deviceSet (s : State) (a i : Nat) : State :=
  { s.setReg a (setBit (s.reg a) i true) with
    eventSet := put (0, 0) s.eventSet a (s.now, setBit (s.justSet a) i true) }

/-- A write of `w` to the W1C register at `a`: a bit written 1 clears, unless the device has set it in the same cycle (R5). -/
def State.clearW1c (s : State) (a : Nat) (w : Word) : State :=
  s.setReg a (s.reg a &&& ~~~(w &&& (rowAt a).w1c &&& ~~~ s.justSet a))

/-- The state with EVENT bit `i` of block `b` set, enabled or not (R26). -/
def State.raise (s : State) (b i : Nat) : State := s.deviceSet (blk b 4) i

/-- EVENT bit `i` of block `b`. -/
def State.event (s : State) (b i : Nat) : Bool := bit (s.reg (blk b 4)) i

/-- The word at `a` is under a parity error (R29). -/
def State.bad (s : State) (a : Nat) : Bool := look false s.parityBad a

/-- The state with the word at `a` written with good parity (R29). -/
def State.good (s : State) (a : Nat) : State := { s with parityBad := put false s.parityBad a false }

/-- A write of `w` to the bits of `m` of the register at byte address `a`: a reserved encoding in a field it can change leaves
the register whole, and other bits keep their values (R5, R7). -/
def State.writeFields (s : State) (a : Nat) (m w : Word) : State :=
  if m ≠ 0 ∧ legalWrite a m w then (s.setReg a ((s.reg a &&& ~~~ m) ||| (w &&& m))).good a else s

/-- What the hardware's own use of a control word sees: zero under a parity error (R29). -/
def State.used (s : State) (a : Nat) (w : Word) : Word := if s.bad a then 0 else w

/-- A perturbation control; zero under a parity error (R512). -/
def State.control (s : State) (o : Nat) : Word := s.used (blk 0xF0 o) (s.reg (blk 0xF0 o))

/-- A perturbation control as it acts on a unit with a timebase: since the last tick of it; zero under a parity error (R507, R512). -/
def State.acting (s : State) (o : Nat) : Word := s.used (blk 0xF0 o) (look 0 s.provoked.acting (blk 0xF0 o))

/-- The state with CTRL_PARITY of block `b` set when one of the words at `l` is under a parity error (R27). -/
def State.parity (s : State) (b : Nat) (l : List Nat) : State :=
  if l.any s.bad then s.raise b 0 else s

/-- The state with CTRL_PARITY of block `b` set when a word from `lo` up to but not including `hi` is under a parity error
(R27). -/
def State.parityIn (s : State) (b lo hi : Nat) : State :=
  if s.parityBad.any fun c => lo ≤ c.1 && c.1 < hi && c.2 then s.raise b 0 else s

/-- Applies an update for each member of a list, first member first. -/
def State.each {α : Type} (s : State) (l : List α) (f : State → α → State) : State := l.foldl f s

/-- A host access or frame that completes with FAULT: the first cause since FAULT_CAUSE was last read is captured with its
address, and FAULT shows in the next status byte (R11, R21, R366, R385). -/
def State.hostFault (s : State) (cause addr : Nat) : State :=
  let s := if s.reg (blk 0x04 0x030) = 0 then
      (s.setReg (blk 0x04 0x030) (BitVec.ofNat 32 cause)).setReg (blk 0x04 0x034) (BitVec.ofNat 32 addr)
    else s
  ({ s with host := { s.host with fault := true } }).raise 0x04 2

/-- The state with the latch of a requester at `a` holding `w` (R32). -/
def State.latch (s : State) (by_ : Requester) (a : Nat) (w : Word) : State :=
  match by_ with
  | .host => { s with hostLatch := put 0 s.hostLatch a w }
  | .core => { s with coreLatch := put 0 s.coreLatch a w }

/-- What a requester's latch at `a` holds; zero before any latching read (R32). -/
def State.latched (s : State) (by_ : Requester) (a : Nat) : Word :=
  match by_ with
  | .host => look 0 s.hostLatch a
  | .core => look 0 s.coreLatch a

/-- The state with the word a read returned. -/
def State.answer (s : State) (w : Word) : State := { s with readData := w }

/-- An access by a requester at `a` whose domain is off: a host access faults (R11), and a read returns zero. -/
def State.domainOff (s : State) (by_ : Requester) (a : Nat) : State :=
  match by_ with
  | .host => (s.answer 0).hostFault 0x02 a
  | .core => s.answer 0

/-- The access is to the CORE block or the core window (R478). -/
def inCore (a : Nat) : Bool := a / 0x1000 == 0x06 || (decide (0x300000 ≤ a) && decide (a < 0x330000))

/-- The host access meets the CORE block or the core window (R478). -/
def meetsCore : Instr → Bool
  | .registerWrite _ a _ _ | .rcRead _ a _ _ | .latchingRead _ a _ | .wideWrite _ a _ _ => inCore a.toNat
  | .doorbell _ _ => true
  | _ => false

/-- Crossing `k`. -/
def State.cross (s : State) (k : Nat) : Crossing := look Crossing.reset s.core.crossings k

/-- The crossing is absent or ramps (R479). -/
def Crossing.active (x : Crossing) : Bool := x.waiting || x.fade.gain != 1

/-- A host access `i` waits: through APPLYING, until apply ends (R57, R58), and at the CORE block and the core window while a reset of
the core keeps their crossing absent (R478). -/
def State.hostHeld (s : State) (i : Instr) : Bool := s.loader.st == .applying || (meetsCore i && (s.cross 70).active)

/-- A host access `i` that does `f`, unless it waits. -/
def State.hostActs (s : State) (i : Instr) (f : State → State) : State :=
  if s.hostHeld i then { s with waiting := s.waiting ++ [i] } else f s

/-- An access of a requester that does `f`: the host's may wait (R58, R478). -/
def State.actsBy (s : State) (by_ : Requester) (i : Instr) (f : State → State) : State :=
  match by_ with
  | .host => s.hostActs i f
  | .core => f s

/-! ## Fades -/

/-- The step of a fade of `len` steps; a cut with 0. -/
def stepOf (len : Nat) : Rat := if len = 0 then 1 else 1 / len

/-- A fade aimed up or down: a change of direction latches its length (R290). -/
def Fade.aim (f : Fade) (up : Bool) (len : Nat) : Fade := if f.up = up then f else ⟨f.gain, up, stepOf len⟩

/-- A fade one step on. -/
def Fade.next (f : Fade) : Fade := { f with gain := if f.up then min 1 (f.gain + f.step) else max 0 (f.gain - f.step) }

/-- One step of a fade toward 1 or toward 0. -/
def Fade.move (f : Fade) (up : Bool) (len : Nat) : Fade := (f.aim up len).next

/-! ## Units -/

/-- Engine `e`. -/
def State.eng (s : State) (e : Nat) : Engine := look Engine.reset s.engines e

/-- The state with engine `e` replaced. -/
def State.setEng (s : State) (e : Nat) (x : Engine) : State := { s with engines := put Engine.reset s.engines e x }

/-- Timebase `n`. -/
def State.tb (s : State) (n : Nat) : Timebase := look Timebase.reset s.timebases n

/-- The state with timebase `n` replaced. -/
def State.setTb (s : State) (n : Nat) (x : Timebase) : State := { s with timebases := put Timebase.reset s.timebases n x }

/-- Commit group `g`. -/
def State.grp (s : State) (g : Nat) : Group := look Group.reset s.groups g

/-- The state with commit group `g` replaced. -/
def State.setGrp (s : State) (g : Nat) (x : Group) : State := { s with groups := put Group.reset s.groups g x }

/-- Stage entry `n`. -/
def State.stage (s : State) (n : Nat) : Stage := look Stage.reset s.stages n

/-- The state with stage entry `n` replaced. -/
def State.setStage (s : State) (n : Nat) (x : Stage) : State := { s with stages := put Stage.reset s.stages n x }

/-- TDM port `p`. -/
def State.port (s : State) (p : Nat) : Port := look Port.reset s.ports p

/-- The state with TDM port `p` replaced. -/
def State.setPort (s : State) (p : Nat) (x : Port) : State := { s with ports := put Port.reset s.ports p x }

/-- Biphase receiver `n`. -/
def State.rx (s : State) (n : Nat) : BpRx := look BpRx.reset s.bprx n

/-- The state with biphase receiver `n` replaced. -/
def State.setRx (s : State) (n : Nat) (x : BpRx) : State := { s with bprx := put BpRx.reset s.bprx n x }

/-- Biphase transmitter `n`. -/
def State.tx (s : State) (n : Nat) : BpTx := look BpTx.reset s.bptx n

/-- The state with biphase transmitter `n` replaced. -/
def State.setTx (s : State) (n : Nat) (x : BpTx) : State := { s with bptx := put BpTx.reset s.bptx n x }

/-- DMA channel `c`. -/
def State.chan (s : State) (c : Nat) : Channel := look Channel.reset s.dma.chans c

/-- The state with DMA channel `c` replaced. -/
def State.setChan (s : State) (c : Nat) (x : Channel) : State :=
  { s with dma := { s.dma with chans := put Channel.reset s.dma.chans c x } }

/-- Domain SW`n` is on: powered with its isolation released (R449). -/
def State.domain (s : State) (n : Nat) : Bool := s.power.on.contains n

/-- A full load is in progress: from STOPPING to the end of APPLYING (R59, R68). -/
def State.fullLoad (s : State) : Bool :=
  s.loader.full && (s.loader.st == .stopping || s.loader.st == .receiving || s.loader.st == .verifying || s.loader.st == .applying)

/-- A port that a full load or an entry into deep-sleep has stopped stays DISABLED, whatever its EN, and so does one while SW20 is off
(R10, R59, R456). -/
def State.portsHeld (s : State) : Bool :=
  (s.power.target == some .deepSleep && !s.power.exiting) || s.fullLoad || !(s.domain 20)

/-- The state with the counter at byte address `a` incremented `n` times. -/
def State.bumpBy (s : State) (a n : Nat) : State :=
  if (s.reg a).toNat + n < 2 ^ 32 then s.setReg a (BitVec.ofNat 32 ((s.reg a).toNat + n)) else s.setReg a Config.counterFull

/-- Timebase `n` counts as holding: it is OFF, in ACQUIRE or in HOLD, and makes no ticks (R338). -/
def State.holding (s : State) (n : Nat) : Bool := (s.tb n).st == .off || (s.tb n).st == .acquire || (s.tb n).st == .hold

/-- A tick has been made since TRACKING was entered from ACQUIRE or HOLD, so that a tick interval ends at the next. -/
def Timebase.hasLast (x : Timebase) : Bool := x.flyCancel || x.shifted || x.ref ≤ x.lastTick

/-- Gate `n` is closed: a host access to its unit completes under R11 (R330). -/
def State.gateShut (s : State) (n : Nat) : Bool := s.clocks.closed.contains n

/-- The unit of gate `n` stands still and keeps its state: its gate is closed, or, for the engines, the router and the ports, SW20 is off
(R10, R330; log entry 91). -/
def State.gated (s : State) (n : Nat) : Bool := s.gateShut n || (!(s.domain 20) && (n < 8 || (9 ≤ n && n ≤ 12)))

/-- The gate of the clock of domain SW`d` (R330, R535). -/
def gateOf (d : Nat) : Option Nat :=
  if 1 ≤ d ∧ d ≤ 8 then some (d - 1)
  else if 9 ≤ d ∧ d ≤ 12 then some 8
  else if 13 ≤ d ∧ d ≤ 17 then some (d - 4)
  else if d = 19 then some 14
  else none

/-- An access to a unit of domain SW`d` reaches it: the domain is on and its gate is not closed (R11, R330). -/
def State.unitOn (s : State) (d : Nat) : Bool :=
  s.domain d && (match gateOf d with | some g => !(s.gateShut g) | none => true)

/-- A router source takes a value at its step 1 (R15). -/
def State.setSrc (s : State) (i : Nat) (v : Word) : State :=
  { s with router := { s.router with src := put 0 s.router.src i v } }

/-- The system counter: TB0 ticks in bits [63:16] and ECLK cycles since the last of them, or since the reset, below, saturating (R341,
R347). -/
def State.sysCount (s : State) : Nat := s.tickCount.toNat * 0x10000 + min (s.now - max s.resetAt (s.tb 0).lastTick) 0xFFFF

end Sys2Proof.Machine
end

