-- ==== Sys2Proof/Machine/Levels.lean ====
section
/-!
DEFINITION. Logarithms, exponentials, levels in dB and first-order lags (R239, R412, R419), and the Butterworth high-pass filter (R242),
as rationals. Every step is formed on a grid of 2^-96 (log entry 72).
-/

namespace Sys2Proof.Machine

/-- A rational on the grid of the model's own arithmetic: a multiple of 2^-96 (log entry 72). -/
def grid (q : Rat) : Rat := (rne (q * 2 ^ 96) : Rat) / 2 ^ 96

/-- Pi to 40 decimal places. -/
def pi : Rat := 31415926535897932384626433832795028841972 / 10 ^ 40

/-- The natural logarithm of 2 to 40 decimal places. -/
def ln2 : Rat := 6931471805599453094172321214581765680755 / 10 ^ 40

/-- The natural logarithm of 10 to 40 decimal places. -/
def ln10 : Rat := 23025850929940456840179914546843642076011 / 10 ^ 40

/-- The natural logarithm of a number from 1 to 2, by the series of atanh. -/
def lnUnit (x : Rat) : Rat :=
  let y := grid ((x - 1) / (x + 1))
  let z := grid (y * y)
  2 * y * (List.range 32).foldr (fun k acc => grid (1 / (2 * k + 1 : Nat) + z * acc)) 0

/-- The exponent of 2 that brings a positive rational between 1/2 and 2. -/
def exponent (q : Rat) : Int := (q.num.natAbs.log2 : Int) - q.den.log2

/-- A rational times a power of 2. -/
def timesPow2 (q : Rat) (k : Int) : Rat := if 0 ≤ k then q * 2 ^ k.toNat else q / 2 ^ (-k).toNat

/-- The natural logarithm of a positive rational. -/
def ln (q : Rat) : Rat :=
  let k := exponent q
  let x := timesPow2 q (-k)
  if x < 1 then lnUnit (2 * x) + (k - 1) * ln2 else lnUnit x + k * ln2

/-- e to a rational's power. -/
def exp (q : Rat) : Rat :=
  let k := (q / ln2).floor
  let r := grid (q - k * ln2)
  timesPow2 ((List.range 32).foldr (fun j acc => grid (1 + r * acc / (j + 1 : Nat))) 1) k

/-- 20 log10 of a positive rational: a magnitude in dB (R239). -/
def levelDb (q : Rat) : Rat := grid (20 * ln q / ln10)

/-- 10^(g / 20): the gain of `g` dB (R239, R419). -/
def gainOfDb (g : Rat) : Rat := exp (g * ln10 / 20)

/-- The part of a difference that a first-order lag covers in one step, its time constant being `t` steps: 63 % in `t` (R239, R412). -/
def lag (t : Rat) : Rat := if t ≤ 0 then 1 else grid (1 - exp (-1 / t))

/-- The cosine of an angle from 0 to pi / 2, by its series. -/
def cosSeries (x : Rat) : Rat :=
  (List.range 13).foldr (fun k acc => 1 - x * x / ((2 * k + 1) * (2 * k + 2)) * acc) 1

/-- The sine of an angle from 0 to pi / 2, by its series. -/
def sinSeries (x : Rat) : Rat :=
  x * (List.range 13).foldr (fun k acc => 1 - x * x / ((2 * k + 2) * (2 * k + 3)) * acc) 1

/-! ## The high-pass filter (R242) -/

/-- The corner of a high-pass filter in Hz (R242). -/
def cornerHz (k : Nat) : Rat :=
  if k = 0 then 3 / 2 else if k = 1 then 20 else if k = 2 then 40 else if k = 3 then 63 else if k = 4 then 80 else if k = 5 then 100
  else if k = 6 then 125 else 160

/-- The square root of 2 to 40 decimal places. -/
def sqrt2 : Rat := 14142135623730950488016887242096980785697 / 10 ^ 40

/-- The coefficients b0, a1 and a2 of a second-order Butterworth high-pass filter with corner `hz` at `rate` Hz, by the bilinear
transform with the corner in place; b1 is -2 b0 and b2 is b0 (R242; log entry 73). -/
def butterworth (hz rate : Rat) : Rat × Rat × Rat :=
  let x := grid (pi * hz / rate)
  let k := grid (sinSeries x / cosSeries x)
  let n := 1 + sqrt2 * k + k * k
  (grid (1 / n), grid (2 * (k * k - 1) / n), grid ((1 - sqrt2 * k + k * k) / n))

/-- One sample of a high-pass filter whose state is `st`, in units of 2^-63: the next state and the output in raw Q1.31, with the free
error of the filter's own arithmetic, held within 2^-24 (R242; log entry 73). -/
def highPass (corner : Nat) (rate : Rat) (st : List Int) (v : Word) : List Int × Int :=
  let c := butterworth (cornerHz corner) rate
  let x : Rat := v.toInt * 2 ^ 32
  let y := grid (c.1 * x) + (st.getD 0 0 : Int)
  let err := max (-(1 / 2 ^ 24)) (min (1 / 2 ^ 24) (Config.highPassError corner rate st v))
  ([rne (-2 * c.1 * x - c.2.1 * y) + st.getD 1 0, rne (c.1 * x - c.2.2 * y)], rne (y / 2 ^ 32 + err * 2 ^ 31))

end Sys2Proof.Machine
end

