-- ==== Sys2Proof/Machine/Rates.lean ====
section
/-!
DEFINITION. Clock frequencies, nominal tick lengths and measured rates (R317, R325, R331, R332, R336), and the generators'
waveforms (R244).
-/

namespace Sys2Proof.Machine

/-- The selector register of a domain clock (R344). -/
def clockReg : ClockName → Nat
  | .eclk => blk 0x02 0x028
  | .fclk => blk 0x02 0x02C
  | .hclk => blk 0x02 0x030

/-- The clock takes the XCLK path (R325, R345). -/
def State.onXclk (s : State) (c : ClockName) : Bool := bit (s.reg (clockReg c)) 8

/-- The XCLK frequency the rate meter is told, in Hz (R344). -/
def State.xclkHz (s : State) : Nat := fld (s.reg (blk 0x02 0x034)) 24 0

/-- N + FRAC / 65,536 of a DCO_CFG word (R317). -/
def ratioOf (w : Word) : Rat := (fld w 23 16 : Rat) + (fld w 15 0 : Rat) / 65536

/-- The control word the DCO follows: DCO_CFG and s, or those held in HOLDOVER (R323, R324). -/
def State.controlWord (s : State) : Word × Int := s.clocks.held.getD (s.reg (blk 0x02 0x010), s.clocks.steer)

/-- The frequency that a DCO_CFG word asks for in Hz, before the limits and before s (R317; log entry 71). -/
def State.settingHz (s : State) (w : Word) : Rat := s.clocks.pinHz * ratioOf w

/-- How far the DCO has drifted in HOLDOVER, within 50 ppm (R324). -/
def State.holdDrift (s : State) : Rat :=
  if s.clocks.dco = .holdover then max (-(1 / 20000)) (min (1 / 20000) (Config.holdDrift s.now)) else 0

/-- DCO_OFFSET as a part of the DCO's frequency (R507, R512). -/
def State.dcoOffset (s : State) : Rat := ((BitVec.ofNat 11 (fld (s.control 0x0FC) 10 0)).toInt : Rat) / 1000000

/-- The DCO's frequency in Hz: a setting outside the limits runs it at the nearer limit (R317, R324, R507). -/
def State.dcoHz (s : State) : Rat :=
  let w := s.controlWord
  max 800000000 (min 1228800000 (s.settingHz w.1)) * (1 + (w.2 : Rat) / 16777216) * (1 + s.holdDrift) * (1 + s.dcoOffset)

/-- A domain clock runs: on the XCLK path it stops while XCLK is lost, and on the DCO path it runs while the DCO is on (R324, R325). -/
def State.clkRuns (s : State) (c : ClockName) : Bool := if s.onXclk c then s.clocks.xclkOk else s.clocks.dco != .off

/-- The divider of a domain clock: 0 divides by 64, and ECLK divides the DCO by 2 at least (R325). -/
def State.clockDiv (s : State) (c : ClockName) : Nat :=
  let d := fld (s.reg (clockReg c)) 5 0
  let d := if d = 0 then 64 else d
  if c = .eclk ∧ !(s.onXclk c) then max 2 d else d

/-- A domain clock's frequency in Hz (R325). -/
def State.clockHz (s : State) (c : ClockName) : Rat :=
  (if s.onXclk c then (s.clocks.pinHz : Rat) else s.dcoHz) / s.clockDiv c

/-- The XCLK cycles in an ECLK cycle; while XCLK is lost, what the DCO counts at its nominal ratio (R317, R325, R417). -/
def State.xclkPerEclk (s : State) : Rat :=
  if s.onXclk .eclk then s.clockDiv .eclk
  else if s.clocks.xclkOk then s.clocks.pinHz / s.clockHz .eclk
  else s.clockDiv .eclk / ratioOf s.controlWord.1

/-- The XCLK cycles that the meter counts in an ECLK cycle: on its own path from XCLK, and while DEGRADED those that the DCO makes at its
nominal ratio, until the meter takes XCLK back. With no clock at all it counts none (R417, R435). -/
def State.meterPerEclk (s : State) : Rat :=
  if s.meter.degraded && s.clocks.dco != .off then s.dcoHz / ratioOf s.controlWord.1 / s.clockHz .eclk
  else if !s.clocks.xclkOk then 0
  else if s.onXclk .eclk then s.clockDiv .eclk
  else s.clocks.pinHz / s.clockHz .eclk

/-- What the silence timer counts in an XCLK cycle's time: XCLK, or the AON oscillator while XCLK is lost (R376). -/
def State.timerRate (s : State) : Rat :=
  if s.clocks.xclkOk then 1 else max 1 (min (13 / 10) (Config.aonRate s.now))

/-- The silence timer stands still while the module masters the bus or waits in a queued boot (R376). -/
def State.silenceStops (s : State) : Bool := s.host.mastering || s.core.phase == .queued

/-! ## Broken limits (R326) -/

/-- FCLK is above ECLK/2: FCLK units can drop or repeat words in their transfers into ECLK memories (R326). -/
def State.fclkFast (s : State) : Bool := decide (s.clockHz .eclk < 2 * s.clockHz .fclk)

/-- FCLK is below ECLK/4: returns from the banks overflow the DMA and core return buffers (R326). -/
def State.fclkSlow (s : State) : Bool := decide (4 * s.clockHz .fclk < s.clockHz .eclk)

/-- HCLK is above FCLK: posted writes into FCLK units may be lost, and reads from them may be stale (R326). -/
def State.hclkFast (s : State) : Bool := decide (s.clockHz .fclk < s.clockHz .hclk)

/-- The byte address lies in an ECLK memory: router tables, engine memories, Set memory or the Delay Store. -/
def inEclkMem (a : Nat) : Bool := (decide (0x100000 ≤ a) && decide (a < 0x300000)) || (decide (0x400000 ≤ a) && decide (a < 0x3000000))

/-- A word that an FCLK unit writes into memory: with FCLK too fast for an ECLK memory, a word that is left open (R326). -/
def State.fclkWrite (s : State) (a : Nat) (w : Word) : State :=
  if inEclkMem a && s.fclkFast then ({ s with drawn := s.drawn + 1 }).setWord a (Config.crossedWord s.drawn w) else s.setWord a w

/-- A word as it reaches an ECLK memory from an FCLK unit (R326). -/
def State.crossed (s : State) (w : Word) : Word := if s.fclkFast then Config.crossedWord s.drawn w else w

/-- The state once `crossed` has drawn its value. -/
def State.drew (s : State) : State := if s.fclkFast then { s with drawn := s.drawn + 1 } else s

/-- The byte address lies in a unit clocked by FCLK: the control core's and the DMA's blocks and the core window (R10). -/
def inFclkUnit (a : Nat) : Bool :=
  a / 0x1000 == 0x07 || a / 0x1000 == 0x08 || a / 0x1000 == 0x09 || (decide (0x300000 ≤ a) && decide (a < 0x330000))

/-- A host's write to an FCLK unit may be lost, and a read of one be stale: HCLK is above FCLK (R326). -/
def State.hostCrosses (s : State) (a : Nat) : Bool := inFclkUnit a && s.hclkFast

/-- The parity of a control word that an FCLK unit has written: good, or open with FCLK too fast for an ECLK memory (R326). -/
def State.fclkGood (s : State) (a : Nat) : State :=
  if inEclkMem a && s.fclkFast then
    { s with drawn := s.drawn + 1, parityBad := put false s.parityBad a (Config.crossedBad s.drawn) }
  else s.good a

/-- TBn_CFG (R348). -/
def State.tbCfg (s : State) (n : Nat) : Word := s.reg (blk 0x03 (0x040 + 32 * n))

/-- TBn_CFG or TBn_NOM is under a parity error (R29). -/
def State.tbBad (s : State) (n : Nat) : Bool := s.bad (blk 0x03 (0x040 + 32 * n)) || s.bad (blk 0x03 (0x044 + 32 * n))

/-- The frame source kind of timebase `n` (R348): 0 NONE, 1 TDM, 2 biphase, 3 XCLK. Under a parity error the timebase has no source
(R29; log entry 74). -/
def State.tbKind (s : State) (n : Nat) : Nat := if s.tbBad n then 0 else fld (s.tbCfg n) 5 4

/-- The frame source index of timebase `n` (R348). -/
def State.tbIndex (s : State) (n : Nat) : Nat := fld (s.tbCfg n) 11 8

/-- The nominal cycles per tick of a rate class, with NOM_CYCLES for OTHER (R336). -/
def classCycles (cls nom : Nat) : Nat :=
  if cls = 0 then 19200 else if cls ≤ 2 then 12800 else if cls ≤ 4 then 6400 else if cls ≤ 6 then 3200 else nom

/-- The nominal cycles per tick of timebase `n` (R336). -/
def State.nominal (s : State) (n : Nat) : Nat :=
  classCycles (fld (s.tbCfg n) 2 0) (fld (s.reg (blk 0x03 (0x044 + 32 * n))) 16 0)

/-- The rate of a class in Hz; 0 for OTHER (R332, R348). -/
def classHz (cls : Nat) : Nat :=
  if cls = 0 then 32000 else if cls = 1 then 44100 else if cls = 2 then 48000 else if cls = 3 then 88200
  else if cls = 4 then 96000 else if cls = 5 then 176400 else if cls = 6 then 192000 else 0

/-- The nominal tick rate of timebase `n` in Hz. -/
def State.nominalHz (s : State) (n : Nat) : Rat :=
  let cls := fld (s.tbCfg n) 2 0
  if cls < 7 then (classHz cls : Rat) else s.clockHz .eclk / s.nominal n

/-- A port's fade length on timebase `n`: FADE_LEN, which thermal shutdown shortens to at most 5 ms (R464). -/
def State.fadeCap (s : State) (n len : Nat) : Nat := if s.power.therm then min len (s.nominalHz n / 200).floor.toNat else len

/-- RMi_RATE (R349). -/
def State.rmRate (s : State) (i : Nat) : Word := s.reg (blk 0x03 (0x100 + 8 * i))

/-- RMi_RATE.CLASS (R332). -/
def State.rmClass (s : State) (i : Nat) : Nat := fld (s.rmRate i) 25 22

/-- The rate meter input of a TDM port: that of the pin pair it uses (R273, R331). -/
def State.pinPair (s : State) (p : Nat) : Nat :=
  let cfg := s.reg (blk (0x10 + p) 0x010)
  if bit cfg 28 then fld cfg 27 24 else p

/-! ## TDM ports -/

/-- The register at offset `o` of TDM port `p`. -/
def tdmReg (p o : Nat) : Nat := blk (0x10 + p) o

/-- CFG (R291). -/
def State.tdmCfg (s : State) (p : Nat) : Word := s.reg (tdmReg p 0x010)

/-- The port's timebase. -/
def State.tdmTb (s : State) (p : Nat) : Nat := fld (s.tdmCfg p) 1 0

/-! ## Waveforms -/

/-- A = 10^(-n / 200) to 48 decimal places (R244). -/
def amplitude (n : Nat) : Rat :=
  (988553094656938840285247929782026836864107267231 / 10 ^ 48 : Rat) ^ (n % 200) / 10 ^ (n / 200)

/-- The sine of `p` / 2^24 of a cycle. -/
def sinePhase (p : Nat) : Rat :=
  let x := pi * (p % 2 ^ 22 : Nat) / 2 ^ 23
  match p / 2 ^ 22 % 4 with
  | 0 => sinSeries x
  | 1 => cosSeries x
  | 2 => -sinSeries x
  | _ => -cosSeries x

/-- A pink noise generator's value: the noise at its own rms of 1, 12.00 dB below A, saturated (R244; log entry 18). -/
def pinkValue (n tick att : Nat) : Word :=
  sat31 (rne (amplitude att * amplitude 120 * Config.pinkNoise n tick * 2 ^ 31))

/-- A sine generator's value at a phase: the exact value with an error of at most 2^-28, none at the zero and at full-scale
quarter cycles, rounded to nearest-even into Q1.31 (R244). -/
def sineValue (p att : Nat) : Word :=
  let free := max (-(1 / 2 ^ 28 : Rat)) (min (1 / 2 ^ 28 : Rat) (Config.sineError p att))
  let err := if p % 2 ^ 22 = 0 ∧ (att = 0 ∨ p % 2 ^ 23 = 0) then 0 else free
  sat31 (rne ((amplitude att * sinePhase p + err) * 2 ^ 31))

end Sys2Proof.Machine
end

