-- ==== Sys2Proof/Machine/BiphaseTx.lean ====
section
/-!
DEFINITION. Biphase transmitters: their states, banks and frames (R294, R306 to R314).
-/

namespace Sys2Proof.Machine

/-- The register at offset `o` of transmitter `n`. -/
def txReg (n o : Nat) : Nat := blk (0x24 + n) o

/-- One bit of the CRCC of AES3 in transmission order (R303; log entry 22). -/
def crccBit (c : Byte) (b : Bool) : Byte := if c.getLsbD 0 != b then (c >>> 1) ^^^ 0xB8 else c >>> 1

/-- The CRCC of bytes 0 to 22 of a channel status block (R303). -/
def crcc (bits : List Bool) : Byte := (bits.take 184).foldl crccBit 0xFF

/-- The six words from offset `o` of a block's registers hold `l`. -/
def State.setWords (s : State) (b o : Nat) (l : List Word) : State :=
  s.each l.zipIdx fun s c => s.setReg (blk b (o + 4 * c.2)) c.1

/-- The six words from offset `o` of a block's registers. -/
def State.sixWords (s : State) (b o : Nat) : List Word := (List.range 6).map fun k => s.reg (blk b (o + 4 * k))

/-! ## Transmitters (R306 to R312) -/

/-- The transmitter's timebase (R314). -/
def State.txTb (s : State) (n : Nat) : Nat := fld (s.reg (txReg n 0x010)) 1 0

/-- FADE_LEN (R314, R464). -/
def State.txFadeLen (s : State) (n : Nat) : Nat := s.fadeCap (s.txTb n) (fld (s.reg (txReg n 0x018)) 23 16)

/-- START_COUNT (R314). -/
def State.txCount (s : State) (n : Nat) : Nat := fld (s.reg (txReg n 0x018)) 9 0

/-- The timebase of a RUNNING transmitter holds (R308). -/
def State.txHold (s : State) (n : Nat) : State :=
  if (s.tx n).st = .running then (s.setTx n { s.tx n with st := .hold }).raise (0x24 + n) 4 else s

/-- The transmitter enters RUNNING, and HOLD with it where its timebase holds (R308). -/
def State.txRunning (s : State) (n : Nat) : State :=
  let s := (s.setTx n { s.tx n with st := .running, count := 0, countTo := none }).raise (0x24 + n) 1
  if s.holding (s.txTb n) then s.txHold n else s

/-- The transmitter enters STARTING, and with START_COUNT 0 RUNNING at once (R308). Blocks count anew (R307, R314). -/
def State.txStarting (s : State) (n : Nat) : State :=
  if !(s.domain 16) then s
  else
    let s := (s.setTx n { BpTx.reset with st := .starting, swapAt := (s.tx n).swapAt }).setReg (txReg n 0x028) 0
    if s.txCount n = 0 then s.txRunning n else s

/-- The transmitter enters DISABLED: BPO is held low (R308). -/
def State.txDisabled (s : State) (n : Nat) : State := s.setTx n { BpTx.reset with swapAt := (s.tx n).swapAt }

/-- The end of STOPPING (R308). -/
def State.txStopped (s : State) (n : Nat) : State :=
  let again := (s.tx n).restart
  let s := (s.txDisabled n).raise (0x24 + n) 2
  if again then s.txStarting n else s

/-- The transmitter enters STOPPING (R308). -/
def State.txStopping (s : State) (n : Nat) : State :=
  s.setTx n { s.tx n with st := .stopping, restart := false, count := 0, countTo := none }

/-- CTRL written with EN (R308). -/
def State.txEnable (s : State) (n : Nat) : State :=
  let s := s.setReg (txReg n 0x014) 1
  match (s.tx n).st with
  | .disabled => s.txStarting n
  | .stopping => s.setTx n { s.tx n with restart := true }
  | _ => s

/-- CTRL written without EN (R308). -/
def State.txDisable (s : State) (n : Nat) : State :=
  let s := s.setReg (txReg n 0x014) 0
  match (s.tx n).st with
  | .starting | .running | .hold => s.txStopping n
  | .stopping => s.setTx n { s.tx n with restart := false }
  | .faulted => s.txDisabled n
  | .disabled => s

/-- A full image load stops the transmitter (R59, R308). -/
def State.txFullStop (s : State) (n : Nat) : State :=
  match (s.tx n).st with
  | .starting | .running | .hold => s.txStopping n
  | .stopping => s.setTx n { s.tx n with restart := false }
  | _ => s

/-- SWAP, or a commit that reaches the transmitter (R309). -/
def State.txArm (s : State) (n : Nat) : State :=
  if (s.tx n).swapAt.isSome then s else s.setTx n { s.tx n with swapAt := some (s.tb (s.txTb n)).tickNo }

/-- REVERT: the live bank goes into the pending bank (R309). -/
def State.txRevert (s : State) (n : Nat) : State :=
  let s := s.each (List.range 24) fun s k => s.setReg (txReg n (0x040 + 4 * k)) (s.reg (txReg n (0x0C0 + 4 * k)))
  s.setTx n { s.tx n with swapAt := none }

/-- Six words of the live bank from word `k` take `l`. -/
def State.setLive (s : State) (n k : Nat) (l : List Word) : State := s.setWords (0x24 + n) (0x0C0 + 4 * k) l

/-- Words `k` to `k + 11` of the live bank at a block start: a receiver's stored words where the source field names one that is
RUNNING, the pending bank where a swap is due and the bank is the transmitter's own (R309, R310). -/
def State.liveBank (s : State) (n k src csA csB : Nat) (swap : Bool) : State :=
  if 4 ≤ src then
    let m := src - 4
    if (s.rx m).st = .running then
      (s.setLive n k (s.sixWords (0x20 + m) csA)).setLive n (k + 6) (s.sixWords (0x20 + m) csB)
    else s
  else if swap then
    (s.setLive n k (s.sixWords (0x24 + n) (0x040 + 4 * k))).setLive n (k + 6) (s.sixWords (0x24 + n) (0x058 + 4 * k))
  else s

/-- The bits of six words in transmission order. -/
def bitsOfWords (l : List Word) : List Bool := l.flatMap fun w => (List.range 32).map (bit w)

/-- Byte 23 of a professional channel's live CS is computed (R307). -/
def State.computeCrcc (s : State) (n k : Nat) : State :=
  let w := s.sixWords (0x24 + n) (0x0C0 + 4 * k)
  if bit (w.getD 0 0) 0 then
    s.setRegFld (txReg n (0x0D4 + 4 * k)) 31 24 (crcc (bitsOfWords w)).toNat
  else s

/-- A block start of transmitter `n` (R307, R309, R310). -/
def State.txBlock (s : State) (n : Nat) : State :=
  let src := s.reg (txReg n 0x01C)
  let due := (s.tx n).swapAt.any fun k => k + 1 ≤ (s.tb (s.txTb n)).tickNo
  let s := (s.liveBank n 0 (fld src 2 0) 0x054 0x06C due).liveBank n 12 (fld src 6 4) 0x094 0x0AC due
  let s := if due then (s.setTx n { s.tx n with swapAt := none }).raise (0x24 + n) 3 else s
  let s := (s.computeCrcc n 0).computeCrcc n 6
  s.setReg (txReg n 0x028) (s.reg (txReg n 0x028) + 1)

/-- The parity bit that makes slots 4 to 31 of a subframe even (R293, R307). -/
def slotParity (audio : BitVec 24) (v u c : Bool) : Bool :=
  (List.range 24).foldl (fun b i => b != audio.getLsbD i) (v != (u != c))

/-- The audio field a transmitter sends for a value (R294). -/
def txAudio (aux : Bool) (v : Word) (g : Rat) : Word := if aux then narrow v g 20 <<< 4 else narrow v g 24

/-- The frame with which a restart begins counts as STARTING's first (R308). -/
def State.txFirst (s : State) (n : Nat) : State :=
  if (s.tx n).st = .starting then s.setTx n { s.tx n with count := 1, countTo := some (s.txCount n) } else s

/-- The states of a transmitter before it sends a frame; `tick` when the frame begins at a tick of its timebase (R308). -/
def State.txAdvance (s : State) (n : Nat) (tick : Bool) : State :=
  let x := s.tx n
  match x.st with
  | .starting =>
    let goal := x.countTo.getD (s.txCount n)
    if goal ≤ x.count then s.txRunning n else s.setTx n { x with count := x.count + 1, countTo := some goal }
  | .hold => if tick then s.setTx n { x with st := .running } else s
  | .stopping =>
    if x.fade.gain = 0 then
      let goal := x.countTo.getD (s.txCount n)
      if goal ≤ x.count then (s.txStopped n).txFirst n else s.setTx n { x with count := x.count + 1, countTo := some goal }
    else s
  | _ => s

/-- A parity error in CFG sends transmitter `n` to FAULTED (R29, R308). -/
def State.txParity (s : State) (n : Nat) : State :=
  if s.bad (txReg n 0x010) && (s.tx n).st != .disabled && (s.tx n).st != .faulted then
    (s.setTx n { s.tx n with st := .faulted }).raise (0x24 + n) 0
  else s

/-- One frame of transmitter `n` (R294, R306 to R312). -/
def State.txFrame (s : State) (n : Nat) (tick : Bool) : State :=
  let s := (s.txParity n).txAdvance n tick
  if (s.tx n).st = .disabled then s
  else
    let s := if (s.tx n).frame = 0 then s.txBlock n else s
    let x := s.tx n
    let live := fun k => bitsOfWords (s.sixWords (0x24 + n) (0x0C0 + 4 * k))
    let fade := x.fade.move (x.st == .running && s.host.st == .normal && s.domain 13) (s.txFadeLen n)
    let aux := bit (s.reg (txReg n 0x010)) 4
    let at_ := fun k => (live k).getD x.frame false
    let a := txAudio aux (x.delivered.getD 0 0) fade.gain
    let b := txAudio aux (x.delivered.getD 1 0) fade.gain
    let v := bit (s.reg (txReg n 0x01C)) 8 || s.host.st == .quarantine
    let f : TxFrame := ⟨x.frame == 0, a, b, v, at_ 0, at_ 6, at_ 12, at_ 18, slotParity (a.setWidth 24) v (at_ 12) (at_ 0),
      slotParity (b.setWidth 24) v (at_ 18) (at_ 6)⟩
    s.setTx n { x with
      fade := fade, frame := (x.frame + 1) % 192, sent := if s.host.st = .superseded then none else some f }

/-- `k` frames sent while the timebase makes no ticks, at its last period (R306, R308). -/
def State.txFrames (s : State) (n : Nat) : Nat → State
  | 0 => s
  | k + 1 => (s.txFrame n false).txFrames n k

/-- Transmitter `n` sends frames: its domain is on, its gate open, and it is not DISABLED (R306, R308). -/
def State.txSends (s : State) (n : Nat) : Bool := s.domain 16 && !(s.gated 12) && (s.tx n).st != .disabled

/-- A tick of transmitter `n`'s timebase begins a frame (R306). -/
def State.txTick (s : State) (n : Nat) : State := if s.txSends n then s.txFrame n true else s

/-- Values delivered to transmitter `n`'s sinks (R306). -/
def State.txDeliver (s : State) (n : Nat) (l : List Word) : State :=
  if (s.tx n).st = .disabled then s else s.setTx n { s.tx n with delivered := l }

end Sys2Proof.Machine
end

