-- ==== Sys2Proof/Machine/Discipline.lean ====
section
/-!
DEFINITION. The discipline of the DCO by TB0's frame marks or a receiver's block marks (R319, R320).
-/

namespace Sys2Proof.Machine

/-- DISC (R344). -/
def State.disc (s : State) : Word := s.reg (blk 0x02 0x01C)

/-- The state with the clock generator replaced. -/
def State.setClocks (s : State) (c : Clocks) : State := { s with clocks := c }

/-- An integer as a 16-bit field, saturated. -/
def sat16 (v : Int) : Nat := (BitVec.ofInt 16 (max (-32768) (min 32767 v))).toNat

/-- DISC_LOCKED and DISC_UNLOCK by the error of a used mark (R320). -/
def State.discJudge (s : State) (err : Int) : State :=
  let c := s.clocks
  let near := -2 ≤ err ∧ err ≤ 2
  let far := err < -16 ∨ 16 < err
  let c := { c with discRun := if near then c.discRun + 1 else 0, unlockRun := if far then c.unlockRun + 1 else 0 }
  if c.unlockRun ≥ 4 ∧ c.discLocked then (s.setClocks { c with discLocked := false, discRun := 0 }).raise 0x02 8
  else if c.discRun ≥ 64 ∧ !c.discLocked then (s.setClocks { c with discLocked := true }).raise 0x02 7
  else s.setClocks c

/-- Source `src` of DISC gives marks no longer, or one that is not used: the next used mark has none before it (R319). -/
def State.discDrop (s : State) (src : Nat) : State :=
  if fld s.disc 6 4 = src ∧ s.clocks.discMark.isSome then s.setClocks { s.clocks with discMark := none } else s

/-- DISCIPLINE_MARK: a used mark, with its expected count of ECLK cycles since the mark before (R319, R320). None is used in
HOLDOVER or while the DCO is OFF. -/
def State.discMark (s : State) (want : Nat) : State :=
  let c := s.clocks
  if c.dco = .holdover ∨ c.dco = .off then s
  else
    let s := s.setClocks { c with discMark := some s.now }
    match c.discMark with
    | none => s
    | some m =>
      let err : Int := (s.now - m : Nat) - (want : Int)
      let demand := Config.steerDemand c.steer err (fld s.disc 9 8)
      let steer := max (-16777) (min 16777 demand)
      let clamp := demand != steer
      let s := s.setClocks { s.clocks with steer := steer, discClamp := clamp }
      let s := (s.setReg (blk 0x02 0x020) (BitVec.ofNat 32 (sat16 steer))).setReg (blk 0x02 0x024) (BitVec.ofNat 32 (sat16 err))
      (if clamp && !c.discClamp then s.raise 0x02 9 else s).discJudge err

/-- A TB0 tick taken in TRACKING as a discipline mark (R319). -/
def State.discTick (s : State) : State :=
  if bit s.disc 0 ∧ fld s.disc 6 4 = 0 then s.discMark (s.nominal 0) else s

/-- A Z preamble of receiver `n`, RUNNING with ROLE 0b10, as a discipline mark (R298, R319). -/
def State.discBlock (s : State) (n : Nat) : State :=
  if bit s.disc 0 ∧ fld s.disc 6 4 = 4 + n ∧ fld (s.reg (blk (0x20 + n) 0x010)) 3 2 = 2 then
    s.discMark (192 * s.nominal 0) else s

end Sys2Proof.Machine
end

