-- ==== Sys2Proof/Machine/Fifo.lean ====
section
/-!
DEFINITION. The receive side that TDM ports and biphase receivers share: frames from port frame to tick, slips, underruns and
overruns (R274, R275, R280, R281, R297).
-/

namespace Sys2Proof.Machine

/-- What a receive side has to count: a frame dropped or repeated, an underrun or an overrun begun. -/
structure RxNote where
  drop : Bool := false
  rep : Bool := false
  under : Bool := false
  overrun : Bool := false
  deriving DecidableEq, Repr

/-- An underrun begins or goes on (R281). -/
def RxSide.starve (x : RxSide) : RxSide × RxNote :=
  ({ x with under := true, good := 0 }, { under := !x.under })

/-- A frame becomes the sources, and `rest` still waits. -/
def RxSide.read (x : RxSide) (f : List Word) (rest : List (List Word)) : RxSide :=
  { x with held := f, fifo := rest, repeated := false, settled := true,
           good := if x.under || x.overrun then x.good + 1 else 0 }

/-- A fault ends after 4 consecutive ticks that read a frame (R281). -/
def RxSide.recover (x : RxSide) : RxSide :=
  if (x.under || x.overrun) && 4 ≤ x.good then { x with under := false, overrun := false, good := 0 } else x

/-- A tick on the FIFO of a RUNNING port that is not aligned (R280, R281); `slip` is a forced slip, true for a repeat
(R507). -/
def RxSide.takeFifo (x : RxSide) (stalled : Bool) (slip : Option Bool) : RxSide × RxNote :=
  if !x.settled && x.fifo.length < 2 then (x, {})
  else if stalled || x.fifo.isEmpty then
    if x.repeated then x.starve else ({ x with repeated := true, good := 0, settled := true }, { rep := true })
  else
    let trimmed := x.trim
    let fifo := if trimmed then x.fifo.drop (x.fifo.length - 2) else x.fifo
    let x := { x with trim := false }
    match fifo, slip with
    | [], _ => (x, {})
    | _, some true => ({ x with fifo := fifo, repeated := false }, { rep := true })
    | _ :: [], some false => ({ (x.read [] []) with held := x.held }, { drop := true })
    | _ :: g :: r, some false => (x.read g r, { drop := true })
    | f :: r, none =>
      match r with
      | g :: r' => if 5 ≤ fifo.length && !trimmed then (x.read g r', { drop := true }) else (x.read f r, {})
      | [] => (x.read f [], {})

/-- A tick on a receive side (R274, R280, R281, R297). -/
def RxSide.take (x : RxSide) (aligned running stalled : Bool) (slip : Option Bool) : RxSide × RxNote :=
  let x := x.recover
  if aligned then
    match x.fresh, stalled with
    | some f, false => ({ (x.read f x.fifo) with fresh := none }, {})
    | _, _ => if running then x.starve else (x, {})
  else if running then x.takeFifo stalled slip
  else (x, {})

/-- A completed frame on a receive side (R274, R281). -/
def RxSide.store (x : RxSide) (aligned running : Bool) (f : List Word) : RxSide × RxNote :=
  if aligned then ({ x with fresh := some f }, {})
  else if !running then (x, {})
  else if 8 ≤ x.fifo.length then ({ x with overrun := true, good := 0, trim := true }, { overrun := !x.overrun })
  else ({ x with fifo := x.fifo ++ [f] }, {})

/-- The receive side at the entry into RUNNING: settled at once on an aligned port, otherwise when 2 frames wait
(R275; log entry 21). -/
def RxSide.start (x : RxSide) (aligned : Bool) : RxSide :=
  { RxSide.reset with settled := aligned, fresh := if aligned then some (x.fresh.getD []) else none, held := x.held }

/-- The receive side at the entry into HOLD: the FIFO is emptied (R278, R296). A frame that an aligned port has completed becomes the
sources at its tick all the same (R274, R297). -/
def RxSide.stop (x : RxSide) : RxSide := { RxSide.reset with held := x.held, fresh := x.fresh }

/-- Counts and flags what a receive side reports, in block `b` whose SLIP event is bit `ev` and whose SLIP_DROP_COUNT,
SLIP_REPEAT_COUNT, UNDERRUN_COUNT and OVERRUN_COUNT stand from offset `o` on. -/
def State.noteRx (s : State) (b ev o : Nat) (n : RxNote) : State :=
  let s := if n.drop then (s.raise b ev).bump (blk b o) else s
  let s := if n.rep then (s.raise b ev).bump (blk b (o + 4)) else s
  let s := if n.under then (s.raise b (ev + 1)).bump (blk b (o + 8)) else s
  if n.overrun then (s.raise b (ev + 2)).bump (blk b (o + 12)) else s

/-- The forced slip that SLIP names for port `i`, true for a repeat (R507, R512). -/
def State.slipOf (s : State) (i : Nat) : Option Bool :=
  let w := s.control 0x104
  if bit w i then some (bit w 31) else none

/-- A forced slip named by PERTURB.SLIP has acted on port `i`; the control returns to zero with its last port
(R507, R509). Under a parity error it has not acted (R512). -/
def State.slipUsed (s : State) (i : Nat) : State :=
  let a := blk 0xF0 0x104
  let w := setBit (s.reg a) i false
  if (s.slipOf i).isNone then s
  else if fld w 19 0 = 0 then (s.setReg a 0).raise 0xF0 2 else s.setReg a w

/-- BPi starves the transmit FIFO (R507). -/
def State.txStarved (s : State) (i : Nat) : Bool := bit (s.acting (0x0A0 + 4 * i)) 0

/-- BPi stalls the receive FIFO (R507). -/
def State.rxStalled (s : State) (i : Nat) : Bool := bit (s.acting (0x0A0 + 4 * i)) 1

/-- LOOP loops port `i` back, 16 on for receivers (R507, R510). -/
def State.looped (s : State) (i : Nat) : Bool := bit (s.acting 0x108) i

/-- A tick of port `i`'s timebase: its BP entry acts from here on, for FRAMES ticks; one that has acted for them ends, and its MODE reads
none (R507, R509). -/
def State.bpTick (s : State) (i : Nat) : State :=
  let a := blk 0xF0 (0x0A0 + 4 * i)
  let w := s.reg a
  let n := look 0 s.provoked.ticksLeft i
  let act := fun (s : State) (v : Word) => { s with provoked := { s.provoked with acting := put 0 s.provoked.acting a v } }
  if fld w 1 0 = 0 ∨ fld w 23 16 = 0 then act s w
  else if n = 0 then act ((s.setRegFld a 1 0 0).raise 0xF0 2) 0
  else act { s with provoked := { s.provoked with ticksLeft := put 0 s.provoked.ticksLeft i (n - 1) } } w

/-- A tick of port `i`'s timebase: its bit of LOOP acts from here on (R507, R510). -/
def State.loopTick (s : State) (i : Nat) : State :=
  let a := blk 0xF0 0x108
  let v := bit (s.reg a) i
  let p := s.provoked
  if v = bit (look 0 p.acting a) i then s
  else { s with provoked := { p with acting := put 0 p.acting a (setBit (look 0 p.acting a) i v), loopAt := put 0 p.loopAt i s.now } }

/-- A tick of engine `e`'s timebase: its FAR_LAT acts from here on (R507). -/
def State.latTick (s : State) (e : Nat) : State :=
  let a := blk 0xF0 (0x020 + 4 * e)
  { s with provoked := { s.provoked with acting := put 0 s.provoked.acting a (s.reg a) } }

/-- Receiver `n` gives frame marks: its ROLE is a frame source or a block source (R298). -/
def State.rxFrames (s : State) (n : Nat) : Bool :=
  let r := fld (s.reg (blk (0x20 + n) 0x010)) 3 2
  r == 1 || r == 2

end Sys2Proof.Machine
end

