-- ==== Sys2Proof/Machine/Drawers.lean ====
section
/-!
DEFINITION. Drawers and banks: the descriptors of R166, the origin's advance (R172), and which bank and which power domain a
word of Set memory or of the Delay Store lies in (R164, R535).
-/

namespace Sys2Proof.Machine

/-- A drawer's name: a Set drawer of Set `set`, or a Store drawer. -/
structure DrawerName where
  store : Bool
  set : Nat
  n : Nat
  deriving DecidableEq, Repr

/-- The name denotes a drawer (R164, R174). -/
def DrawerName.exists_ (d : DrawerName) : Bool := if d.store then d.n < 256 else d.set < 8 && d.n < 64

/-- The address of a drawer's LOC (R166). -/
def locAddr (d : DrawerName) : Nat := if d.store then blk 0x38 (0x100 + 4 * d.n) else blk (0x60 + d.set) (0x100 + 16 * d.n)

/-- The address of a drawer's LEN (R166). -/
def lenAddr (d : DrawerName) : Nat := if d.store then blk 0x38 (0x500 + 4 * d.n) else blk (0x60 + d.set) (0x104 + 16 * d.n)

/-- The address of a drawer's ORIGIN (R166). -/
def originAddr (d : DrawerName) : Nat :=
  if d.store then blk 0x38 (0x900 + 4 * d.n) else blk (0x60 + d.set) (0x108 + 16 * d.n)

/-- The control block that holds a drawer's descriptor. -/
def drawerBlock (d : DrawerName) : Nat := if d.store then 0x38 else 0x60 + d.set

/-- LOC.OWNER (R167). -/
def locOwner (loc : Word) : Nat := fld loc 29 24

/-- LOC.TIMEBASE (R167). -/
def locTb (loc : Word) : Nat := fld loc 23 22

/-- LOC.ADVANCE (R167). -/
def locAdvance (loc : Word) : Bool := bit loc 30

/-- LOC.BASE (R167). -/
def locBase (loc : Word) : Nat := fld loc 21 0

/-- The live LOC of a drawer. -/
def State.loc (s : State) (d : DrawerName) : Word := s.reg (locAddr d)

/-- The live LEN of a drawer in words. -/
def State.len (s : State) (d : DrawerName) : Nat := fld (s.reg (lenAddr d)) 22 0

/-- The origin of a drawer. -/
def State.origin (s : State) (d : DrawerName) : Nat := fld (s.reg (originAddr d)) 21 0

/-- The state with a drawer's origin at `o`. -/
def State.setOrigin (s : State) (d : DrawerName) (o : Nat) : State := s.setReg (originAddr d) (BitVec.ofNat 32 o)

/-- One of the three words of a drawer's descriptor is under a parity error: the drawer is treated as disabled (R29, R166). -/
def State.drawerBad (s : State) (d : DrawerName) : Bool := s.bad (locAddr d) || s.bad (lenAddr d) || s.bad (originAddr d)

/-- The byte address of word `w` of a drawer's memory (R164). -/
def drawerMem (d : DrawerName) (w : Nat) : Nat := (if d.store then 0x2000000 else 0x1000000 + d.set * 0x200000) + 4 * w

/-- The byte address of the word at index `i` of a drawer (R175). -/
def State.drawerWord (s : State) (d : DrawerName) (i : Nat) : Nat := drawerMem d (locBase (s.loc d) + i)

/-- The number of words of a drawer's memory (R164). -/
def drawerMemWords (d : DrawerName) : Nat := if d.store then 4194304 else 524288

/-- The bank of a byte address in Set memory or the Delay Store, each bank of the module under its own number (R164). -/
def bankOf (a : Nat) : Nat := if a < 0x2000000 then (a - 0x1000000) / 0x80000 else 0x100 + (a - 0x2000000) / 0x100000

/-- The power domain of a byte address in Set memory or the Delay Store (R535). -/
def bankDomain (a : Nat) : Nat := if a < 0x2000000 then (a - 0x1000000) / 0x200000 + 1 else 9 + (a - 0x2000000) / 0x400000

/-- The cycles from the issue of a request to its arrival at its bank's arbiter (R182). -/
def reqArrival (a : Nat) : Nat := if a < 0x2000000 then 2 else 3

/-- The cycles from a bank's grant to the first cycle in which the word is usable (R182). -/
def reqReturn (a : Nat) : Nat := if a < 0x2000000 then 3 else 5

/-- The ECLK cycles that `n` bank cycles take: a bank of Set memory has two in each (R187). -/
def bankCycles (a n : Nat) : Nat := if a < 0x2000000 then (n + 1) / 2 else n

/-- The byte address lies at a Set memory or Delay Store bank. -/
def atBank (a : Nat) : Bool := decide (0x1000000 ≤ a) && decide (a < 0x3000000)

/-- The bank cycles for which a request of the engine class that arrives now is held (R507, R508). -/
def State.engHold (s : State) : Nat := fld (s.control 0x01C) 7 0

/-- The bank cycles for which a request of a lower class that arrives now is held: class 0 router stream, 1 DMA, 2 control core, 3
host bridge (R507, R508, R512). -/
def State.lowerHold (s : State) (cls : Nat) : Nat := fld (s.control 0x018) (8 * cls + 7) (8 * cls)

/-- The hold of a lower class as it stood in cycle `at_`: that under which a request which arrived then is held (R508). -/
def State.holdAt (s : State) (cls at_ : Nat) : Nat :=
  match s.provoked.lower.find? fun c => decide (c.1 ≤ at_) with
  | some c => fld (s.used (blk 0xF0 0x018) c.2) (8 * cls + 7) (8 * cls)
  | none => 0

/-- LOWER_WAIT_MAX takes a wait of class `cls` at a Delay Store bank that is longer than the one it holds (R200). Of two equal waits the
earlier stays, and a wait above 0xFFFF shows as 0xFFFF (DESIGN CHOICE, log entry 81). -/
def State.lowerWait (s : State) (cls a wait : Nat) : State :=
  let r := blk 0x38 0x018
  if 0x2000000 ≤ a ∧ a < 0x3000000 ∧ fld (s.reg r) 15 0 < wait then
    s.setReg r (BitVec.ofNat 32 (cls * 2 ^ 28 + (a - 0x2000000) / 0x100000 * 2 ^ 24 + min wait 0xFFFF))
  else s

/-- A request of class `cls` at address `a`, whose wait nothing outside shows, is granted after its hold and a wait of its own, which is
free within R192: 32 cycles for each place in the queue of its class, of which a stream's has 64 (R192, R200; log entry 92). -/
def State.bankWaited (s : State) (cls a hold : Nat) : State :=
  if 0x2000000 ≤ a ∧ a < 0x3000000 then
    ({ s with drawn := s.drawn + 1 }).lowerWait cls a (hold + min (Config.bankWait s.drawn) (if cls = 0 then 2048 else 32))
  else s

/-- The byte address lies in a domain that is off, or in a quarter that is being cleared after lost retention (R10, R452). -/
def State.memOff (s : State) (a : Nat) : Bool := !(s.domain (bankDomain a)) || s.power.lost.contains (bankDomain a)

/-- One advance of a drawer's origin (R172); a drawer under a parity error is treated as disabled (R29). -/
def State.advance (s : State) (d : DrawerName) : State :=
  if s.drawerBad d then s.raise (drawerBlock d) 0
  else if s.len d = 0 then s else s.setOrigin d ((s.origin d + s.len d - 1) % s.len d)

/-- The drawer whose LEN register lies at a byte address (R166). -/
def drawerOfLen (a : Nat) : Option DrawerName :=
  let b := a / 0x1000
  let o := a % 0x1000
  if b = 0x38 ∧ 0x500 ≤ o ∧ o < 0x900 then some ⟨true, 0, (o - 0x500) / 4⟩
  else if 0x60 ≤ b ∧ b < 0x68 ∧ 0x100 ≤ o ∧ o < 0x500 ∧ o % 16 = 4 then some ⟨false, b - 0x60, (o - 0x100) / 16⟩
  else none

/-- The enabled drawers: every LEN is 0 after reset, so they are among the registers that do not stand at Reset. -/
def State.enabledDrawers (s : State) : List DrawerName :=
  s.regs.filterMap fun c => (drawerOfLen c.1).bind fun d => if s.len d = 0 then none else some d

/-- The memory of a drawer has its clock and its power: its Set's gate or the Delay Store's is open (R330), and its Set's domain
on. -/
def State.drawerLive (s : State) (d : DrawerName) : Bool :=
  if d.store then !(s.gateShut 8) else s.domain (d.set + 1) && !(s.gateShut d.set)

/-- Advances every drawer that a tick of timebase `n` advances (R172). -/
def State.advanceTick (s : State) (n : Nat) : State :=
  s.each s.enabledDrawers fun s d =>
    if !locAdvance (s.loc d) && locTb (s.loc d) == n && s.drawerLive d then s.advance d else s

/-- Advances every drawer that a sub-Round start of engine `e` advances (R172). -/
def State.advanceOwner (s : State) (e : Nat) : State :=
  s.each s.enabledDrawers fun s d => if locAdvance (s.loc d) && locOwner (s.loc d) == e then s.advance d else s

end Sys2Proof.Machine
end

