-- ==== Sys2Proof/Machine/Flags.lean ====
section
/-!
DEFINITION. The arithmetic of an engine: number formats, guard saturation, rounding, shifts and condition flags
(R114 to R122). Every result is formed exactly over the integers and narrowed at the end.
-/

namespace Sys2Proof.Machine

/-- What an operation leaves in an accumulator: its value, its saturation mark, and whether the operation overflowed. -/
structure AccResult where
  val : Acc
  mark : Bool
  ovg : Bool
  deriving DecidableEq, Repr

/-- The limit of a sign (R116): the greatest or the least accumulator value. -/
def accLimit (negative : Bool) : Acc := if negative then 0x800000000000000000 else 0x7FFFFFFFFFFFFFFFFF

/-- An exact raw value lies in [-512, 512) (R114, R116). -/
def inGuard (v : Int) : Bool := -2 ^ 71 ≤ v && v < 2 ^ 71

/-- A setting operation whose exact result is `v` (R117). -/
def accSet (v : Int) : AccResult :=
  if inGuard v then ⟨BitVec.ofInt 72 v, false, false⟩ else ⟨accLimit (v < 0), true, true⟩

/-- An accumulating operation that adds the exact `d` to an accumulator holding `a` with mark `m` (R116). -/
def accAdd (a : Acc) (m : Bool) (d : Int) : AccResult :=
  if m then ⟨a, true, false⟩ else accSet (a.toInt + d)

/-- A setting operation on a marked source: the limit of the sign the operation stands for, without OVG (R117). -/
def accPass (negative : Bool) : AccResult := ⟨accLimit negative, true, false⟩

/-- A data register as a raw Q10.62 value (R114). -/
def dRaw (d : Word) : Int := d.toInt * 2 ^ 31

/-- `v * 2^sh`, a right shift rounding toward minus infinity (R120). -/
def shiftBy (v sh : Int) : Int := if 0 ≤ sh then v * 2 ^ sh.toNat else v / 2 ^ (-sh).toNat

/-- A data-register result and whether it saturated. -/
structure DResult where
  val : Word
  sat : Bool
  deriving DecidableEq, Repr

/-- An exact raw value saturated to Q1.31 (R121). -/
def dSat (v : Int) : DResult := ⟨sat31 v, v > 0x7FFFFFFF || v < -0x80000000⟩

/-- The raw accumulator value `v` times `2^sh`, rounded to nearest-even into Q1.31 and saturated (R119). -/
def roundAcc (v sh : Int) : DResult := dSat (rneDiv v (2 ^ (31 - sh).toNat))

/-- The two condition flags as CMP and CMPA set them (R122). -/
def flagsOf (x y : Int) : Nat := (if x < y then 1 else 0) + (if x = y then 2 else 0)

/-- `v0 + round((v1 - v0) * j / (g - 1))`, to nearest-even: a glide's value in tick j (R224). -/
def rampValue (v0 v1 : Word) (g j : Nat) : Word :=
  BitVec.ofInt 32 (v0.toInt + rneDiv ((v1.toInt - v0.toInt) * j) (g - 1))

/-- A glide's progress in tick j (R136, R224). -/
def rampProgress (g j : Nat) : Word := BitVec.ofInt 32 (rneDiv (0x7FFFFFFF * (j : Int)) (g - 1))

/-- `w0 + f * (w1 - w0)` with f in 65,536ths, rounded to nearest-even (R176). -/
def interpolate (w0 w1 : Word) (f : Nat) : Word :=
  BitVec.ofInt 32 (rneDiv (w0.toInt * 65536 + f * (w1.toInt - w0.toInt)) 65536)

end Sys2Proof.Machine
end

