-- ==== Sys2Proof/Machine/Groups.lean ====
section
/-!
DEFINITION. The membership of commit groups, and how a member's taking of a commit counts toward its end (R208, R219, R226).
-/

namespace Sys2Proof.Machine

/-- Field `k` of group `g`: 0 GRPn_ENGINES, 1 GRPn_UNITS, 2 GRPn_PORTS (R226). -/
def groupReg (g k : Nat) : Nat := blk 0x0A (0x100 + 32 * g + 4 * k)

/-- A membership word as the hardware uses it (R29). -/
def State.groupWord (s : State) (g k : Nat) : Word := s.used (groupReg g k) (s.reg (groupReg g k))

/-- The set bits of a word from `lo`, `n` of them, counted from `lo`. -/
def bitsFrom (w : Word) (lo n : Nat) : List Nat := (List.range n).filter fun i => bit w (lo + i)

/-- The members of group `g` (R208, R226). -/
def State.members (s : State) (g : Nat) : List Member :=
  let u := s.groupWord g 1
  let p := s.groupWord g 2
  (bitsFrom (s.groupWord g 0) 0 32).map .engine ++ (if bit u 0 then [.router] else []) ++ (bitsFrom p 0 16).map .tdm
    ++ (bitsFrom p 16 4).map .bprx ++ (bitsFrom p 20 4).map .bptx ++ (bitsFrom u 16 16).map .stage

/-- The group's commit is complete (R219). -/
def State.groupDone (s : State) (g : Nat) : State :=
  let a := blk 0x0A (0x118 + 32 * g)
  let c := s.tickCount.toNat
  let s := (s.setGrp g Group.reset).setReg a (s.reg a + 1)
  let s := (s.deviceSet (blk 0x0A 0x020) g).raise 0x0A 1
  (s.setReg (blk 0x0A 0x038) (BitVec.ofNat 32 (c % 2 ^ 32))).setReg (blk 0x0A 0x03C)
    (BitVec.ofNat 32 (c / 2 ^ 32 + g * 2 ^ 16))

/-- The members of group `g` whose commit no longer waits: with the last of them the commit is complete (R219). -/
def State.groupTook (s : State) (g : Nat) (ms : List Member) : State :=
  let x := s.grp g
  let taken := ms ++ x.taken
  if (s.members g).all taken.contains then s.groupDone g else s.setGrp g { x with taken := taken }

/-- The groups whose commit engine `e` will take at the publication of its squeezed Round (R86). -/
def State.lateGroups (s : State) (e : Nat) : List Nat := (List.range 32).filter fun g => (s.grp g).late.contains e

/-- Group `g` with engine `e` no longer waiting for a publication. -/
def State.dropLate (s : State) (g e : Nat) : State :=
  s.setGrp g { s.grp g with late := (s.grp g).late.filter (· != e) }

/-- Group `g` defers on timebase `n` in the present tick (R213, R219). -/
def State.groupDefer (s : State) (g n : Nat) : State :=
  let x := s.grp g
  ((s.setGrp g { x with
    st := .deferred, deferring := n :: x.deferring.filter (· != n), deferredAt := put 0 x.deferredAt n (s.tb n).tickNo }).raise 0x0A 3).bump
    (blk 0x0A 0x030)

end Sys2Proof.Machine
end

