-- ==== Sys2Proof/Machine/Operands.lean ====
section
/-!
DEFINITION. The 64-bit instruction word of an engine: its slots, their fields, and which slots hold a reserved encoding
(R106 to R113, R123 to R129, R132, R134).
-/

namespace Sys2Proof.Machine

/-- Bits `hi` to `lo` of an instruction word. -/
def wf (w : BitVec 64) (hi lo : Nat) : Nat := (w.toNat >>> lo) % 2 ^ (hi + 1 - lo)

/-- ARITH.OP (R110). -/
def arithOp (w : BitVec 64) : Nat := wf w 63 59

/-- ARITH.A: an accumulator (R108, R110). -/
def fA (w : BitVec 64) : Nat := wf w 58 57

/-- ARITH.SX (R110). -/
def fSX (w : BitVec 64) : Nat := wf w 56 53

/-- ARITH.SY (R110). -/
def fSY (w : BitVec 64) : Nat := wf w 52 49

/-- The source accumulator b of ARITH.SY (R110). -/
def fB (w : BitVec 64) : Nat := wf w 50 49

/-- ARITH.DZ (R110). -/
def fDZ (w : BitVec 64) : Nat := wf w 48 45

/-- ARITH.MOD (R110). -/
def fMOD (w : BitVec 64) : Nat := wf w 44 40

/-- MOD[42], SET (R112). -/
def fSET (w : BitVec 64) : Bool := wf w 42 42 == 1

/-- MOD[41], NEG (R112). -/
def fNEG (w : BitVec 64) : Bool := wf w 41 41 == 1

/-- MOD[40], CONJ or WRAP (R112). -/
def fCONJ (w : BitVec 64) : Bool := wf w 40 40 == 1

/-- MOD as a shift count (R113). -/
def fSH (w : BitVec 64) : Int := if fMOD w < 16 then fMOD w else (fMOD w : Int) - 32

/-- MOD holds a shift count that is not reserved (R113). -/
def shLegal (w : BitVec 64) : Bool := fMOD w ≤ 8 || 24 ≤ fMOD w

/-- CTRL.COP (R127). -/
def ctrlOp (w : BitVec 64) : Nat := wf w 19 16

/-- The ARITH slot holds no reserved encoding (R109 to R113). -/
def arithLegal (w : BitVec 64) : Bool :=
  match arithOp w with
  | 0x00 => wf w 63 40 == 0
  | 0x01 => fDZ w == 0 && wf w 44 43 == 0 && wf w 40 40 == 0
  | 0x02 => fA w % 2 == 0 && fSX w % 2 == 0 && fSY w % 2 == 0 && fDZ w == 0 && wf w 44 43 == 0 && wf w 40 40 == 0
  | 0x03 => fA w % 2 == 0 && fSX w % 2 == 0 && fSY w % 2 == 0 && fDZ w == 0 && wf w 44 43 == 0
  | 0x08 => fSX w == 0 && fSY w == 0 && fDZ w == 0 && fMOD w == 0
  | 0x09 => fSX w == 0 && wf w 52 51 == 0 && fDZ w == 0 && wf w 44 42 == 0 && wf w 40 40 == 0
  | 0x0A => fSX w == 0 && wf w 52 51 == 0 && fDZ w == 0 && wf w 44 42 == 0 && wf w 40 40 == 0
  | 0x0B => fSX w == 0 && wf w 52 51 == 0 && fDZ w == 0 && fMOD w == 0
  | 0x0C => fSX w == 0 && wf w 52 51 == 0 && fDZ w == 0 && shLegal w
  | 0x0D => fSY w == 0 && fDZ w == 0 && shLegal w
  | 0x0E => fSY w == 0 && fDZ w == 0 && shLegal w
  | 0x0F => fSY w == 0 && fDZ w == 0 && shLegal w
  | 0x10 => fSX w == 0 && fSY w == 0 && shLegal w
  | 0x11 => fA w % 2 == 0 && fSX w == 0 && fSY w == 0 && fDZ w % 2 == 0 && shLegal w
  | 0x12 => fA w == 0 && fDZ w == 0 && fMOD w == 0
  | 0x13 => fSX w == 0 && fSY w == 0 && fDZ w == 0 && fMOD w == 0
  | 0x14 => fA w == 0 && wf w 44 41 == 0
  | 0x15 => fA w == 0 && wf w 44 41 == 0
  | 0x16 => fA w == 0 && fMOD w == 0
  | 0x17 => fA w == 0 && fMOD w == 0
  | 0x18 => fA w == 0 && fSY w == 0 && fMOD w == 0
  | 0x19 => fA w == 0 && fSY w == 0 && fMOD w == 0
  | 0x1A => fA w == 0 && fMOD w == 0
  | 0x1B => fA w == 0 && fMOD w == 0
  | 0x1C => fA w == 0 && fMOD w == 0
  | 0x1D => fA w == 0 && fSY w == 0 && shLegal w
  | 0x1E => fA w == 0 && fMOD w == 0
  | _ => false

/-- The lowest bit of the XMOVE or the YMOVE slot (R106). -/
def moveLo : MoveUnit → Nat
  | .x => 30
  | .y => 20

/-- OP of a move slot (R123). -/
def moveOp (w : BitVec 64) (u : MoveUnit) : Nat := wf w (moveLo u + 9) (moveLo u + 7)

/-- The pointer a move slot names: P0 to P3, or P4 to P7 (R108). -/
def movePtr (w : BitVec 64) (u : MoveUnit) : Nat :=
  wf w (moveLo u + 6) (moveLo u + 5) + (match u with | .x => 0 | .y => 4)

/-- REG of a move slot (R123). -/
def moveReg (w : BitVec 64) (u : MoveUnit) : Nat := wf w (moveLo u + 4) (moveLo u + 1)

/-- UPD of a move slot (R123). -/
def moveUpd (w : BitVec 64) (u : MoveUnit) : Bool := wf w (moveLo u) (moveLo u) == 1

/-- A move slot holds no reserved encoding (R108, R109, R124). -/
def moveLegal (w : BitVec 64) (u : MoveUnit) : Bool :=
  match moveOp w u, u with
  | 0, _ => wf w (moveLo u + 9) (moveLo u) == 0
  | 1, _ => true
  | 2, .x => true
  | 3, _ => moveReg w u % 2 == 0
  | 4, .x => moveReg w u % 2 == 0
  | 5, _ => !moveUpd w u
  | 6, _ => !moveUpd w u
  | _, _ => false

/-- The CTRL slot holds no reserved encoding (R109, R127 to R130, R134). -/
def ctrlLegal (w : BitVec 64) : Bool :=
  match ctrlOp w with
  | 0x0 => wf w 15 0 == 0
  | 0x1 => wf w 15 12 == 0
  | 0x2 => wf w 6 0 == 0 && (wf w 7 7 == 1 || wf w 15 8 == 0)
  | 0x3 => wf w 9 9 == 0 && 12 ≤ wf w 8 0
  | 0x4 => wf w 9 0 == 0
  | 0x5 => wf w 13 12 != 3 && wf w 7 0 == 0
  | 0x6 => wf w 8 0 == 0
  | 0x7 => wf w 5 0 == 0 && wf w 11 10 != 3 && (wf w 11 10 != 2 || wf w 9 6 == 0)
  | 0x8 => wf w 7 0 == 0
  | 0x9 => wf w 5 0 == 0 && wf w 11 10 != 3
  | 0xA => wf w 15 12 < 12
  | 0xB => true
  | 0xC => true
  | 0xD => wf w 5 0 == 0
  | _ => false

/-- The operation code of a slot. The ARITH slot of a REP word performs no operation (R132). -/
def slotOp (w : BitVec 64) : SlotName → Nat
  | .arith => if ctrlOp w = 1 then 0 else arithOp w
  | .xmove => moveOp w .x
  | .ymove => moveOp w .y
  | .ctrl => ctrlOp w

/-- A slot holds no reserved encoding (R109). The ARITH bits of a REP word are its count (R132). -/
def slotLegal (w : BitVec 64) : SlotName → Bool
  | .arith => ctrlOp w == 1 || arithLegal w
  | .xmove => moveLegal w .x
  | .ymove => moveLegal w .y
  | .ctrl => ctrlLegal w

/-- The slot of an address unit. -/
def unitSlot : MoveUnit → SlotName
  | .x => .xmove
  | .y => .ymove

/-- REP count (R132). -/
def repCount (w : BitVec 64) : Nat := wf w 55 40

/-- REP END (R127). -/
def repEnd (w : BitVec 64) : Nat := wf w 11 0

/-- No slot of a program word holds an encoding the loader refuses (R109, R132). -/
def wordLegal (w : BitVec 64) : Bool :=
  slotLegal w .arith && slotLegal w .xmove && slotLegal w .ymove && slotLegal w .ctrl
    && (ctrlOp w != 1 || wf w 63 56 == 0)

end Sys2Proof.Machine
end

