-- ==== Sys2Proof/Machine/EngineCore.lean ====
section
/-!
DEFINITION. What the instructions of an engine share: its registers and memories, issue word by word, results in flight, the
end of a word, of a sub-Round and of a stay in RUNNING (R70 to R90, R106 to R109, R130 to R133, R137 to R141, R143 to R159).
-/

namespace Sys2Proof.Machine

/-- The register at offset `o` of engine `e`'s block (R99). -/
def engReg (e o : Nat) : Nat := blk (0x40 + e) o

/-- The first address of engine `e`'s window (R20). -/
def engBase (e : Nat) : Nat := 0x400000 + e * 0x20000

/-- The address of the lower half of program word `n` (R22, R107). -/
def progAddr (e n : Nat) : Nat := engBase e + 8 * n

/-- The address of X word `n` (R22). -/
def xAddr (e n : Nat) : Nat := engBase e + 0x8000 + 4 * n

/-- The address at which the model keeps word `n` of one of the two Y banks. -/
def yAddr (e : Nat) (bank : Bool) (n : Nat) : Nat := engBase e + (if bank then 0x18000 else 0x10000) + 4 * n

/-- CFG.TIMEBASE (R100). -/
def State.engTb (s : State) (e : Nat) : Nat := fld (s.reg (engReg e 0x010)) 1 0

/-- K (R74, R100). -/
def State.engK (s : State) (e : Nat) : Nat := 2 ^ fld (s.reg (engReg e 0x010)) 9 8

/-- Φ (R74, R100). -/
def State.engPhi (s : State) (e : Nat) : Nat := fld (s.reg (engReg e 0x010)) 27 16

/-- B (R74). -/
def State.engBudget (s : State) (e : Nat) : Nat := fld (s.reg (engReg e 0x014)) 14 0

/-- CFG.PRESENT (R100). -/
def State.engPresent (s : State) (e : Nat) : Bool := bit (s.reg (engReg e 0x010)) 31

/-- HANDOFF of engine `e`'s Set (R105). -/
def handoffReg (e : Nat) : Nat := blk (0x60 + e / 4) 0x014

/-- A structural register of the engine is under a parity error: CFG, BUDGET, or its Set's handoff declarations (R29, R50, R88; log entry 74). -/
def State.engStructBad (s : State) (e : Nat) : Bool :=
  s.bad (engReg e 0x010) || s.bad (engReg e 0x014) || s.bad (handoffReg e)

/-- Sets an EVENT flag of engine `e`. -/
def State.engRaise (s : State) (e i : Nat) : State := s.raise (0x40 + e) i

/-- Sets OVG and, where it was clear, captures OVG_AT and OVG_SUB (R99, R118). -/
def State.ovg (s : State) (e : Nat) : State :=
  let c := if s.event (0x40 + e) 1 then s
    else (s.setReg (engReg e 0x034) (s.reg (engReg e 0x030))).setReg (engReg e 0x038) (BitVec.ofNat 32 (s.eng e).ridx)
  c.engRaise e 1

/-- Program word `n` of engine `e` (R107). -/
def State.progWord (s : State) (e n : Nat) : BitVec 64 := s.wordAt (progAddr e n + 4) ++ s.wordAt (progAddr e n)

/-- The word engine `e` has before it. -/
def State.engWord (s : State) (e : Nat) : BitVec 64 := s.progWord e (s.eng e).pc

/-- The word before engine `e` fails its parity check, which covers both its halves (R29). -/
def State.engWordBad (s : State) (e : Nat) : Bool :=
  s.bad (progAddr e (s.eng e).pc) || s.bad (progAddr e (s.eng e).pc + 4)

/-! ## Registers -/

/-- Data register Dn. -/
def Engine.dreg (x : Engine) (n : Nat) : Word := look 0 x.d n

/-- Accumulator An as an accumulating operation sees it (R138). -/
def Engine.accReg (x : Engine) (n : Nat) : Acc := look 0 x.acc n

/-- The mark of An as an accumulating operation sees it (R138). -/
def Engine.accMark (x : Engine) (n : Nat) : Bool := look false x.mark n

/-- Accumulator An as a source read sees it (R137). -/
def Engine.accSrc (x : Engine) (n : Nat) : Acc := look 0 x.accSource n

/-- The mark of An as a source read sees it (R137). -/
def Engine.accSrcMark (x : Engine) (n : Nat) : Bool := look false x.markSource n

/-- `a` lands before `b`: earlier in time or, in one cycle, the write that `b` prevails over (R139). -/
def Landing.before (a b : Landing) : Bool :=
  a.due < b.due || (a.due == b.due && (a.issued < b.issued || (a.issued == b.issued && a.rank ≤ b.rank)))

/-- A list of results in flight with one more, in landing order. -/
def insLanding (l : Landing) : List Landing → List Landing
  | [] => [l]
  | h :: r => if h.before l then h :: insLanding l r else l :: h :: r

/-- The engine with a result in flight that lands `n` cycles after the present word issues. -/
def Engine.later (x : Engine) (n rank : Nat) (dest : Dest) (val : Acc) (mark : Bool := false) : Engine :=
  { x with landings := insLanding ⟨x.cyc + n, x.cyc, rank, dest, val, mark⟩ x.landings }

/-- The engine with one result landed (R137). -/
def Engine.landOne (x : Engine) (l : Landing) : Engine :=
  match l.dest with
  | .d n => { x with d := put 0 x.d n (l.val.setWidth 32) }
  | .g n => { x with g := put 0 x.g n (l.val.setWidth 32) }
  | .accSource n => { x with accSource := put 0 x.accSource n l.val, markSource := put false x.markSource n l.mark }
  | .flags => { x with lt := l.val.getLsbD 0, eq := l.val.getLsbD 1 }
  | .pointer n => { x with ptrOff := put 0 x.ptrOff n (l.val.setWidth 13) }

/-- The engine with every result due by cycle `c` landed, in order (R137, R139). -/
def Engine.land (x : Engine) (c : Nat) : Engine :=
  let due := x.landings.takeWhile fun l => l.due ≤ c
  let x := { x with landings := x.landings.dropWhile fun l => l.due ≤ c }
  due.foldl Engine.landOne x

/-- The cycle at which a far read's word is written into G, once it has arrived (R130). -/
def FarReq.landsAt (q : FarReq) : Option Nat := q.arrived.map fun a => max a q.deadline

/-- A far read holds the engine at its deadline (R79, R130, R185). -/
def FarReq.holds (q : FarReq) (c : Nat) : Bool :=
  q.read && !q.passed && q.deadline ≤ c && (match q.arrived with | none => true | some a => c < a)

/-- The engine stands at a deadline whose word has not come (R79). -/
def Engine.blocked (x : Engine) : Bool := x.far.any fun q => q.holds x.cyc

/-- LATE and LATE_COUNT for a read counted as late (R185). -/
def State.lateMark (s : State) (e : Nat) : State := (s.engRaise e 3).bump (engReg e 0x040)

/-- Brings engine `e` to its present cycle: a read that has come late has held issue until it came (R79, R130), results land, and far entries whose
word is in G leave the queue (R131). While a read still holds the engine, what lands in the present cycle waits for it, since the two may land
together (R139). -/
def State.settle (s : State) (e : Nat) : State :=
  let x := s.eng e
  let c := x.far.foldl (fun c q => match q.arrived with
    | some a => if q.read && !q.passed && q.deadline ≤ c then max c a else c
    | none => c) x.cyc
  let h := if { x with cyc := c }.blocked then c - 1 else c
  let x := { x with cyc := c }.land h
  s.setEng e { x with far := x.far.filter fun q => !(match q.landsAt with | some t => t ≤ h | none => false) }

/-! ## Pointers -/

/-- Word `k` (0 CFG, 1 MOD, 2 INIT) of the live configuration of Pn, zero under a parity error (R154). -/
def State.ptrLive (s : State) (e n k : Nat) : Word :=
  s.used (0x10000000 + engReg e (0x100 + 16 * n + 4 * k)) (look 0 (s.eng e).ptrLive (4 * n + k))

/-- CTRL_PARITY for words `ks` of a pointer's live configuration, as the address unit uses them (R154). -/
def State.ptrUses (s : State) (e n : Nat) (ks : List Nat) : State :=
  s.parity (0x40 + e) (ks.map fun k => 0x10000000 + engReg e (0x100 + 16 * n + 4 * k))

/-- CTRL_PARITY for the configuration that an access uses: CFG, and MOD where it updates the pointer (R144, R154). -/
def State.ptrParity (s : State) (e n : Nat) (upd : Bool) : State := s.ptrUses e n (if upd then [0, 1] else [0])

/-- Bn (R149). -/
def State.ptrBase (s : State) (e n : Nat) : Nat := fld (s.ptrLive e n 0) 12 0

/-- Ln (R149). -/
def State.ptrLen (s : State) (e n : Nat) : Nat := fld (s.ptrLive e n 0) 29 16

/-- Mn (R150). -/
def State.ptrMod (s : State) (e n : Nat) : Int := ((s.ptrLive e n 1).setWidth 14).toInt

/-- On. -/
def Engine.off (x : Engine) (n : Nat) : Nat := (look 0 x.ptrOff n).toNat

/-- The effective address of an access through Pn (R143). -/
def State.ptrEA (s : State) (e n : Nat) : Nat := (s.ptrBase e n + (s.eng e).off n) % 8192

/-- An offset reduced by a pointer's length (R144, R145). -/
def reduceOff (o : Int) (len : Nat) : BitVec 13 := BitVec.ofInt 13 (if len = 0 then o % 8192 else o % len)

/-- The engine with On written. -/
def Engine.setOff (x : Engine) (n : Nat) (o : BitVec 13) : Engine := { x with ptrOff := put 0 x.ptrOff n o }

/-- The update of Pn after an access with UPD = 1; discarded where a SETP of the pointer issued one cycle earlier lands next (R137, R144). -/
def State.ptrUpdate (s : State) (e n : Nat) : State :=
  let x := s.eng e
  if x.landings.any fun l => l.dest == .pointer n && l.due == x.cyc + 1 then s
  else s.setEng e (x.setOff n (reduceOff (x.off n + s.ptrMod e n) (s.ptrLen e n)))

/-- Reloads the pointers whose RELOAD is 1, at the start of a sub-Round (R146). -/
def State.ptrReload (s : State) (e : Nat) : State :=
  s.each (List.range 8) fun s n =>
    if bit (s.ptrLive e n 2) 31 then
      (s.setEng e ((s.eng e).setOff n (reduceOff (fld (s.ptrLive e n 2) 12 0) (s.ptrLen e n)))).ptrUses e n [0]
    else s.ptrUses e n [2]

/-- The staged word `k` of Pn's configuration (R148). -/
def State.ptrStaged (s : State) (e n k : Nat) : Word := s.reg (engReg e (0x100 + 16 * n + 4 * k))

/-- A staged value of Pn is not yet live (R152). -/
def State.ptrPending (s : State) (e n : Nat) : Bool :=
  (List.range 3).any fun k => s.ptrStaged e n k != look 0 (s.eng e).ptrLive (4 * n + k)

/-- Makes the staged configuration of every pointer live (R153); a word made live, be it the value that was live, is good again (R154). -/
def State.ptrMakeLive (s : State) (e : Nat) : State :=
  let s := s.each (List.range 8) fun s n => s.each (List.range 3) fun s k =>
    if s.ptrStaged e n k = look 0 (s.eng e).ptrLive (4 * n + k) ∧ !((s.eng e).ptrFresh.contains (4 * n + k)) then s
    else (s.setEng e { s.eng e with ptrLive := put 0 (s.eng e).ptrLive (4 * n + k) (s.ptrStaged e n k) }).good
      (0x10000000 + engReg e (0x100 + 16 * n + 4 * k))
  if (s.eng e).ptrFresh = [] then s else s.setEng e { s.eng e with ptrFresh := [] }

/-- Reduces every circular pointer's offset by its live length (R155). -/
def State.ptrReduce (s : State) (e : Nat) : State :=
  s.each (List.range 8) fun s n =>
    if s.ptrLen e n = 0 then s else s.setEng e ((s.eng e).setOff n (reduceOff ((s.eng e).off n) (s.ptrLen e n)))

/-! ## Issue -/

/-- The whole word executes as no operation: a parity error, a REP word with bits [63:56] set, or a REP that R132 refuses (R141). -/
def State.wordFault (s : State) (e : Nat) : Bool :=
  let w := s.engWord e
  let x := s.eng e
  s.engWordBad e || (ctrlOp w == 1 && wf w 63 56 != 0)
    || (ctrlOp w == 1 && ctrlLegal w && (x.blocks.length ≥ 4 || repEnd w < x.pc + 1))

/-- Engine `e` has the named slot of its present word still to execute. -/
def State.ready (s : State) (e : Nat) (slot : SlotName) : Bool :=
  let x := s.eng e
  x.st == .running && x.inRound && !(s.engStructBad e) && !x.stalled && !x.blocked && x.issued < s.engBudget e
    && !(x.slotsDone.contains slot)

/-- The slot holds operation `op`, executes it now, and no fault turns it into a no-operation (R106, R109, R141). -/
def State.issues (s : State) (e : Nat) (slot : SlotName) (op : Nat) : Bool :=
  s.ready e slot && !(s.wordFault e) && slotLegal (s.engWord e) slot && slotOp (s.engWord e) slot == op

/-- The program address after a word at `a` issues, with the blocks still active and the loop counters (R157 to R159). -/
def afterWord (blocks : List Block) (lc : Sparse (BitVec 16)) (a : Nat) : List Block × Sparse (BitVec 16) × Nat :=
  match blocks with
  | [] => ([], lc, (a + 1) % 4096)
  | b :: r =>
    if b.last = a then
      if (look 0 lc r.length).toNat > 1 then (b :: r, put 0 lc r.length (look 0 lc r.length - 1), b.first)
      else afterWord r lc a
    else (b :: r, lc, (a + 1) % 4096)

/-- What a sub-Round start does before its first word issues: pointer reloads and origins the engine advances (R76, R146, R157, R172). -/
def State.startSub (s : State) (e i : Nat) : State :=
  let s := s.setEng e { s.eng e with
    ridx := i, pc := 0, issued := 0, slotsDone := [], finalSeen := false, repeatTo := none, blocks := [], inRound := true }
  (((s.settle e).ptrReload e).advanceOwner e)

/-- Ends the sub-Round whose last word has issued: the next begins in the cycle after, or the Round ends and its publication comes (R76, R77). Active
blocks are abandoned (R133). -/
def State.endSub (s : State) (e : Nat) : State :=
  let x := s.eng e
  if x.ridx + 1 < s.engK e then s.startSub e (x.ridx + 1)
  else s.setEng e { x with
    inRound := false, ridx := 0, slotsDone := [], finalSeen := false, repeatTo := none, blocks := [], published := false }

/-- The address a word stands for in the comparison of R159: its own, or the END of the block that a REP with count 0 skips (R158). -/
def Engine.wordEnd (x : Engine) : Nat :=
  match x.repeatTo with
  | some (0, last) => last
  | _ => x.pc

/-- Ends the present word: the next one is before the engine a cycle later (R157 to R159). After a FINAL, and after the word that reaches the budget,
none follows, and the loop counters keep their values (R78, R133). -/
def State.endWord (s : State) (e : Nat) : State :=
  let x := s.eng e
  let x := match x.repeatTo with
    | some (n + 1, last) =>
      { x with lc := put 0 x.lc x.blocks.length (BitVec.ofNat 16 (n + 1)), blocks := ⟨(x.pc + 1) % 4096, last⟩ :: x.blocks,
               pc := (x.pc + 1) % 4096 }
    | _ =>
      if x.finalSeen || s.engBudget e ≤ x.issued + 1 then x
      else
        let r := afterWord x.blocks x.lc x.wordEnd
        { x with blocks := r.1, lc := r.2.1, pc := r.2.2 }
  let ended := x.finalSeen
  let s := s.setEng e { x with issued := x.issued + 1, cyc := x.cyc + 1, slotsDone := [], repeatTo := none }
  if ended then s.endSub e else s.settle e

/-- Marks slots of the present word executed and ends the word with the last of its four (R106). -/
def State.slotDone (s : State) (e : Nat) (slots : List SlotName) : State :=
  let x := s.eng e
  let done := slots ++ x.slotsDone
  let s := s.setEng e { x with slotsDone := done }
  if [SlotName.arith, .xmove, .ymove, .ctrl].all done.contains then s.endWord e else s

/-! ## Fades, publication and the end of a stay in RUNNING -/

/-- A gain one step nearer its target, FADE_LEN steps spanning 0 to 1; a jump with FADE_LEN = 0 (R82). -/
def gainStep (g target : Rat) (len : Nat) : Rat :=
  if len = 0 then target
  else if g < target then min target (g + 1 / len)
  else max target (g - 1 / len)

/-- The target of the output fade gain (R82); it does not rise before the first publication (R83). The table of R82 has no row for ARMED: its target
is 0, as for STOPPED (DESIGN CHOICE, log entry 80). -/
def State.engTarget (s : State) (e : Nat) : Rat :=
  let x := s.eng e
  if x.st ≠ .running ∨ x.stopping then 0
  else if x.pubTag.isNone then 0
  else if s.event (0x40 + e) 6 then 0
  else if s.holding (s.engTb e) then 0
  else 1

/-- The published bank: the working values last published, times the gain (R81, R83). -/
def Engine.republish (x : Engine) : Engine :=
  { x with pub := (List.range 16).foldl (fun l c => put 0 l c (scale x.gain (look 0 x.pubWork c))) [] }

/-- One move of the output fade gain (R82). -/
def State.moveGain (s : State) (e : Nat) : State :=
  let x := s.eng e
  s.setEng e { x with gain := gainStep x.gain (s.engTarget e) (fld (s.reg (engReg e 0x02C)) 7 0) }.republish

/-! ## Y reads and the exchange -/

/-- A word of one of the two Y banks as the hardware uses it: zero under a parity error (R29). -/
def State.yWord (s : State) (e : Nat) (bank : Bool) (n : Nat) : Word := s.used (yAddr e bank n) (s.wordAt (yAddr e bank n))

/-- A ramp's value in the present tick (R224). -/
def Ramp.value (r : Ramp) : Word := rampValue r.v0 r.v1 r.len r.j

/-- A ramp's value in the tick before (R224). -/
def Ramp.previous (r : Ramp) : Word := rampValue r.v0 r.v1 r.len (r.j - 1)

/-- The ramp that runs on Y word `a`, if one does. -/
def Engine.rampOn (x : Engine) (a : Nat) : Option Ramp := x.ramps.find? fun r => r.addr == a

/-- The ramp that glide slot `n` started last, while it runs (R136, R222). -/
def Engine.slotRamp (x : Engine) (n : Nat) : Option Ramp := x.ramps.find? fun r => r.slot == n

/-- The lowest enabled glide slot bound to Y word `a` (R221, R223). -/
def State.glideSlot (s : State) (e a : Nat) : Option Nat :=
  (List.range 64).find? fun n => bit (s.reg (engReg e (0x400 + 8 * n))) 31 && fld (s.reg (engReg e (0x400 + 8 * n))) 12 0 == a

/-- A Y read of the engine: the value of a ramp that runs on the word, its endpoints taken at the exchange (R225; log entry 67), and otherwise the
Table word, zero under a parity error (R126). -/
def State.yRead (s : State) (e a : Nat) : Word :=
  let x := s.eng e
  match x.rampOn a with
  | some r => r.value
  | none => s.yWord e x.tableBank a

/-- Starts or ends the glide ramps of one dirty word at the exchange of a RUNNING engine; `old` is the bank that was the Table. A ramp on another word
goes on, also one of a slot that is bound to this word now (R223 to R225). -/
def State.startRamp (s : State) (e : Nat) (old : Bool) (a : Nat) : State :=
  let x := s.eng e
  let cleared := x.ramps.filter fun r => r.addr != a
  match s.glideSlot e a with
  | none => s.setEng e { x with ramps := cleared }
  | some n =>
    let len := fld (s.reg (engReg e (0x404 + 8 * n))) 15 0
    if len < 2 then s.setEng e { x with ramps := cleared }
    else
      let v0 := match x.rampOn a with
        | some r => r.previous
        | none => s.yWord e old a
      (s.setEng e { x with ramps := ⟨n, a, v0, s.yWord e (!old) a, len, 0⟩ :: cleared }).parity (0x40 + e)
        [yAddr e old a, yAddr e (!old) a]

/-- The writes that landed in cycle `now`, newest first. -/
def Lane.landedNow (x : Lane) (now : Nat) : List LandedWrite := if x.landedAt = now then x.landed else []

/-- The lane as it stood before the landings of `l`. -/
def Lane.undone (x : Lane) (l : List LandedWrite) : Lane :=
  { x with dirty := x.dirty.filter fun a => !(l.any fun r => r.a == a && r.fresh) }

/-- The lane with its re-shelve begun: the writes of `l`, which landed in the exchange's own cycle, follow it (R204, R206). -/
def Lane.exchange (x : Lane) (l : List LandedWrite) : Lane :=
  { x with job := .reshelve x.dirty, waiting := x.waiting ++ l.reverse.map (fun r => LaneWait.write r.a r.w), landed := [] }

/-- The Shelf words as they stood before the landings of `l`, newest first; `place` is where a word stands. -/
def State.landBack (s : State) (place : Nat → Nat) (l : List LandedWrite) : State :=
  s.each l fun s r =>
    let s := s.setWord (place r.a) r.old
    { s with parityBad := put false s.parityBad (place r.a) r.oldBad }

/-- A commit's effect on engine `e`: Shelf writes that landed in this very cycle count as later ones (R206), the banks exchange, glide ramps start,
staged pointer values become live after results for the offsets have landed, and the re-shelve starts (R155, R156, R204, R224). -/
def State.engExchange (s : State) (e : Nat) : State :=
  let x := s.eng e
  let again := x.lane.landedNow s.now
  let s := s.landBack (yAddr e (!x.tableBank)) again
  let x := { x with lane := x.lane.undone again }
  let isPtr := fun l : Landing => match l.dest with | .pointer _ => true | _ => false
  let x : Engine := { (x.landings.filter isPtr).foldl Engine.landOne x with landings := x.landings.filter fun l => !isPtr l }
  let old := x.tableBank
  let s := s.setEng e { x with tableBank := !old }
  let s := if x.st = .running then s.each x.lane.dirty fun s a => s.startRamp e old a
    else s.setEng e { s.eng e with ramps := [] }
  let s := (s.ptrMakeLive e).ptrReduce e
  s.setEng e { s.eng e with lane := (s.eng e).lane.exchange again }

/-- The commits that waited for the publication of engine `e`'s squeezed Round act: one exchange for them all (R86, R216). While its lane is busy they
defer (R213). -/
def State.lateTake (s : State) (e : Nat) : State :=
  match s.lateGroups e with
  | [] => s
  | gs =>
    if (s.eng e).lane.job = .idle then
      let s := s.engExchange e
      let s := s.setEng e { s.eng e with lane := { (s.eng e).lane with exchanged := some (s.tb (s.engTb e)).tickNo } }
      s.each gs fun s g => (s.dropLate g e).groupTook g [.engine e]
    else s.each gs fun s g => (s.dropLate g e).groupDefer g (s.engTb e)

/-- The domain of an engine whose commits waited went off: the engine does not take them (R215). -/
def State.lateSkip (s : State) (e : Nat) : State :=
  s.each (s.lateGroups e) fun s g => ((s.dropLate g e).raise 0x0A 4).groupTook g [.engine e]

/-- A far entry once its engine has left RUNNING: a write stays as it is, a read that has not arrived is still granted, but its word is discarded, and
one that has arrived is gone (R140, R181). -/
def FarReq.kept (q : FarReq) : Option FarReq :=
  if !q.read then some q else if q.arrived.isSome then none else some { q with passed := true, dead := true }

/-- Ends a stay in RUNNING: results that have landed stand, those in flight and reads to come are discarded (R140), requests already issued stay
queued (R181), and ramps end (R225). -/
def State.endStay (s : State) (e : Nat) : State :=
  let x := (s.eng e).land (max (s.eng e).cyc s.now)
  s.setEng e { x with
    inRound := false, ridx := 0, slotsDone := [], finalSeen := false, repeatTo := none, blocks := [], landings := [],
    far := x.far.filterMap FarReq.kept, stalled := false, stopping := false, stopAtEnd := false, ramps := [],
    roundTick := none, published := true, dueAt := none }

/-- The engine leaves RUNNING: commits that waited act (R86), and staged pointer values become live (R153). -/
def State.leaveRunning (s : State) (e : Nat) : State :=
  let s := (s.endStay e).lateTake e
  (s.setEng e { s.eng e with ramps := [] }).ptrMakeLive e

/-- RUNNING to STOPPED at the Round boundary with the fade done (R88). -/
def State.engStopped (s : State) (e : Nat) (flag : Bool) : State :=
  let s := s.leaveRunning e
  let s := s.setEng e { s.eng e with st := .stopped }
  if flag then s.engRaise e 11 else s

/-- Into FAULTED with a cause (R88, R103). -/
def State.engFault (s : State) (e cause : Nat) : State :=
  let s := if (s.eng e).st = .running then s.leaveRunning e else s
  let s := s.setEng e { s.eng e with st := .faulted }
  (s.setReg (engReg e 0x028) (BitVec.ofNat 32 cause)).engRaise e 8

/-- Into OFF: the Round is abandoned and published outputs read zero (R88). -/
def State.engOff (s : State) (e : Nat) : State :=
  let s := if (s.eng e).st = .running then s.endStay e else s
  let s := if s.domain (e / 4 + 1) then s.lateTake e else s.lateSkip e
  let s := (s.setEng e { s.eng e with ramps := [] }).ptrMakeLive e
  s.setEng e { s.eng e with st := .off, gain := 0, pub := [], pubWork := [], pubTag := none, stopping := false,
                            stopAtEnd := false, structSeen := false }

/-- OFF to STOPPED when the domain is on, PRESENT is 1 and the memories are valid; OFF otherwise (R88, R98). -/
def State.engConfigure (s : State) (e : Nat) : State :=
  if !(s.engPresent e) || !(s.domain (e / 4 + 1)) || (s.eng e).reload || s.power.lost.contains (e / 4 + 1) then
    if (s.eng e).st = .off then s.ptrMakeLive e else s.engOff e
  else if (s.eng e).st = .off then (s.setEng e { s.eng e with st := .stopped }).ptrMakeLive e
  else if (s.eng e).st = .running then s else s.ptrMakeLive e

/-- A parity error in a structural register takes effect once: issue stops and the engine enters FAULTED. The error is over when its words are good
(R29, R88). -/
def State.structCheck (s : State) (e : Nat) : State :=
  let x := s.eng e
  if s.engStructBad e then
    if x.st = .off ∨ x.structSeen then s
    else
      let s := (s.parity (0x40 + e) [engReg e 0x010, engReg e 0x014]).parity (0x60 + e / 4) [handoffReg e]
      let s := s.engFault e 1
      s.setEng e { s.eng e with structSeen := true }
  else if x.structSeen then s.setEng e { x with structSeen := false } else s

/-- Executes operation `op` of a slot of engine `e`'s present word with effect `f`; without that operation before it, the engine does not change (log
entry 4), but for a structural error that stops it (R88). -/
def State.runSlot (s : State) (e : Nat) (slot : SlotName) (op : Nat) (f : BitVec 64 → State → State) : State :=
  if s.issues e slot op then (f (s.engWord e) s).slotDone e [slot] else s.structCheck e

/-- The registers of R72 and the accumulator marks and flags cleared (R73, R118). -/
def Engine.cleared (x : Engine) : Engine :=
  { x with d := [], acc := [], accSource := [], mark := [], markSource := [], lt := false, eq := false, ptrOff := [],
           lc := [], g := [], outw := [], pub := [], pubWork := [], landings := [], blocks := [] }

/-- The engine waits for its publication: its Round has ended and its outputs have not been published (R77). -/
def Engine.awaits (x : Engine) : Bool := x.st == .running && !x.inRound && x.roundTick.isSome && !x.published

end Sys2Proof.Machine
end

