-- ==== Sys2Proof/Machine/EngineRound.lean ====
section
/-!
DEFINITION. An engine's place in the tick: entry into RUNNING, squeeze, stall fault, the Round due in
it, and publication (R73 to R90, R224).
-/

namespace Sys2Proof.Machine

/-- The tick number engine `e`'s timebase has made last. -/
def State.engTickNo (s : State) (e : Nat) : Nat := (s.tb (s.engTb e)).tickNo

/-- CYCLES_LAST and CYCLES_MAX at a publication (R99); 16 bits show the count (log entry 12). -/
def State.countCycles (s : State) (e : Nat) : State :=
  let x := s.eng e
  let n := x.cyc - x.firstCyc
  let n := if n < 0x10000 then n else Config.wideField 16 n % 0x10000
  let s := s.setReg (engReg e 0x04C) (BitVec.ofNat 32 n)
  if (s.reg (engReg e 0x050)).toNat < n then s.setReg (engReg e 0x050) (BitVec.ofNat 32 n) else s

/-- Publication: results due by its cycle have landed (R77), and the working values times the gain become the published bank, tagged
with their Round's tick; then commits that waited for a squeezed Round act, and a stop that is done ends the stay in RUNNING
(R81 to R83, R86, R88, R92). -/
def State.publish (s : State) (e : Nat) : State :=
  let s := s.countCycles e
  let x := (s.eng e).land (s.eng e).cyc
  let s := s.setEng e { x with
    pubWork := x.outw, pubTag := x.roundTick, published := true, pubSince := true, ptrView := x.ptrOff }
  let s := (s.moveGain e).lateTake e
  if (s.eng e).stopAtEnd then s.engStopped e false
  else if (s.eng e).stopping && (s.eng e).gain == 0 then s.engStopped e true
  else s

/-- The gain's move in a tick in which the engine published nothing, with the end of a stop at the Round boundary
(R82, R88). -/
def State.idleFade (s : State) (e : Nat) : State :=
  let s := s.moveGain e
  if (s.eng e).st == .running && (s.eng e).stopping && (s.eng e).gain == 0 && !(s.eng e).inRound && !(s.eng e).awaits
  then s.engStopped e true else s

/-- ARMED to RUNNING at the start tick: registers cleared, g = 0, structural registers read again (R73, R88, R90). -/
def State.runEntry (s : State) (e : Nat) : State :=
  if s.engStructBad e then (s.parity (0x40 + e) [engReg e 0x010, engReg e 0x014]).engFault e 1
  else
    let x := (s.eng e).cleared
    let s := s.setEng e { x with
      st := .running, gain := 0, pubTag := none, roundTick := none, latched := none, skipTick := none, inRound := false,
      stopping := false, stopAtEnd := false, published := true, pubSince := true, stalled := false, ramps := [], ridx := 0,
      dueAt := none, structSeen := false }
    ((s.setReg (engReg e 0x030) 0).setReg (engReg e 0x028) 0).engRaise e 10

/-- The start of an ARMED engine falls at this tick (R88, R89). -/
def State.startDue (s : State) (e : Nat) : Bool :=
  match (s.eng e).start with
  | .nextTick => true
  | .atTb0 c => c ≤ s.tickCount.toNat

/-- The Round of the tick before has not ended: it runs, or it is still to start (R17). -/
def Engine.unfinished (x : Engine) : Bool := x.inRound || x.dueAt.isSome

/-- What a tick does to an engine whose Round has not ended: a squeeze at the first tick, FAULTED with cause STALL at the second
after the Round's start (R17, R84, R85). -/
def State.tickInRound (s : State) (e : Nat) : State :=
  let x := s.eng e
  let n := s.engTickNo e
  if x.inRound && x.roundTick.any fun r => r + 2 ≤ n then s.engFault e 2
  else ((s.setEng e { x with skipTick := some n }).engRaise e 4).bump (engReg e 0x03C)

/-- What the tick does to the engine's state (R84, R85, R88, R90). -/
def State.tickState (s : State) (e : Nat) : State :=
  let s := s.structCheck e
  match (s.eng e).st with
  | .armed => if s.startDue e then s.runEntry e else s
  | .running => if (s.eng e).unfinished then s.tickInRound e else s
  | .off | .stopped | .faulted => s

/-- Every glide ramp of the engine one tick on; a ramp past its last tick ends (R224, R225). -/
def Engine.glideStep (x : Engine) : Engine :=
  { x with ramps := x.ramps.filterMap fun r => if r.j + 1 < r.len then some { r with j := r.j + 1 } else none }

/-- The engine may start a Round in the present tick, and has not started one in it (R80, R84, R87). -/
def State.roundOpen (s : State) (e : Nat) : Bool :=
  let x := s.eng e
  x.st == .running && !x.inRound && !x.awaits && !(s.holding (s.engTb e)) && s.engBudget e != 0 && !(s.engStructBad e)

/-- The cycle at which a Round of the present tick starts (R76). -/
def State.roundCycle (s : State) (e : Nat) : Nat := (s.tb (s.engTb e)).lastTick + 64 + s.engPhi e

/-- The tick plans the Round that the engine starts in it. -/
def State.planRound (s : State) (e : Nat) : State :=
  let x := s.eng e
  if s.roundOpen e && x.dueAt.isNone && x.skipTick != some (s.engTickNo e) then
    s.setEng e { x with dueAt := some (s.roundCycle e) } else s

/-- The engine has a Round to start: that of the present tick, or one that a tick overtook before it started (R17). -/
def State.roundDue (s : State) (e : Nat) : Bool :=
  let x := s.eng e
  s.roundOpen e && (x.dueAt.isSome || (x.skipTick != some (s.engTickNo e) && x.roundTick != some (s.engTickNo e)))

/-- The engine's part of steps 0 and 1 of a tick of its timebase: a publication at cycle 0 first, then squeeze, fault or
entry into RUNNING, the source values, the idle fade, and the glide step (R15, R17, R73, R82 to R85, R224). -/
def State.engTick (s : State) (e : Nat) : State :=
  let s := if (s.eng e).awaits then s.publish e else s
  let s := s.setEng e (s.eng e).glideStep
  let s := s.tickState e
  let x := s.eng e
  let s := s.each (List.range 16) fun s c => s.setSrc (584 + 16 * e + c) (if x.st = .off then 0 else look 0 x.pub c)
  let s := if x.st = .off ∨ x.pubSince then s else s.idleFade e
  (s.setEng e { s.eng e with pubSince := false }).planRound e

/-- While the timebase holds no Round starts: none is due when it resumes (R87). -/
def State.dropRound (s : State) (e : Nat) : State := s.setEng e { s.eng e with dueAt := none }

/-- One period of a timebase's hold: the gain moves as in a tick, unless a publication fell in the period (R82, R87; log
entry 13). -/
def State.holdStep (s : State) (e : Nat) : State :=
  if (s.eng e).pubSince then s.setEng e { s.eng e with pubSince := false } else s.idleFade e

end Sys2Proof.Machine
end

