-- ==== Sys2Proof/Machine/Advance.lean ====
section
/-!
DEFINITION. What passes by itself between two commands: the model's clocks, the effect of a parity error in a structural register
(R29), the periods of a timebase that makes no ticks (R82, R87, R306), and held writes that reach their bank (R508).
-/

namespace Sys2Proof.Machine

/-- The XCLK cycles of the meter and the silence timer's count over the ECLK cycles up to cycle `t` (R376, R417). -/
def State.countTo (s : State) (t : Nat) : State :=
  let n := ((t - s.now : Nat) : Rat)
  { s with
    xcycles := s.xcycles + n * s.meterPerEclk
    silent := if s.silenceStops then s.silent else s.silent + n * s.xclkPerEclk * s.timerRate }

/-- A parity error in CFG sends port `p` to FAULTED (R29, R278). -/
def State.tdmParity (s : State) (p : Nat) : State :=
  let a := blk (0x10 + p) 0x010
  if s.bad a && (s.port p).st != .disabled && (s.port p).st != .faulted then
    (s.setPort p { s.port p with st := .faulted }).raise (0x10 + p) 0
  else s

/-- A parity error in CFG sends receiver `n` to FAULTED, which only a clearing of EN ends (R29, R296). -/
def State.rxParity (s : State) (n : Nat) : State :=
  let a := blk (0x20 + n) 0x010
  if s.bad a && (s.rx n).st != .disabled && (s.rx n).st != .faulted then
    (s.setRx n { s.rx n with st := .faulted, leaving := false }).raise (0x20 + n) 0
  else s

/-- Every unit whose structural register is under a parity error stops as its fault state defines, and a perturbation control under one acts
as zero; CTRL_PARITY sets (R27, R29, R512). -/
def State.structural (s : State) : State :=
  if s.parityBad.isEmpty && s.engines.all fun c => !c.2.structSeen then s
  else
    let s := s.parityIn 0xF0 (blk 0xF0 0x018) (blk 0xF0 0x10C)
    let s := s.each (List.range 32) fun s e => s.structCheck e
    let s := s.each (List.range 16) fun s p => s.tdmParity p
    (s.each (List.range 4) fun s n => s.rxParity n).each (List.range 4) fun s n => s.txParity n

/-- The periods of `p` cycles that have ended before cycle `now`, counted from `start`. -/
def periodsBefore (start p : Rat) (now : Nat) : Nat := if p ≤ 0 then 0 else ((((now : Rat) - start) / p).ceil - 1).toNat

/-- `k` periods of engine `e`'s hold; past the longest fade no further one changes anything. -/
def State.holdSteps (s : State) (e k : Nat) : State := s.each (List.range (min k 258)) fun s _ => s.holdStep e

/-- The fades of timebase `n`'s engines over the periods of its hold that have passed (R82, R87; log entry 13). -/
def State.heldFades (s : State) (n : Nat) : State :=
  let x := s.tb n
  let k := periodsBefore x.heldAt x.period s.now
  if !(s.holding n) || k = 0 then s
  else
    let s := s.each (List.range 32) fun s e =>
      if s.engTb e = n ∧ (s.eng e).st ≠ .off ∧ !(s.gated (e / 4)) then s.holdSteps e k else s
    s.setTb n { s.tb n with heldAt := x.heldAt + k * x.period }

/-- Timebase `n` has made no tick since it last held, or holds now: transmitters follow its last tick interval, or the period P
where it has none (R306; log entry 13). -/
def State.tickless (s : State) (n : Nat) : Bool := s.holding n || !(s.tb n).hasLast

/-- The frames that timebase `n`'s transmitters have sent while it made no ticks (R306, R308, R312). -/
def State.heldFrames (s : State) (n : Nat) : State :=
  let x := s.tb n
  let p : Rat := if x.interval = 0 then x.period else x.interval
  let k := periodsBefore x.frameAt p s.now
  if !(s.tickless n) || k = 0 then s
  else
    let s := s.each (List.range 4) fun s m => if s.txTb m = n ∧ s.txSends m then s.txFrames m k else s
    s.setTb n { s.tb n with frameAt := x.frameAt + k * p }

/-- A held write lands, unless its memory has gone off (R10, R247, R508); its wait is what LOWER_WAIT_MAX sees (R200). -/
def State.heldWrite (s : State) (h : HeldWrite) : State :=
  if s.memOff h.addr then s
  else (if h.cls = 2 then s.fclkWrite h.addr h.word else s.setWord h.addr h.word).bankWaited h.cls h.addr h.hold

/-- The writes whose hold is over land, oldest first (R508). -/
def State.heldLand (s : State) : State :=
  let due := s.heldWrites.filter fun h => h.due ≤ s.now
  if due.isEmpty then s
  else ({ s with heldWrites := s.heldWrites.filter fun h => !(h.due ≤ s.now) } : State).each due State.heldWrite

/-- The state at the cycle a command acts: the clocks stand at cycle `t`, and what passes by itself up to it has passed. -/
def State.upTo (s : State) (t : Nat) : State :=
  let s := ((s.countTo t).clockTo t).structural
  let s := s.each [0, 1, 2, 3] fun s n => (s.heldFades n).heldFrames n
  s.heldLand

end Sys2Proof.Machine
end

