-- ==== Sys2Proof/Machine/Checks.lean ====
section
/-!
DEFINITION. The two check sums: CRC-32 of images, seal records and log entries (R41), and CRC-16 of host frames (R361).
-/

namespace Sys2Proof.Machine

/-- One bit of the reflected CRC-32 (R41). -/
def crc32Bit (c : Word) : Word := if bit c 0 then (c >>> 1) ^^^ 0xEDB88320 else c >>> 1

/-- One byte of the reflected CRC-32. -/
def crc32Byte (c : Word) (b : Byte) : Word :=
  crc32Bit (crc32Bit (crc32Bit (crc32Bit (crc32Bit (crc32Bit (crc32Bit (crc32Bit (c ^^^ b.setWidth 32))))))))

/-- The bytes of words, each little-endian (R4). -/
def bytesOf (l : List Word) : List Byte :=
  l.flatMap fun w => [w.extractLsb' 0 8, w.extractLsb' 8 8, w.extractLsb' 16 8, w.extractLsb' 24 8]

/-- The CRC-32 of bytes in file order (R41). -/
def crc32 (l : List Byte) : Word := l.foldl crc32Byte 0xFFFFFFFF ^^^ 0xFFFFFFFF

/-- One bit, most significant first, of the CRC-16 with polynomial 0x1021 (R361). -/
def crc16Bit (c : BitVec 16) (b : Bool) : BitVec 16 :=
  if c.getLsbD 15 != b then (c <<< 1) ^^^ 0x1021 else c <<< 1

/-- The bits of a word, most significant first. -/
def bitsOf (w : Word) : List Bool := (List.range 32).map fun i => w.getLsbD (31 - i)

/-- The CRC-16 of words sent most significant bit first, from an initial value (R361). -/
def crc16 (init : BitVec 16) (l : List Word) : BitVec 16 := (l.flatMap bitsOf).foldl crc16Bit init

end Sys2Proof.Machine
end

