-- ==== Sys2Proof/Machine/Meter.lean ====
section
/-!
DEFINITION. The Sealed Meter: its channels, guard, seal state, audit log and commands (R411 to R441).
-/

namespace Sys2Proof.Machine

/-- The state with the meter replaced. -/
def State.setMeter (s : State) (m : Meter) : State := { s with meter := m }

/-- Measurement channel `m`. -/
def State.mchan (s : State) (m : Nat) : MeterChannel := look MeterChannel.reset s.meter.chans m

/-- The state with measurement channel `m` replaced. -/
def State.setMchan (s : State) (m : Nat) (c : MeterChannel) : State :=
  s.setMeter { s.meter with chans := put MeterChannel.reset s.meter.chans m c }

/-- Guard group `g`. -/
def State.guardOf (s : State) (g : Nat) : Guard := look Guard.reset s.meter.guards g

/-- The state with guard group `g` replaced. -/
def State.setGuard (s : State) (g : Nat) (x : Guard) : State :=
  s.setMeter { s.meter with guards := put Guard.reset s.meter.guards g x }

/-! ## Sealed parameters (R437, R439) -/

/-- Word `n` of the 24 sealed parameter words. -/
def State.param (s : State) (n : Nat) : Word := s.reg (blk 0x80 (0x100 + 4 * n))

/-- The 24 sealed parameter words. -/
def State.params (s : State) : List Word := (List.range 24).map s.param

/-- SEAL_CHECK: the CRC of the 24 words (R426). -/
def State.sealCheck (s : State) : Word := crc32 (bytesOf s.params)

/-- SRCm.KIND: 0 off, 1 TDM input slot, 2 guarded output. -/
def State.srcKind (s : State) (m : Nat) : Nat := fld (s.param m) 31 30

/-- TAPm. -/
def State.tapWord (s : State) (m : Nat) : Word := s.param (2 + m)

/-- CALm in 0.01 dB SPL. -/
def State.cal (s : State) (m : Nat) : Nat := fld (s.param (4 + m)) 15 0

/-- Channel `m`'s frequency weighting: 0 A, 1 C, 2 Z. -/
def State.weightOf (s : State) (m : Nat) : Nat := fld (s.param 6) (8 * m + 1) (8 * m)

/-- Channel `m`'s time constant in seconds: F or S (R412). -/
def State.timeConst (s : State) (m : Nat) : Rat := if bit (s.param 6) (8 * m + 2) then 1 else 1 / 8

/-- XCLK_HZ. -/
def State.meterHz (s : State) : Nat := fld (s.param 7) 24 0

/-- GRDg_LIMIT. -/
def State.grdLimit (s : State) (g : Nat) : Word := s.param (8 + 4 * g)

/-- LEQ_LIMIT of group `g`. -/
def State.leqLimit (s : State) (g : Nat) : Nat := fld (s.grdLimit g) 15 0

/-- GRDg_RATE. -/
def State.grdRate (s : State) (g : Nat) : Word := s.param (9 + 4 * g)

/-- GRDg_PEAK. -/
def State.grdPeak (s : State) (g : Nat) : Word := s.param (10 + 4 * g)

/-- GSLOTi. -/
def State.gslot (s : State) (i : Nat) : Word := s.param (16 + i)

/-- GSLOTi is enabled. -/
def State.gslotOn (s : State) (i : Nat) : Bool := bit (s.gslot i) 31

/-- The guard slot that names TDM output sink `k` (R418). -/
def State.guardSlot (s : State) (k : Nat) : Option Nat :=
  (List.range 8).find? fun i => s.gslotOn i && fld (s.gslot i) 8 0 == k

/-- The guard group of GSLOTi (R418). -/
def State.slotGroup (s : State) (i : Nat) : Nat := if bit (s.gslot i) 16 then 1 else 0

/-- Group `g` has an enabled guard slot. -/
def State.groupOn (s : State) (g : Nat) : Bool := (List.range 8).any fun i => s.gslotOn i && s.slotGroup i == g

/-- The meter acts: SW18 is on, and its parameters and seal state stand loaded (R423, R436). -/
def State.meterOn (s : State) : Bool := s.domain 18 && s.meter.up

/-- The meter is sealed: SEALED or PERMANENT. -/
def State.isSealed (s : State) : Bool := s.meter.sealSt == .sealed || s.meter.sealSt == .permanent

/-- Any guard slot is enabled. -/
def State.anyGslot (s : State) : Bool := (List.range 8).any s.gslotOn

/-- The XCLK cycles of a second: XCLK_HZ, and while that is 0, its Reset value, those that the XCLK pin makes in a second. DESIGN
CHOICE (log entry 94): R417 states no second for 0 cycles. -/
def State.secondHz (s : State) : Nat := if s.meterHz = 0 then s.clocks.pinHz else s.meterHz

/-- Meter time in seconds since the XCLK cycles stood at `a` (R417). -/
def State.meterSince (s : State) (a : Rat) : Rat := (s.xcycles - a) / s.secondHz

/-- Meter time in seconds since a past instant, none of it where there was no such instant (R419, R420). -/
def State.meterSpan (s : State) (a : Option Rat) : Rat := (a.map s.meterSince).getD 0

/-! ## Audit log (R427 to R430) -/

/-- AUDIT of the newest entry (R427). -/
def State.auditNow (s : State) : Nat := s.meter.epoch * 2 ^ 18 + s.meter.seq

/-- One epoch bit burned, or EPOCH_EXHAUSTED where none remains; n restarts (R427). -/
def Meter.burnEpoch (m : Meter) : Meter :=
  if m.epoch < 16383 then { m with epoch := m.epoch + 1, seq := 0 } else { m with exhausted := true, seq := 0 }

/-- The bare entry of a log, at the next AUDIT value (R427 to R429). -/
def State.logEntry (s : State) (type detail d0 d1 : Nat) : State :=
  let m := if s.meter.seq + 1 > 262143 then
      (if s.meter.records.isEmpty then { s.meter with seq := 0 } else s.meter.burnEpoch) else s.meter
  let m := { m with seq := m.seq + 1 }
  let audit := m.epoch * 2 ^ 18 + m.seq
  let w := fun n => BitVec.ofNat 32 n
  let words := [w audit, w (type * 2 ^ 24 + detail % 2 ^ 24), w (s.tickCount.toNat % 2 ^ 32), w (s.tickCount.toNat / 2 ^ 32),
    w m.seconds, w d0, w d1]
  let check := crc32 (bytesOf (m.chain :: words))
  let i := audit % 256
  let lost := (look [] m.log i).length != 0 && !(m.latched.contains i)
  let m := { m with log := put [] m.log i (words ++ [check]), chain := check, latched := m.latched.filter (· != i) }
  let s := (s.setMeter m).raise 0x81 1
  if lost then s.raise 0x81 2 else s

/-- A write rejected by the sealed domain: counted, and the first of the second kept (R430, R434). -/
def State.meterReject (s : State) (a : Nat) (w : Word) : State :=
  let m := s.meter
  s.setMeter (if m.rejected = 0 then { m with rejected := 1, rejectedAt := a, rejectedData := w }
    else { m with rejected := min (m.rejected + 1) (2 ^ 24 - 1) })

/-! ## Validity, failsafe and METER_OK -/

/-- Channel `m` is VALID, and no shadow word is in error (R433). -/
def State.chanValid (s : State) (m : Nat) : Bool := (s.mchan m).valid && s.meter.shadowBad.isEmpty

/-- Channel `m`'s input rate lies in a class 1 class (R414). -/
def State.class1 (s : State) (m : Nat) : Bool := 2 ≤ (s.mchan m).cls && (s.mchan m).cls ≤ 7

/-- The conditions of METER_OK (R436). -/
def State.meterGood (s : State) : Bool :=
  s.meterOn && s.isSealed && !s.meter.degraded && !s.meter.disagree && !s.meter.exhausted
    && [0, 1].all (fun m => s.srcKind m == 0 || (s.chanValid m && s.class1 m))
    && [0, 1].all fun g => !(s.guardOf g).failsafe

/-- METER_OK follows its conditions (R436). -/
def State.meterOk (s : State) : State :=
  let ok := s.meterGood
  if ok = s.meter.ok then s
  else (s.setMeter { s.meter with ok := ok }).raise 0x80 (if ok then 4 else 5)

/-- A log entry; an epoch that runs out is logged too, and METER_OK follows (R427, R428, R436). Nothing is logged while SW18 is off. -/
def State.meterLog (s : State) (type detail d0 d1 : Nat) : State :=
  if !(s.domain 18) then s
  else
    let before := s.meter.exhausted
    let s := s.logEntry type detail d0 d1
    if s.meter.exhausted && !before then (s.logEntry 0x14 0 0 0).meterOk else s

/-- Group `g` leaves failsafe, which is logged (R421). -/
def State.failsafeLeave (s : State) (g : Nat) : State :=
  (s.setGuard g { s.guardOf g with failsafe := false }).meterLog 0x10 (Config.detailPair g 0) 0 0

/-- Group `g` is in failsafe only while it has a limit: it leaves at once with none, and enters while its channel is off or not VALID
(R421). -/
def State.failsafeIn (s : State) (g : Nat) : State :=
  if s.leqLimit g = 0 && (s.guardOf g).failsafe then s.failsafeLeave g
  else if s.leqLimit g ≠ 0 && (s.srcKind g == 0 || !(s.chanValid g)) && !(s.guardOf g).failsafe then
    ((s.setGuard g { s.guardOf g with failsafe := true }).raise 0x80 6).meterLog 0x10 (Config.detailPair g 1) 0 0
  else s

/-- A group leaves failsafe at a whole second with its channel VALID (R421). -/
def State.failsafeOut (s : State) (g : Nat) : State :=
  if (s.guardOf g).failsafe && s.srcKind g != 0 && s.chanValid g then s.failsafeLeave g else s

/-- What a change of validity or of the clock brings about (R421, R436). -/
def State.meterJudge (s : State) : State := ((s.failsafeIn 0).failsafeIn 1).meterOk

/-- The INPUT entry of channel `m` (R428). -/
def State.logInput (s : State) (m : Nat) (v : Bool) : State := s.meterLog 0x0F (Config.detailPair m (if v then 1 else 0)) 0 0

/-- Channel `m`'s input becomes VALID or ceases to be, which is logged but while a shadow word in error keeps every channel not VALID
(R415, R416, R428, R433). -/
def State.setValid (s : State) (m : Nat) (v : Bool) : State :=
  let c := s.mchan m
  if c.valid = v then s
  else
    let s := s.setMchan m { c with valid := v, wasValid := c.wasValid && v }
    if s.meter.shadowBad.isEmpty then s.logInput m v else s

/-- Channel `m` measures under SRC and TAP words other than before: its tap's run, its rate and its class start afresh, and a tap is
not VALID before its 16th frame (R411, R415). -/
def State.newSource (s : State) (m : Nat) : State :=
  let src := (s.param m, s.tapWord m)
  if (s.mchan m).source = src then s
  else
    let s := s.setMchan m { s.mchan m with goodRun := 0, prevBits := none, cls := 0, gap := 0, lastAt := s.xcycles, source := src }
    if s.srcKind m = 1 then s.setValid m false else s

/-- The parameters have changed: a channel that is off is not VALID, and one of a guarded output is VALID while its slot is
enabled (R411, R416). -/
def State.meterParams (s : State) : State :=
  let s := s.each [0, 1] fun s m =>
    let s := s.newSource m
    match s.srcKind m with
    | 1 => s
    | 2 => s.setValid m (s.gslotOn (fld (s.param m) 2 0))
    | _ => s.setValid m false
  s.meterJudge

/-- A shadow word in error that no record can reload: every channel ceases to be VALID (R428, R433). -/
def State.shadowLost (s : State) (n : Nat) : State :=
  let first := s.meter.shadowBad.isEmpty
  let s := s.each [0, 1] fun s m =>
    let c := s.mchan m
    let s := s.setMchan m { c with wasValid := false }
    if first && c.valid then s.logInput m false else s
  s.setMeter { s.meter with shadowBad := n :: s.meter.shadowBad.filter (· != n) }

/-- The shadow words still in error are `bad`: with none left, the channels are what their inputs make them (R433). -/
def State.shadowNow (s : State) (bad : List Nat) : State :=
  let back := !s.meter.shadowBad.isEmpty && bad.isEmpty
  let s := s.setMeter { s.meter with shadowBad := bad }
  if back then (s.each [0, 1] fun s m => if (s.mchan m).valid then s.logInput m true else s).meterJudge else s

/-- An image rewrites parameter words: a shadow word among them is no longer in error (R433). -/
def State.shadowRewritten (s : State) (l : List (Nat × Word)) : State :=
  s.shadowNow (s.meter.shadowBad.filter fun n => !(l.any fun c => c.1 == blk 0x80 (0x100 + 4 * n)))

/-! ## Measurement (R411 to R416) -/

/-- An energy smoothed with a time constant over `dt` seconds of input of energy `e` (R412). -/
def smoothed (old e tau dt : Rat) : Rat := if dt ≤ 0 then old else grid (old + (e - old) * lag (tau / dt))

/-- The ticks that channel `m` has missed since its last sample, by its own count of the ticks' spacing (R414, R416). -/
def State.missed (s : State) (m : Nat) : Nat :=
  let c := s.mchan m
  if c.gap ≤ 0 then 0 else ((s.meterSince c.lastAt / c.gap + 1 / 2).floor - 1).toNat

/-- While no tick arrives, x is zero: the ticks that channel `m` has missed count as samples of zero (R416). -/
def State.fillZero (s : State) (m : Nat) : State :=
  let c := s.mchan m
  let k := s.missed m
  if k = 0 then s
  else s.setMchan m { c with
    samples := c.samples + k, lastAt := c.lastAt + k * c.gap * s.secondHz,
    smooth := smoothed c.smooth 0 (s.timeConst m) (k * c.gap) }

/-- Channel `m` takes one input sample (R412). -/
def State.measure (s : State) (m : Nat) (x : Word) : State :=
  let c := s.mchan m
  let z : Rat := (x.toInt : Rat) / 2 ^ 31
  let dt := s.meterSince c.lastAt
  let o := Config.weighting (s.weightOf m) c.cls c.weight x
  let p := Config.weighting 1 c.cls c.weightC x
  s.setMchan m { c with
    last := x, weight := o.1, weightC := p.1, sum := c.sum + o.2 * o.2, samples := c.samples + 1,
    ticks := c.ticks + 1, peakC := max c.peakC |p.2|, peakZ := max c.peakZ |z|, lastAt := s.xcycles, gap := dt,
    smooth := smoothed c.smooth (o.2 * o.2) (s.timeConst m) dt }

/-- The class of a rate in Hz, 2 % either side of a class's rate, or OTHER (R332, R414). -/
def rateClass (hz : Rat) : Nat :=
  match (List.range 7).find? fun k => |hz - classHz k| * 50 ≤ (classHz k : Rat) with
  | some k => k + 1
  | none => 8

/-- A level in units of 0.01 dB SPL: 10 log10(E / 0.5) + CAL (R412). -/
def levelValue (cal : Nat) (energy : Rat) (extra : Int) : Rat := if energy ≤ 0 then 0 else 50 * levelDb (2 * energy) + extra + cal

/-- A value between two codes of a reading: which of them it reads as is not stated (R413; log entry 28). -/
def codeOf (q : Rat) : Int := if q.den = 1 then q.num else q.floor + if Config.roundUp q then 1 else 0

/-- A level reading of an energy: its code within 20.00 to 140.00 dB, LOW and OVER (R413). -/
def levelOf (cal : Nat) (energy : Rat) (extra : Int) : Nat × Bool × Bool :=
  let v := levelValue cal energy extra
  if v < 2000 then (2000, true, false) else if v > 14000 then (14000, false, true) else ((codeOf v).toNat, false, false)

/-- The mean energy over the valid ones of the last `n` seconds, and whether some were not valid; none without a valid one
(R412, R413). -/
def leqOf (l : List Second) (n : Nat) : Option (Rat × Bool) :=
  let w := (l.take n).filter (·.valid)
  if w.isEmpty then none else some ((w.map (·.energy)).sum / w.length, w.length < n)

/-- The five Leq windows in seconds (R412). -/
def leqWindows : List Nat := [1, 10, 60, 900, 3600]

/-- The readings of channel `m` as the five words Mm_RD0 to Mm_RD4 (R412, R413, R440). -/
def State.readings (s : State) (m : Nat) (peakC peakZ : Rat) : State :=
  let c := s.mchan m
  let cal := s.cal m
  let off := (0, false, false)
  let lt := fld (s.reg (blk 0x80 (0x040 + 32 * m))) 31 16
  let old := s.reg (blk 0x80 (0x050 + 32 * m))
  let leq := leqWindows.map fun n => if s.srcKind m = 0 then none else leqOf c.seconds n
  let lv := leq.map fun e => match e with | some q => levelOf cal q.1 0 | none => off
  let now := if s.srcKind m = 0 then none else leqOf c.seconds 1
  let pk := fun (p : Rat) => if now.isSome then levelOf cal (p * p / 2) 301 else off
  let all := lv ++ [pk peakC, pk peakZ]
  let v := fun i => (all.getD i off).1
  let flags := fun (f : Nat × Bool × Bool → Bool) => (all.zipIdx.map fun q => if f q.1 then 2 ^ (6 - q.2) else 0).sum
  let partialBits := (leq.zipIdx.map fun q => match q.1 with | some (_, true) => 2 ^ (7 - q.2) | _ => 0).sum
  let rd4 := (if bit old 23 then 2 ^ 23 else 0) + flags (·.2.2) * 2 ^ 16 + (if bit old 15 then 2 ^ 15 else 0)
    + flags (·.2.1) * 2 ^ 8 + partialBits + (if s.meter.degradedNow then 4 else 0)
    + (if s.class1 m then 2 else 0) + (if s.chanValid m then 1 else 0)
  let w := fun (s : State) i (n : Nat) => s.setReg (blk 0x80 (0x040 + 32 * m + 4 * i)) (BitVec.ofNat 32 n)
  w (w (w (w (w s 0 (lt * 2 ^ 16 + v 0)) 1 (v 1 * 2 ^ 16 + v 2)) 2 (v 3 * 2 ^ 16 + v 4)) 3 (v 5 * 2 ^ 16 + v 6)) 4 rd4

/-- The end of a whole second of channel `m` (R412 to R414, R416). `clocked` when the meter had a clock. A guarded channel's class is
that of its own count of ticks. -/
def State.endSecond (s : State) (m : Nat) (clocked : Bool) : State :=
  let kind := s.srcKind m
  let s := if kind = 2 then s.fillZero m else s
  let c := s.mchan m
  let energy : Rat := if c.samples = 0 then 0 else grid (c.sum / c.samples)
  let cls := if kind = 0 then 0 else if kind = 1 then c.cls else if c.ticks = 0 ∨ c.gap = 0 then 0 else rateClass (1 / c.gap)
  let ok := clocked && kind != 0 && c.wasValid && s.meter.shadowBad.isEmpty
  let s := s.setMchan m { c with
    seconds := (⟨energy, ok⟩ :: c.seconds).take 3600, sum := 0, samples := 0, ticks := 0, wasValid := c.valid, cls := cls,
    peakC := 0, peakZ := 0 }
  s.readings m c.peakC c.peakZ

/-- The condition of group `g`'s Leq gain until the next whole second; a Leq without a valid second is 0 (R413, R419). -/
def State.guardCondition (s : State) (g : Nat) : GuardMove :=
  let window := leqWindows.getD (fld (s.grdLimit g) 31 29) 1
  let leq := match leqOf (s.mchan g).seconds window with
    | none => 0
    | some (e, _) => levelValue (s.cal g) e 0
  let bound : Rat := (s.leqLimit g : Int) - 10 * fld (s.grdRate g) 7 0
  if bound ≤ leq then .fall else if leq < bound - 100 then .rise else .rest

/-! ## The guard (R418 to R421) -/

/-- One move of group `g`'s gL by its rate times the meter time since its last move; it holds while muted for deep-sleep (R419, R421,
R432). -/
def State.guardStep (s : State) (g : Nat) : State :=
  let x := s.guardOf g
  let dt := s.meterSpan x.movedAt
  let down := (fld (s.grdRate g) 23 16 : Rat) / 10 * dt
  let up := (fld (s.grdRate g) 15 8 : Rat) / 10 * dt
  let fail := fld (s.grdPeak g) 23 16
  let floor : Rat := if fail = 0xFF then -60 else -(fail : Rat)
  let gain :=
    if s.meter.muted then x.gain
    else if s.leqLimit g = 0 then 0
    else if x.failsafe then (if fail = 0 ∨ x.gain ≤ floor then x.gain else max floor (x.gain - down))
    else match x.move with
      | .fall => max (-60) (x.gain - down)
      | .rise => min 0 (x.gain + up)
      | .rest => x.gain
  s.setGuard g { x with gain := gain, movedAt := some s.xcycles }

/-- Group `g`'s gL has no previous move: its next one covers no time (R419, R432). -/
def State.guardFresh (s : State) (g : Nat) : State := s.setGuard g { s.guardOf g with movedAt := none }

/-- GUARD_GAIN_STEP: at a tick of timebase `n`, every group with an enabled slot on it moves its gL (R419). -/
def State.guardTick (s : State) (n : Nat) : State :=
  if !(s.domain 18) then s
  else s.each [0, 1] fun s g =>
    if (List.range 8).any fun i =>
        s.gslotOn i && s.slotGroup i == g
          && fld (s.reg (blk (0x10 + fld (s.gslot i) 8 0 / 32) 0x010)) 1 0 == n
    then s.guardStep g else s

/-- GUARD_SAMPLE: what TDM output sink `k` gives its transmit FIFO for the router's value `x` (R418 to R421). A slot is cut to
zero while SW18 is off or coming up, while muted for deep-sleep, when gP holds too, and in failsafe with FAIL 0xFF once gL is at -60 dB
(R10, R421, R432). -/
def State.guardSample (s : State) (k : Nat) (x : Word) : State × Word :=
  match s.guardSlot k with
  | none => (s, x)
  | some i =>
    if !s.meterOn then (s, 0)
    else
      let g := s.slotGroup i
      let q := s.guardOf g
      let cut := s.meter.muted || (q.failsafe && fld (s.grdPeak g) 23 16 == 0xFF && q.gain ≤ -60)
      let z := (x.toInt : Rat) / 2 ^ 31 * (if q.gain = 0 then 1 else gainOfDb q.gain)
      let gp := look 1 s.meter.peak i
      let dt := s.meterSpan (look none s.meter.peakAt i)
      let gr := if dt = 0 then gp else grid (gp + (1 - gp) * lag (1 / (20 * dt)))
      let ceil := amplitude (fld (s.grdPeak g) 7 0)
      let gp' := if s.meter.muted then gp else if z = 0 then gr else min gr (ceil / |z|)
      let y := if cut then 0 else sat31 (rne (z * gp' * 2 ^ 31))
      let s := s.setMeter { s.meter with peak := put 1 s.meter.peak i gp', peakAt := put none s.meter.peakAt i (some s.xcycles) }
      (s.each [0, 1] fun s m =>
        if s.srcKind m == 2 && fld (s.param m) 2 0 == i then (s.fillZero m).measure m y else s, y)

/-! ## Commands -/

/-- The live record: the last whose burn read back (R423). -/
def Meter.live (m : Meter) : Option (Nat × SealRecord) := (m.records.zipIdx.filter (·.1.good)).getLast?.map fun c => (c.2, c.1)

/-- Power-up of SW18: parameters and seal state from the store, an epoch bit, and a POWER_UP entry (R423, R427, R431). At the
power-up of the whole module it also logs a TESTEN strap at 1 (R506). -/
def State.meterPowerUp (s : State) : State :=
  let m := s.meter
  let live := m.live
  let st : SealState := match live with
    | none => .never
    | some (n, r) => if r.unsealed then .unsealed else if n = 15 then .permanent else .sealed
  let chain : Word := match live with | none => 0 | some (_, r) => r.check
  let base : Meter := { Meter.reset with
    sealSt := st, records := m.records, epoch := m.epoch, exhausted := m.exhausted, chain := chain, sealN := true, sealNSince := s.xcycles,
    up := true }
  let base := if m.records.isEmpty then base else base.burnEpoch
  let s := ((s.setMeter base).resetBlock 0x80).resetBlock 0x81
  let words : List Word := match live with | none => [] | some (_, r) => r.words
  let s := s.each words.zipIdx fun s c => s.setReg (blk 0x80 (0x100 + 4 * c.2)) c.1
  let code := match st with | .never => 0 | .unsealed => 1 | .sealed => 2 | .permanent => 3
  let s := s.meterLog 0x01 code base.epoch 0
  let s := if base.exhausted && !m.exhausted then s.logEntry 0x14 0 0 0 else s
  let s := if s.straps.testen && s.core.phase == .settling then s.meterLog 0x11 0x010 Config.testenData 0 else s
  s.meterParams

/-- METER_POWER_UP: the load from the seal store, once for each time SW18 comes on (R423, R427). -/
def execMeterPowerUp (t : Nat) (s : State) : Host.Outcome State Fault Refusal :=
  let s := s.upTo t
  .next (if s.domain 18 && !s.meter.up then s.meterPowerUp else s)

/-- SEAL_N has been held low for the 100 ms before now; its low level was logged 10 ms after it began (R424). -/
def State.sealHeld (s : State) : Bool := !s.meter.sealN && 9 ≤ 100 * s.meterSince s.meter.sealNSince

/-- The parameter checks of a SEAL (R425, value 0x5). -/
def State.paramsBad (s : State) : Bool :=
  [0, 1].any (fun m => s.srcKind m != 0 && s.cal m == 0)
    || s.meterHz < 10000000 || 27000000 < s.meterHz
    || (List.range 8).any (fun i =>
        let g := s.slotGroup i
        s.gslotOn i && s.leqLimit g != 0 && s.srcKind g == 0)
    || [0, 1].any fun g => s.leqLimit g != 0 && fld (s.grdRate g) 23 16 == 0

/-- The cause of refusal of a SEAL or an UNSEAL, in the order of the table, 0 when every check passes (R425). -/
def State.sealCause (s : State) (isSeal : Bool) : Nat :=
  let m := s.meter
  if !s.sealHeld then 1
  else if (isSeal && m.sealSt == .sealed) || (!isSeal && (m.sealSt == .never || m.sealSt == .unsealed)) then 2
  else if m.sealSt == .permanent then 3
  else if s.reg (blk 0x80 0x020) ≠ s.sealCheck then 4
  else if isSeal && s.paramsBad then 5
  else if isSeal && (m.degraded || m.disagree) then 6
  else 0

/-- A refused seal command (R423, R428). -/
def State.sealRefuse (s : State) (cause : Nat) : State :=
  (((s.setReg (blk 0x80 0x028) (BitVec.ofNat 32 cause)).raise 0x80 3).meterLog 0x04 cause
    (s.reg (blk 0x80 0x020)).toNat s.sealCheck.toNat)

/-- SEAL's effect; `burnOk` is the read-back of its burn. With all sixteen records burned none is left to burn, which is refused
as the store's failure (R423, R425, R426). -/
def State.doSeal (s : State) (burnOk : Bool) : State :=
  let m := s.meter
  let c := s.sealCause true
  if c ≠ 0 then s.sealRefuse c
  else if 16 ≤ m.records.length then s.sealRefuse 7
  else
    let n := m.records.length
    let audit := BitVec.ofNat 32 (s.auditNow + 1)
    let r : SealRecord := ⟨s.params, s.sealCheck, audit, false, burnOk⟩
    let s := s.setMeter { m with records := m.records ++ [r] }
    if !burnOk then s.sealRefuse 7
    else
      let s := s.setMeter { s.meter with sealSt := if n = 15 then .permanent else .sealed }
      (((s.setReg (blk 0x80 0x028) 0).raise 0x80 1).meterLog 0x02 n s.sealCheck.toNat 0).meterOk

/-- UNSEAL's effect; `burnOk` is the read-back of its burn (R423, R425). -/
def State.doUnseal (s : State) (burnOk : Bool) : State :=
  let m := s.meter
  let c := s.sealCause false
  match c, m.live with
  | 0, some (n, r) =>
    if !burnOk then s.sealRefuse 7
    else
      let s := s.setMeter { m with records := m.records.set n { r with unsealed := true }, sealSt := .unsealed }
      (((s.setReg (blk 0x80 0x028) 0).raise 0x80 2).meterLog 0x03 n r.check.toNat 0).meterOk
  | 0, none => s.sealRefuse 2
  | c, _ => s.sealRefuse c

/-- SEAL: a host write of SEAL to SEAL_CMD; with SW18 off it faults (R11, R425). -/
def execSeal (burnOk : Bool) (t : Nat) (s : State) : Host.Outcome State Fault Refusal :=
  let s := s.upTo t
  .next (s.hostActs (.seal burnOk t) fun s =>
    if s.domain 18 then s.doSeal burnOk else s.hostFault 0x02 (blk 0x80 0x024))

/-- UNSEAL: a host write of UNSEAL to SEAL_CMD; with SW18 off it faults (R11, R425). -/
def execUnseal (burnOk : Bool) (t : Nat) (s : State) : Host.Outcome State Fault Refusal :=
  let s := s.upTo t
  .next (s.hostActs (.unseal burnOk t) fun s =>
    if s.domain 18 then s.doUnseal burnOk else s.hostFault 0x02 (blk 0x80 0x024))

/-- SEAL_N_CHANGE: a level that has lasted 10 ms is taken, and logged where it differs from the last one taken. A low one taken again has
been broken by a high level too short to be taken, and is held without a break only from then (R424). -/
def execSealNChange (level : Bool) (t : Nat) (s : State) : Host.Outcome State Fault Refusal :=
  let s := s.upTo t
  .next (if !(s.domain 18) then s
    else if s.meter.sealN != level then
      (s.setMeter { s.meter with sealN := level, sealNSince := s.xcycles }).meterLog 0x08 (if level then 1 else 0) 0 0
    else if level then s
    else s.setMeter { s.meter with sealNSince := s.xcycles })

/-- The DCO/64 edges that the live DCO_CFG and STEER ask for in a second (R417). -/
def State.clockWant (s : State) : Rat :=
  (s.secondHz : Rat) * ratioOf (s.reg (blk 0x02 0x010)) * (1 + (s.clocks.steer : Rat) / 16777216) / 64

/-- A count of `dco` edges differs by more than 100 ppm (R417). -/
def State.clockFar (s : State) (dco : Nat) : Bool := decide (100 * s.clockWant < |(dco : Rat) - s.clockWant| * 1000000)

/-- The difference in ppm that a CLOCK_DISAGREE entry holds, to the nearest; against a demand for no edges at all the spec states none
(R428; log entry 94). -/
def State.clockPpm (s : State) (dco : Nat) : Int :=
  if s.clockWant = 0 then Config.ppmOfNone dco else rne (((dco : Rat) - s.clockWant) * 1000000 / s.clockWant)

/-- CLOCK_DISAGREE after four consecutive seconds apart, or four that agree (R417, R428). -/
def State.clockJudge (s : State) (dco : Nat) : State :=
  let m := s.meter
  let far := s.clockFar dco
  let m := { m with disagreeRun := if far then m.disagreeRun + 1 else 0, agreeRun := if far then 0 else m.agreeRun + 1 }
  let data := (BitVec.ofInt 32 (s.clockPpm dco)).toNat
  if far && m.disagreeRun ≥ 4 && !m.disagree then
    ((s.setMeter { m with disagree := true }).raise 0x80 8).meterLog 0x0B 1 data 0
  else if !far && m.agreeRun ≥ 4 && m.disagree then (s.setMeter { m with disagree := false }).meterLog 0x0B 0 data 0
  else s.setMeter m

/-- METER_SECOND: readings, failsafe and guard conditions, clock comparison and combined entries at a whole second of meter
time (R412, R417, R419, R421, R430, R436). With no clock at all the second is one without valid input.
A second that ends while ECLK stands still has passed by the meter's own clock alone. -/
def execMeterSecond (dco : Nat) (xclk : Bool) (t : Nat) (s : State) : Host.Outcome State Fault Refusal :=
  let s := s.upTo t
  let clocked := xclk || s.clocks.dco != .off
  .next (if !(s.domain 18) then s
    else
      let s := if clocked && !(s.clkRuns .eclk) then { s with xcycles := s.xcycles + s.secondHz } else s
      let s := s.setMeter { s.meter with seconds := s.meter.seconds + 1 }
      let s := (s.endSecond 0 clocked).endSecond 1 clocked
      let s := if !clocked then s
        else if s.meter.degraded then
          (if xclk then
            (s.setMeter { s.meter with degraded := false, degradedSecs := 0, degradedNow := false }).meterLog 0x0A 0
              (s.meter.degradedSecs + 1) 0
          else s.setMeter { s.meter with degradedSecs := s.meter.degradedSecs + 1, degradedNow := true })
        else (s.setMeter { s.meter with degradedNow := false }).clockJudge dco
      let s := if s.meter.rejected = 0 then s else
        (s.setMeter { s.meter with rejected := 0 }).meterLog 0x06 s.meter.rejected s.meter.rejectedAt s.meter.rejectedData.toNat
      let s := (s.failsafeOut 0).failsafeOut 1
      let s := s.each [0, 1] fun s g => s.setGuard g { s.guardOf g with move := s.guardCondition g }
      s.meterJudge)

/-- LT_UPDATE: every 125 ms LT is read anew (R412, R413, R440). -/
def execLtUpdate (t : Nat) (s : State) : Host.Outcome State Fault Refusal :=
  let s := s.upTo t
  .next (if !(s.domain 18) then s
    else s.each [0, 1] fun s m =>
      let s := if s.srcKind m = 2 then s.fillZero m else s
      let l := if s.srcKind m = 0 ∨ !(s.chanValid m) then (0, false, false) else levelOf (s.cal m) (s.mchan m).smooth 0
      let s := s.setRegFld (blk 0x80 (0x040 + 32 * m)) 31 16 l.1
      let a := blk 0x80 (0x050 + 32 * m)
      s.setReg a (setBit (setBit (s.reg a) 23 l.2.2) 15 l.2.1))

/-- A frame layout word in the format of TDM CFG: slots, slot width and data delay (R270, R291). -/
def layoutSlots (cfg : Word) : Nat := if fld cfg 3 2 < 2 then 2 else fld cfg 20 16 + 1

/-- The slot width in bits (R291). -/
def layoutWidth (cfg : Word) : Nat := if fld cfg 5 4 = 0 then 16 else if fld cfg 5 4 = 1 then 24 else 32

/-- A frame of `bits` bit clocks, the first half of an I2S or left-justified one `half`, is shorter than it needs (R270). -/
def layoutShort (cfg : Word) (bits half : Nat) : Bool :=
  let need := fld cfg 7 6 + layoutWidth cfg
  if fld cfg 3 2 < 2 then half < need || bits - half < need
  else bits < fld cfg 7 6 + layoutSlots cfg * layoutWidth cfg

/-- The bits of slot `k` that a frame of `bits` bit clocks received (R281). -/
def layoutGot (cfg : Word) (bits half k : Nat) : Nat :=
  let w := layoutWidth cfg
  let start := if fld cfg 3 2 < 2 then fld cfg 7 6 + (if k = 0 then 0 else half) else fld cfg 7 6 + k * w
  let stop := if fld cfg 3 2 < 2 ∧ k = 0 then half else bits
  min w (stop - start)

/-- The Q1.31 values of a received frame: `raw` holds each slot's bits, those not received reading as zero
(R271, R281). -/
def layoutWords (cfg : Word) (bits half : Nat) (raw : List Word) : List Word :=
  (List.range (layoutSlots cfg)).map fun k =>
    let w := layoutWidth cfg
    let got := layoutGot cfg bits half k
    let v := (raw.getD k 0).toNat % 2 ^ w
    BitVec.ofNat 32 (v / 2 ^ (w - got) * 2 ^ (w - got) * 2 ^ (32 - w))

/-- The class of channel `m`'s frames by the meter's own count of the time since the last one; of a first frame nothing is counted, and
the class stands (R414, R415). -/
def State.tapClass (s : State) (m : Nat) : Nat :=
  let c := s.mchan m
  let dt := s.meterSince c.lastAt
  if c.prevBits.isNone ∨ dt ≤ 0 then c.cls else rateClass (1 / dt)

/-- TAP_FRAME: the meter's own tap ends a frame of channel `m`'s pin pair. The class that the command names is not taken: the meter judges
the rate by its own count (R414, R415). -/
def execTapFrame (m : Fin 2) (bits : Nat) (half : Nat) (slots : List Word) (_cls : BitVec 4) (t : Nat) (s : State) :
    Host.Outcome State Fault Refusal :=
  let s := s.upTo t
  let cfg := s.tapWord m
  .next (if !(s.domain 18) || s.srcKind m != 1 then s
    else
      let c := s.mchan m
      let short := layoutShort cfg bits half
      let good := !short && c.prevBits == some bits
      let run := if good then c.goodRun + 1 else 0
      let s := s.setMchan m { c with
        goodRun := run, prevBits := if short then none else some bits, cls := s.tapClass m,
        lastAt := if c.valid then c.lastAt else s.xcycles }
      let s := if short then s.setValid m false else if run ≥ 16 then s.setValid m true else s
      let s := if (s.mchan m).valid then
          s.measure m ((layoutWords cfg bits half slots).getD (fld (s.param m) 28 24) 0) else s
      s.meterJudge)

/-- TAP_TIMEOUT: no frame mark on channel `m`'s pin pair for two frame periods (R415). -/
def execTapTimeout (m : Fin 2) (t : Nat) (s : State) : Host.Outcome State Fault Refusal :=
  let s := s.upTo t
  .next (if s.domain 18 && s.srcKind m == 1 then
      ((s.setMchan m { s.mchan m with goodRun := 0, prevBits := none, cls := 0 }).setValid m false).meterJudge
    else s)

/-- CLOCK_DEGRADED: the meter's own detector sees XCLK lost (R417). -/
def execClockDegraded (t : Nat) (s : State) : Host.Outcome State Fault Refusal :=
  let s := s.upTo t
  .next (if s.domain 18 && !s.meter.degraded then
      (((s.setMeter { s.meter with degraded := true, degradedNow := true, degradedSecs := 0 }).raise 0x80 7).meterLog 0x09
        0 0 0).meterOk
    else s)

/-- PARAM_RELOAD: shadow word `n` fails its parity check (R433). -/
def execParamReload (n : Fin 24) (t : Nat) (s : State) : Host.Outcome State Fault Refusal :=
  let s := s.upTo t
  .next (if !(s.domain 18) then s
    else
      let s := s.raise 0x80 0
      match s.isSealed, s.meter.live with
      | true, some (_, r) =>
        let s := s.each r.words.zipIdx fun s c => s.setReg (blk 0x80 (0x100 + 4 * c.2)) c.1
        ((s.meterLog 0x13 (4 * n.val) 0 0).shadowNow []).meterJudge
      | _, _ =>
        ((s.shadowLost n.val).meterLog 0x13 (4 * n.val) 0 0).meterJudge)

/-! ## METER_OK and the test access port (R436, R530) -/

/-- The test access port's instruction in force: EXTEST and HIGHZ act as BYPASS while the meter is sealed with a guard slot enabled
(R530). -/
def State.tapInForce (s : State) : TapInstr :=
  match s.tap.instr with
  | .extest | .highz => if s.isSealed && s.anyGslot then .bypass else s.tap.instr
  | i => i

/-- The level of METER_OK: low while EXTEST or HIGHZ is in force (R436, R530). -/
def State.meterOkPin (s : State) : Bool :=
  match s.tapInForce with
  | .extest | .highz => false
  | _ => s.meter.ok

end Sys2Proof.Machine
end

