-- ==== Sys2Proof/Machine/Router.lean ====
section
/-!
DEFINITION. The router: its tables, generators, streams, rows, matrix and limiters, what a commit makes of a changed entry,
and the commands that act on them (R228 to R267). The delivery of sinks is in Sys2Proof/Machine/Delivery.lean.
-/

namespace Sys2Proof.Machine

/-- The state with the router replaced. -/
def State.setRouter (s : State) (r : Router) : State := { s with router := r }

/-! ## Tables (R256 to R260) -/

/-- The address at which the model keeps a router table word of one of the two banks. -/
def routerAddr (bank : Bool) (a : Nat) : Nat := if bank then 0x10000000 + a else a

/-- The address of crosspoint `i`, 512 times its column plus its row (R256). -/
def xptAddr (i : Nat) : Nat := 0x100000 + 4 * i

/-- The address of row-select entry `r` (R256). -/
def rowAddr (r : Nat) : Nat := 0x200000 + 4 * r

/-- The address of sink `n`'s patch entry (R256). -/
def patchAddr (n : Nat) : Nat := 0x201000 + 4 * n

/-- The address of column `c`'s entry (R256). -/
def colAddr (c : Nat) : Nat := 0x204000 + 4 * c

/-- The bits of a router table word that are not reserved; `none` where no word is listed (R256 to R260). -/
def routerMask (a : Nat) : Option Word :=
  if 0x100000 ≤ a ∧ a < 0x200000 then some 0x80FFFFFF
  else if 0x200000 ≤ a ∧ a < 0x200800 then some 0x800007FF
  else if 0x201000 ≤ a ∧ a < 0x202120 then some 0xFFC007FF
  else if 0x204000 ≤ a ∧ a < 0x204800 then some 0x3FFFFFFF
  else none

/-- A router table word holds no reserved encoding (R258 to R260). -/
def routerLegal (a : Nat) (w : Word) : Bool :=
  if 0x200000 ≤ a ∧ a < 0x200800 then fld w 10 0 ≤ 1103
  else if 0x201000 ≤ a ∧ a < 0x202120 then
    match fld w 31 30 with
    | 0 => fld w 10 0 == 0
    | 1 => fld w 10 0 ≤ 1103
    | 2 => fld w 10 0 ≤ 511
    | _ => false
  else if 0x204000 ≤ a ∧ a < 0x204800 then fld w 17 8 ≤ 1000 && fld w 7 0 ≤ 240
  else true

/-- The place of a Table word as the router uses it. -/
def State.tableAddr (s : State) (a : Nat) : Nat := routerAddr s.router.tableBank a

/-- A router Table word as the router uses it: zero, and so off, under a parity error (R29). -/
def State.tableWord (s : State) (a : Nat) : Word := s.used (s.tableAddr a) (s.wordAt (s.tableAddr a))

/-- The indices of the Table words from `a` on, `n` of them, whose bit 31 is 1 and whose parity is good. -/
def State.enabledWords (s : State) (a n : Nat) : List Nat :=
  let base := s.tableAddr a
  s.mem.filterMap fun c =>
    if base ≤ c.1 ∧ c.1 < base + 4 * n ∧ c.1 % 4 = 3 ∧ 128 ≤ c.2.toNat ∧ !(s.bad (c.1 - 3)) then some ((c.1 - base) / 4)
    else none

/-! ## Generators (R244) -/

/-- GENn_A (R264). -/
def State.genA (s : State) (n : Nat) : Word := s.reg (blk 0x31 (0x040 + 8 * n))

/-- GENn_B.ATTEN (R264). -/
def State.genAtten (s : State) (n : Nat) : Nat := fld (s.reg (blk 0x31 (0x044 + 8 * n))) 8 0

/-- Generator `n`'s state. -/
def State.gen (s : State) (n : Nat) : Gen := look Gen.reset s.router.gens n

/-- The state with generator `n`'s state replaced. -/
def State.setGen (s : State) (n : Nat) (g : Gen) : State :=
  s.setRouter { s.router with gens := put Gen.reset s.router.gens n g }

/-- What follows a write of GENn_A: the generator starts afresh when EN sets (R244). -/
def State.genWritten (s : State) (n : Nat) (old : Word) : State :=
  if !(bit old 31) && bit (s.genA n) 31 then s.setGen n { Gen.reset with fire := (s.gen n).fire } else s

/-- One TB0 tick of generator `n`: its value becomes source 1,096 + n (R15, R244). An impulse generator whose FREQ leaves 0 while EN is 1
gives its first periodic impulse at the next tick where it has given none, and its count of ticks stands still while FREQ is 0; A is
rounded to nearest and saturated into Q1.31 (DESIGN CHOICE: R244 states neither for impulses; log entry 89). -/
def State.genTick (s : State) (n : Nat) : State :=
  let a := s.genA n
  let att := s.genAtten n
  let freq := fld a 23 0
  let g := s.gen n
  if !(bit a 31) then (s.setGen n { g with fire := false }).setSrc (1096 + n) 0
  else if n < 4 then
    (s.setGen n { g with phase := g.phase + BitVec.ofNat 24 freq }).setSrc (1096 + n)
      (if freq = 0 then 0 else sineValue g.phase.toNat att)
  else if n < 6 then (s.setGen n { g with count := g.count + 1 }).setSrc (1096 + n) (pinkValue n g.count att)
  else
    let periodic := freq != 0 && (match g.since with | none => true | some k => decide (freq ≤ k + 1))
    let since := if freq = 0 then g.since else if periodic then some 0 else g.since.map (· + 1)
    (s.setGen n { g with fire := false, since := since }).setSrc (1096 + n)
      (if g.fire || periodic then sat31 (rne (amplitude att * 2 ^ 31)) else 0)

/-! ## High-pass filters (R242, R243) -/

/-- The live HPF nibble of source `i`: bit 3 EN, bits 2 to 0 the corner. -/
def State.hpfOf (s : State) (i : Nat) : Nat := fld (look 0 s.router.hpfLive (i / 8)) 31 0 / 16 ^ (i % 8) % 16

/-- The address of HPF word `n` (R263). -/
def hpfReg (n : Nat) : Nat := blk 0x31 (0x100 + 4 * n)

/-- The register at `a` is an HPF word (R263). -/
def isHpf (a : Nat) : Bool := decide (hpfReg 0 ≤ a ∧ a < hpfReg 65)

/-- The staged HPF words become live; a filter whose EN goes from 0 to 1 is cleared (R243). -/
def State.hpfCommit (s : State) : State :=
  let r := s.router
  let live := (List.range 65).foldl (fun l n => put 0 l n (s.reg (blk 0x31 (0x100 + 4 * n)))) []
  let s' := s.setRouter { r with hpfLive := live }
  s'.setRouter { s'.router with hpfState := r.hpfState.filter fun c => !(s.hpfOf c.1 < 8 && 8 ≤ s'.hpfOf c.1) }

/-- HPF word `n` becomes live; a filter whose EN goes from 0 to 1 is cleared (R243). -/
def State.hpfTake (s : State) (n : Nat) : State :=
  let r := s.router
  let s' := s.setRouter { r with hpfLive := put 0 r.hpfLive n (s.reg (hpfReg n)) }
  s'.setRouter { s'.router with hpfState := r.hpfState.filter fun c => !(s.hpfOf c.1 < 8 && 8 ≤ s'.hpfOf c.1) }

/-- The staged HPF words return to their live values (R243). -/
def State.hpfRevert (s : State) : State :=
  s.each (List.range 65) fun s n => s.setReg (blk 0x31 (0x100 + 4 * n)) (look 0 s.router.hpfLive n)

/-- Source `i` of a port takes the value `v` through its high-pass filter (R242). `input` is the rate meter input of its
frame clock and `tb` its timebase. With class ABSENT the coefficients are those of the nominal class, as with OTHER, and a source that is not
carried or whose port is disabled is not filtered, so that its filter keeps its state (DESIGN CHOICE: R242 states neither; log entry 89). -/
def State.portSource (s : State) (i input tb : Nat) (v : Word) : State :=
  let h := s.hpfOf i
  if !(s.domain 13) || h < 8 then s.setSrc i v
  else
    let cls := s.rmClass input
    let rate : Rat := if 1 ≤ cls ∧ cls ≤ 7 then classHz (cls - 1) else s.nominalHz tb
    let o := highPass (h % 8) rate (look [] s.router.hpfState i) v
    let s := (s.setRouter { s.router with hpfState := put [] s.router.hpfState i o.1 }).setSrc i (sat31 o.2)
    if o.2 > 0x7FFFFFFF ∨ o.2 < -0x80000000 then (s.bump (blk 0x31 0x010)).raise 0x31 1 else s

/-! ## Streams (R245 to R247) -/

/-- A stream descriptor: of source `m`, or of sink `m` (R265). -/
def State.streamWord (s : State) (sink : Bool) (m : Nat) : Word :=
  s.reg (blk (if sink then 0x32 else 0x31) (0x400 + 4 * m))

/-- A stream's timebase (R265). -/
def State.streamTb (s : State) (sink : Bool) (m : Nat) : Nat := fld (s.streamWord sink m) 23 22

/-- The drawer a stream uses, if it uses one (R245). -/
def State.streamDrawer (s : State) (sink : Bool) (m : Nat) : Option DrawerName :=
  let w := s.streamWord sink m
  let d : DrawerName := ⟨bit w 31, fld w 26 24, fld w 7 0⟩
  if s.bad (blk (if sink then 0x32 else 0x31) (0x400 + 4 * m)) || !(bit w 30) || !d.exists_ || s.len d == 0 then none
  else some d

/-- CTRL_PARITY of the router's source or sink block where stream `m`'s descriptor is under a parity error (R27, R29). -/
def State.streamParity (s : State) (sink : Bool) (m : Nat) : State :=
  let b := if sink then 0x32 else 0x31
  s.parity b [blk b (0x400 + 4 * m)]

/-- Step 1 of a tick for stream source `m`: it takes the word that has come, or keeps its value (R246). -/
def State.streamTick (s : State) (m : Nat) : State :=
  let s := s.streamParity false m
  let clear := s.setRouter { s.router with prefetch := put none s.router.prefetch m none }
  match look none s.router.prefetch m with
  | some ⟨_, _, _, some w⟩ => clear.setSrc (520 + m) w
  | some ⟨some _, _, _, none⟩ => (clear.raise 0x31 2).bump (blk 0x30 0x024)
  | some ⟨none, _, _, none⟩ => clear.setSrc (520 + m) 0
  | none => if (s.streamDrawer false m).isNone then s.setSrc (520 + m) 0 else s

/-- The stream class's word at address `a` reaches its bank: at once, or when the hold under which it arrives is over (R247, R508). -/
def State.streamLand (s : State) (a : Nat) (v : Word) : State :=
  let h := s.lowerHold 0
  if h ≠ 0 then { s with heldWrites := s.heldWrites ++ [⟨s.now + reqArrival a + bankCycles a h, a, v, 0, h⟩] }
  else if s.memOff a then s else (s.setWord a v).bankWaited 0 a 0

/-- Stream sink `m`'s write of the value delivered to it, at its drawer's origin (R178, R247). -/
def State.streamWrite (s : State) (m : Nat) (v : Word) : State :=
  let s := s.streamParity true m
  match s.streamDrawer true m with
  | none => s
  | some d =>
    if s.drawerBad d then s.raise (drawerBlock d) 0
    else if locOwner (s.loc d) ≠ 0x20 then s.raise 0x32 2
    else
      s.streamLand (s.drawerWord d (s.origin d)) v

/-! ## Rows and columns (R230 to R240, R249, R250) -/

/-- The value a row-select entry selects from the sources of TB0's step 1 (R230). -/
def State.rowTarget (s : State) (w : Word) : Word :=
  if bit w 31 then look 0 (look [] s.router.snap 0) (fld w 10 0) else 0

/-- Row `r`'s value in the present TB0 tick (R230, R250). -/
def State.rowValue (s : State) (r : Nat) : Word :=
  let new := s.rowTarget (s.tableWord (rowAddr r))
  match look none s.router.rowFade r with
  | none => new
  | some f => blend ((f.j + 1 : Nat) / (f.n : Nat)) (match f.old with | .entry w => s.rowTarget w | .held v => v) new

/-- A crossfade one step on; it ends with its last step. -/
def Cross.next (f : Cross) : Option Cross := if f.j + 1 < f.n then some { f with j := f.j + 1 } else none

/-- The gain a ramp gives at its step `j` (R249). -/
def XptRamp.gain (r : XptRamp) (j : Nat) : Int := r.g0 + rneDiv ((r.g1 - r.g0) * (j + 1)) r.n

/-- The gain of an entry: that of an inactive crosspoint is 0 (R249, R257). -/
def entryGain (w : Word) : Int := if bit w 31 then (w.setWidth 24).toInt else 0

/-- The gain of crosspoint `i` in the present computation (R249). -/
def State.xptGain (s : State) (i : Nat) : Int :=
  if s.bad (s.tableAddr (xptAddr i)) then 0
  else match look none s.router.xpt i with
    | some r => r.gain r.j
    | none => entryGain (s.tableWord (xptAddr i))

/-- The gain of crosspoint `i` in the last computation (R253). -/
def State.xptPresent (s : State) (i : Nat) (old : Word) : Int :=
  match look none s.router.xpt i with
  | some r => if r.j = 0 then r.g0 else r.gain (r.j - 1)
  | none => entryGain old

/-- The active crosspoints in the lanes' order: the ACTIVE ones and those on a ramp (R235, R249). -/
def State.activeXpts (s : State) : List Nat :=
  joinKeys (s.enabledWords 0x100000 262144) (s.router.xpt.map (·.1))

/-- The columns' raw Q14.52 sums, each with the place of its last crosspoint in the lanes' order (R231, R234, R235). -/
def State.columnSums (s : State) (rows : Sparse Word) : Sparse (Int × Nat) :=
  s.activeXpts.zipIdx.foldl (fun l c =>
    ins l (c.1 / 512) ((look (0, 0) l (c.1 / 512)).1 + s.xptGain c.1 * (look 0 rows (c.1 % 512)).toInt, c.2)) []

/-- LIM_MODE of column `c` (R238, R262). -/
def State.limMode (s : State) (c : Nat) : Nat :=
  let a := blk 0x30 (0x100 + 4 * (c / 16))
  fld (s.used a (s.reg a)) (2 * (c % 16) + 1) (2 * (c % 16))

/-- The limiter's target gain in dB for a sum and a ceiling (R239). -/
def limTarget (sum : Int) (ceil : Rat) : Rat :=
  if sum = 0 then 0
  else
    let l := levelDb ((sum.natAbs : Rat) / 2 ^ 52)
    if l ≤ ceil - 3 then 0
    else if l < ceil + 3 then -((l - ceil + 3) * (l - ceil + 3)) / 12
    else ceil - l

/-- A limiter's rise toward a higher target (R239). -/
def limRise (gain target lag : Rat) : Rat := if gain < target then min 0 (grid (gain + (target - gain) * lag)) else gain

/-- One sample through a column's limiter: what leaves it, the gain applied to that in dB, and its next state
(R238, R239). A look-ahead line at rest is not listed. -/
def limStep (mode : Nat) (ceil lag : Rat) (m : Limiter) (sum : Int) : Int × Rat × Limiter :=
  let t := limTarget sum ceil
  if mode = 1 then
    let g := if t < m.gain then t else limRise m.gain t lag
    (sum, g, ⟨g, []⟩)
  else if mode = 2 then
    let line := List.replicate (8 - m.line.length) ⟨0, 0, 0⟩ ++ m.line
    let low := line.foldl (fun x (l : LimSample) => min x l.target) t
    let rise := limRise m.gain low lag
    let g := (line.zipIdx.map fun (l : LimSample × Nat) =>
        if l.1.target < l.1.entered then l.1.entered + (l.1.target - l.1.entered) * (8 - l.2 : Nat) / 8 else 0).foldl min rise
    let out := match line with | h :: _ => h.sum | [] => 0
    let next := line.drop 1 ++ [⟨sum, t, g⟩]
    (out, g, if g = 0 ∧ next.all (fun l => l.sum == 0) then Limiter.reset else ⟨g, next⟩)
  else (sum, 0, Limiter.reset)

/-- A limited column value as a raw Q1.31 integer, before it saturates (R240). -/
def columnRaw (sum : Int) (gain : Rat) : Int := rne (sum * (if gain = 0 then 1 else gainOfDb gain) / 2 ^ 21)

/-- Column `c` passes its limiter and is rounded: its result waits for the TB0 delivery, and a clip is counted
(R238 to R240). A column whose entry is under a parity error is off (R29). -/
def State.columnResult (s : State) (c : Nat) (sum : Int) : State :=
  let s := s.parity 0x30 [blk 0x30 (0x100 + 4 * (c / 16))]
  if s.bad (s.tableAddr (colAddr c)) then
    (s.setRouter { s.router with computed := put 0 s.router.computed c 0 }).raise 0x30 0
  else
    let w := s.tableWord (colAddr c)
    let ms := if fld w 17 8 = 0 then 1 else fld w 17 8
    let rise := lag (ms * s.nominalHz 0 / 1000)
    let o := limStep (s.limMode c) (-(fld w 7 0 : Rat) / 10) rise (look Limiter.reset s.router.lim c) sum
    let v := columnRaw o.1 o.2.1
    let s := s.setRouter { s.router with
      lim := put Limiter.reset s.router.lim c o.2.2, computed := put 0 s.router.computed c (sat31 v) }
    if v > 0x7FFFFFFF ∨ v < -0x80000000 then ((s.bump (blk 0x30 (0x800 + 4 * c))).bump (blk 0x30 0x020)).raise 0x30 2 else s

/-- The next TB0 tick, `elapsed` ECLK cycles after the one whose columns the lanes took: columns done pass their limiters,
columns not done are late (R235, R237). -/
def State.matrixClose (s : State) (elapsed : Nat) : State :=
  if s.router.computedAt.isNone then s
  else
    let sums := s.router.sums
    let cols := joinKeys (joinKeys (sums.map (·.1)) (s.router.lim.map (·.1))) (s.router.computed.map (·.1))
    let s := s.setRouter { s.router with sums := [], computedAt := none }
    s.each cols fun s c =>
      let e := look (0, 0) sums c
      if (sums.map (·.1)).contains c && elapsed ≤ 64 + e.2 / 32 then (s.raise 0x30 1).bump (blk 0x30 0x01C)
      else s.columnResult c e.1

/-- MATRIX_COMPUTE: the lanes take every active column from the row values of TB0's step 1, and crosspoint and row ramps step
(R230, R231, R234, R235, R249, R250). The results stand from the next TB0 tick (R237). -/
def execMatrixCompute (t : Nat) (s : State) : Host.Outcome State Fault Refusal :=
  let s := s.upTo t
  .next (if s.domain 13 && !(s.holding 0) && !(s.gated 9) && s.router.computedAt != some (s.tb 0).tickNo then
      let s := s.parityIn 0x30 (s.tableAddr (rowAddr 0)) (s.tableAddr (rowAddr 512))
      let s := s.parityIn 0x30 (s.tableAddr (xptAddr 0)) (s.tableAddr (xptAddr 262144))
      let keys := joinKeys (s.enabledWords 0x200000 512) (s.router.rowFade.map (·.1))
      let rows := keys.foldl (fun l r => put 0 l r (s.rowValue r)) []
      let sums := s.columnSums rows
      s.setRouter { s.router with
        row := rows, sums := sums, computedAt := some (s.tb 0).tickNo,
        xpt := s.router.xpt.filterMap (fun c => match c.2 with
          | some r => if r.j + 1 < r.n then some (c.1, some { r with j := r.j + 1 }) else none
          | none => none),
        rowFade := s.router.rowFade.filterMap fun c => (c.2.bind Cross.next).map fun f => (c.1, some f) }
    else s)

/-! ## Commits (R207, R249 to R255) -/

/-- ZCn as the router uses it (R267). -/
def State.zcWord (s : State) (n : Nat) : Word := s.used (blk 0x32 (0x100 + 4 * n)) (s.reg (blk 0x32 (0x100 + 4 * n)))

/-- The entry that makes sink `k` a zero-cross sink that waits (R254, R267). A change that waits while TIMEOUT is rewritten to 0 looks for
no crossing any more, and applies at ZC_TIMEOUT (DESIGN CHOICE: R254 does not speak of a rewritten TIMEOUT; log entry 87). -/
def State.zcOf (s : State) (k : Nat) : Option Nat :=
  (List.range 16).find? fun n =>
    bit (s.zcWord n) 31 && fld (s.zcWord n) 10 0 == k && fld (s.zcWord n) 24 16 != 0

/-- What waits on zero-cross entry `n`. -/
def State.zcWait (s : State) (n : Nat) : ZcWait := (look none s.router.zc n).getD ⟨false, none, 0⟩

/-- The state with what waits on entry `n` replaced; nothing is listed where nothing waits. -/
def State.setZc (s : State) (n : Nat) (w : ZcWait) : State :=
  s.setRouter { s.router with
    zc := put none s.router.zc n (if w.patch || w.mute.isSome then some w else none) }

/-- The patch entry in effect on sink `k`: the Table word, or the entry before a change that waits (R254). -/
def State.patchInEffect (s : State) (k : Nat) : Word :=
  match look none s.router.patchOld k with
  | some w => w
  | none => s.tableWord (patchAddr k)

/-- The MUTE bits as set bits of a table (R252, R266). -/
def State.muteBits (s : State) : Sparse Bool :=
  (List.range 35).flatMap fun n =>
    let w := s.reg (blk 0x32 (0x200 + 4 * n))
    if w = 0 then [] else (List.range 32).filterMap fun i => if bit w i then some (32 * n + i, true) else none

/-- The timebase of sink `k` (R229). -/
def State.sinkTb (s : State) (k : Nat) : Nat :=
  if k < 512 then s.tdmTb (k / 32)
  else if k < 520 then s.txTb ((k - 512) / 2)
  else if k < 584 then s.streamTb true (k - 520)
  else s.engTb ((k - 584) / 16)

/-- A change of sink `k`'s patch entry from `old`, the entry in effect, at the sink's first tick after the commit (R251, R253 to R255).
A ramp still running is one with the sink's MUTE fade, and the value it gave is held. -/
def State.patchChanged (s : State) (k : Nat) (old : Word) : State :=
  let new := s.tableWord (patchAddr k)
  let n := fld new 29 22
  let r := s.router
  match s.zcOf k, n with
  | some z, 0 =>
    (s.setRouter { r with patchOld := put none r.patchOld k (some old) }).setZc z { s.zcWait z with patch := true }
  | z, _ =>
    let held := look 0 r.sink k
    let mutes := (look none r.muteFade k).isSome
    let fade : Option Cross := if n = 0 ∨ mutes then none else
      some ⟨if (look none r.sinkFade k).isSome then .held held else .entry old, n, 0⟩
    let mute : Option MuteFade := if n ≠ 0 ∧ mutes then some ⟨some held, some n, 0⟩ else none
    let s := s.setRouter { r with
      sinkFade := put none r.sinkFade k fade, muteFade := put none r.muteFade k mute, patchOld := put none r.patchOld k none }
    match z with
    | some z => s.setZc z { s.zcWait z with patch := false }
    | none => s

/-- What the exchange makes of dirty word `a`, whose Table word was `old` and whose patch entry in effect was `eff`
(R249 to R251, R253). -/
def State.entryChanged (s : State) (a : Nat) (old eff : Word) : State :=
  let new := s.tableWord a
  let r := s.router
  if a < 0x200000 then
    let i := (a - 0x100000) / 4
    if bit old 31 = bit new 31 ∧ entryGain old = entryGain new then s
    else
      let n := fld (s.tableWord (colAddr (i / 512))) 29 18
      s.setRouter { r with
        xpt := put none r.xpt i (if n = 0 then none else some ⟨s.xptPresent i old, entryGain new, n, 0⟩) }
  else if a < 0x201000 then
    let i := (a - 0x200000) / 4
    if bit old 31 = bit new 31 ∧ (bit old 31 = false ∨ fld old 10 0 = fld new 10 0) then s
    else
      let n := fld (s.reg (blk 0x30 0x018)) 11 0
      s.setRouter { r with
        rowFade := put none r.rowFade i (if n = 0 then none else
          some ⟨if (look none r.rowFade i).isSome then .held (look 0 r.row i) else .entry old, n, 0⟩) }
  else if a < 0x204000 then
    let k := (a - 0x201000) / 4
    if fld old 31 30 = fld new 31 30 ∧ fld old 10 0 = fld new 10 0 then s
    else if (s.tb 0).lastTick ≤ (s.tb (s.sinkTb k)).lastTick then s.patchChanged k eff
    else s.setRouter { r with patchOld := put none r.patchOld k (some eff), patchWait := k :: r.patchWait.filter (· != k) }
  else s

/-- The first tick of timebase `n` after a commit or a write of MUTE: changes of its sinks' patch entries act, and their MUTE bits stand
as this tick finds them (R251, R252). -/
def State.sinkTick (s : State) (n : Nat) : State :=
  let r := s.router
  let due := r.patchWait.filter fun k => s.sinkTb k == n
  let here := s.muteBits.filter fun c => s.sinkTb c.1 == n
  let muteAt := here.foldl (fun l c => put false l c.1 c.2) (r.muteAt.filter fun c => s.sinkTb c.1 != n)
  let s := if muteAt = r.muteAt then s else s.setRouter { r with muteAt := muteAt }
  if due.isEmpty then s
  else
    let s := s.setRouter { s.router with patchWait := s.router.patchWait.filter fun k => !due.contains k }
    s.each due fun s k => s.patchChanged k (s.patchInEffect k)

/-- A commit's effect on the router: the tables exchange, every changed entry starts its ramp, crossfade or wait, staged
HPF settings become live, and the re-shelve starts (R204, R207, R243, R249 to R255). Shelf writes that landed in this very cycle count
as later ones (R206). -/
def State.routerExchange (s : State) : State :=
  let again := s.router.lane.landedNow s.now
  let s := s.landBack (routerAddr (!s.router.tableBank)) again
  let s := s.setRouter { s.router with lane := s.router.lane.undone again }
  let dirty := s.router.lane.dirty
  let olds := dirty.map fun a =>
    (a, s.tableWord a, if 0x201000 ≤ a ∧ a < 0x204000 then s.patchInEffect ((a - 0x201000) / 4) else 0)
  let s := s.setRouter { s.router with
    tableBank := !s.router.tableBank, lane := s.router.lane.exchange again }
  let s := s.parity 0x30 (dirty.map s.tableAddr)
  (s.each olds fun s o => s.entryChanged o.1 o.2.1 o.2.2).hpfCommit

/-- The router started afresh: ramps, crossfades, limiter and filter state, zero-cross waits and stream positions are lost;
tables, registers and sources stay, and a MUTE bit that is set is in effect (R241, R261). -/
def State.routerRestart (s : State) : State :=
  let r := s.router
  s.setRouter { Router.reset with
    src := r.src, snap := r.snap, lane := r.lane, tableBank := r.tableBank, hpfLive := r.hpfLive, muteAt := s.muteBits, muted := s.muteBits }

/-! ## Commands -/

/-- MUTE_WRITE: word `n` of the MUTE bits; a change acts from the sink's first tick after it (R252). With SW13 off the access
faults (R11). -/
def execMuteWrite (n : Fin 35) (w : Word) (t : Nat) (s : State) : Host.Outcome State Fault Refusal :=
  let s := s.upTo t
  let a := blk 0x32 (0x200 + 4 * n)
  .next (s.hostActs (.muteWrite n w t) fun s =>
    if s.unitOn 13 then s.setReg a (w &&& (rowAt a).rw) else s.hostFault 0x02 a)

/-- What waits on zero-cross entry `n` applies to its sink `k` as a cut (R254). -/
def State.zcApply (s : State) (n k : Nat) : State :=
  let w := s.zcWait n
  let r := s.router
  let s := if w.patch then s.setRouter { r with
      patchOld := put none r.patchOld k none, sinkFade := put none r.sinkFade k none,
      muteFade := put none r.muteFade k none } else s
  let s := match w.mute with
    | some m => s.setRouter { s.router with
        muted := put false s.router.muted k m, muteFade := put none s.router.muteFade k none }
    | none => s
  s.setZc n ⟨false, none, 0⟩

/-- ZC_TIMEOUT: what has waited TIMEOUT milliseconds on entry `n`, counted in ticks of the sink's nominal rate, applies and is
counted (R254, R255). `tb` is found from the sink's unit. -/
def State.zcTimeout (s : State) (n tb : Nat) : State :=
  let w := s.zcWait n
  let k := fld (s.zcWord n) 10 0
  if (w.patch || w.mute.isSome) && (fld (s.zcWord n) 24 16 : Rat) * s.nominalHz tb ≤ 1000 * (w.ticks : Rat) then
    ((s.zcApply n k).bump (blk 0x32 0x014)).raise 0x32 1
  else s

/-- A write of GENn_B: ATTEN, and FIRE for an impulse generator (R244, R264). -/
def State.writeGenB (s : State) (n : Nat) (w : Word) : State :=
  let s := s.setReg (blk 0x31 (0x044 + 8 * n)) (w &&& 0x1FF)
  if 6 ≤ n ∧ bit w 31 then s.setGen n { s.gen n with fire := true } else s

/-- FIRE (R244, R264). With SW13 off the access faults (R11). -/
def execFire (n : Fin 8) (w : Word) (t : Nat) (s : State) : Host.Outcome State Fault Refusal :=
  let s := s.upTo t
  .next (s.hostActs (.fire n w t) fun s =>
    if s.unitOn 13 then s.writeGenB n w else s.hostFault 0x02 (blk 0x31 (0x044 + 8 * n)))

/-- STREAM_PREFETCH: at cycle 64 stream source `m` issues the read for index (ORIGIN - 1) mod LEN (R246). A drawer under a
parity error, or whose memory is off, gives zero (R10, R29). -/
def execStreamPrefetch (m : Fin 64) (t : Nat) (s : State) : Host.Outcome State Fault Refusal :=
  let s := s.upTo t
  let set := fun (s : State) (a : Option Nat) =>
    s.setRouter { s.router with prefetch := put none s.router.prefetch m (some ⟨a, s.now, s.lowerHold 0, none⟩) }
  let s := if s.domain 13 && !(s.gated 9) then s.streamParity false m else s
  .next (if !(s.domain 13) || s.gated 9 then s
    else match s.streamDrawer false m with
    | none => set s none
    | some d =>
      if s.drawerBad d then set (s.raise (drawerBlock d) 0) none
      else
        let a := s.drawerWord d ((s.origin d + s.len d - 1) % s.len d)
        set s (if s.memOff a then none else some a))

/-- The first cycle at which a prefetch can have its word, where a hold keeps it from its bank (R182, R508). -/
def Prefetch.earliest (p : Prefetch) (a : Nat) : Nat := p.issued + reqArrival a + bankCycles a p.hold + reqReturn a

/-- STREAM_ARRIVAL: the word of stream source `m` arrives, or misses cycle 0 of its tick and is discarded (R246). A held request is not
yet eligible (R508); its wait from arrival to grant is what LOWER_WAIT_MAX sees (R182, R200). -/
def execStreamArrival (m : Fin 64) (late : Bool) (t : Nat) (s : State) : Host.Outcome State Fault Refusal :=
  let s := s.upTo t
  let set := fun (s : State) (p : Option Prefetch) =>
    s.setRouter { s.router with prefetch := put none s.router.prefetch m p }
  .next (match look none s.router.prefetch m with
    | some ⟨some a, issued, hold, none⟩ =>
      let p : Prefetch := ⟨some a, issued, hold, none⟩
      if late then ((set s none).raise 0x31 2).bump (blk 0x30 0x024)
      else if hold ≠ 0 ∧ s.now < p.earliest a then s
      else (set s (some { p with word := some (if s.memOff a then 0 else s.wordAt a) })).lowerWait 0 a
        (s.now - issued - reqArrival a - reqReturn a)
    | _ => s)

end Sys2Proof.Machine
end

