-- ==== Sys2Proof/Machine/Tdm.lean ====
section
/-!
DEFINITION. TDM ports: frames, states, FIFOs, slips and faults, slot masks, stamps, and the commands that act on them
(R268 to R292). A frame mark of a pin pair that is also a tick of its timebase is taken by the port before the tick
(log entry 20); a stamp of such a mark is that of the tick (R341).
-/

namespace Sys2Proof.Machine

/-- The domain of port `p`: SW14 or SW15 (R535). -/
def tdmDomain (p : Nat) : Nat := if p < 8 then 14 else 15

/-- The port is aligned (R274). -/
def State.tdmAligned (s : State) (p : Nat) : Bool :=
  s.tbKind (s.tdmTb p) == 1 && s.tbIndex (s.tdmTb p) == s.pinPair p

/-- START_COUNT (R290). -/
def State.startCount (s : State) (p : Nat) : Nat := fld (s.reg (tdmReg p 0x018)) 9 0

/-- FADE_LEN (R290, R464). -/
def State.tdmFadeLen (s : State) (p : Nat) : Nat := s.fadeCap (s.tdmTb p) (fld (s.reg (tdmReg p 0x018)) 23 16)

/-- The staged masks, receive then transmit (R282). -/
def State.stagedMasks (s : State) (p : Nat) : Word × Word := (s.reg (tdmReg p 0x01C), s.reg (tdmReg p 0x020))

/-- SDO is held undriven by SUPERSEDED, or by QUARANTINE since the frame after the one in which the transmit gain reached 0 (R288). -/
def State.tdmSilenced (s : State) (p : Nat) : Bool :=
  s.host.st == .superseded || (s.host.st == .quarantine && (s.port p).quiet)

/-- What the port drives outside its slots: nothing in shared-line mode or while silenced, and zeros otherwise (R270, R276, R288). -/
def State.sdoRest (s : State) (p : Nat) : Option Word := if s.tdmSilenced p || bit (s.tdmCfg p) 10 then none else some 0

/-- What the port drives in slot `k` where it would send `v` (R276, R288). -/
def State.sdoSlot (s : State) (p k : Nat) (v : Word) : Option Word :=
  if s.tdmSilenced p then none else if bit (s.port p).txLive k then some v else s.sdoRest p

/-- The port drives zeros from now on, under R276 (R278). -/
def State.sdoZeros (s : State) (p : Nat) : State :=
  s.setPort p { s.port p with
    sdo := (List.range (layoutSlots (s.tdmCfg p))).map fun k => s.sdoSlot p k 0, rest := s.sdoRest p }

/-- The port leaves SDO undriven in every bit (R288). -/
def State.sdoOff (s : State) (p : Nat) : State :=
  s.setPort p { s.port p with sdo := (s.port p).sdo.map fun _ => none, rest := none }

/-- In QUARANTINE a port whose transmit gain is 0, with no frame to fade in, leaves SDO undriven (R288). -/
def State.tdmQuiet (s : State) (p : Nat) : State :=
  let x := s.port p
  if s.host.st = .quarantine ∧ x.st ≠ .disabled ∧ x.tx.gain = 0 then (s.setPort p { x with quiet := true }).sdoOff p
  else if s.host.st = .superseded then s.sdoOff p
  else s

/-! ## States (R278) -/

/-- The port enters DISABLED: its run is over, and the staged masks become the live ones (R278, R282). -/
def State.tdmDisabled (s : State) (p : Nat) : State :=
  let m := s.stagedMasks p
  s.setPort p { Port.reset with stamps := (s.port p).stamps, stampAt := (s.port p).stampAt, rxLive := m.1, txLive := m.2 }

/-- The port enters STARTING, with its count at zero and SDO driven with zeros (R278). -/
def State.tdmStarting (s : State) (p : Nat) : State :=
  if !(s.domain (tdmDomain p)) then s
  else
    let x := s.port p
    (s.setPort p { Port.reset with
      st := .starting, stamps := x.stamps, stampAt := x.stampAt, rxLive := x.rxLive, txLive := x.txLive, seq := x.seq,
      next := x.next, quiet := s.host.st == .quarantine }).sdoZeros p

/-- The end of STOPPING: DISABLED, or on to STARTING where EN was set again (R278). -/
def State.tdmStopped (s : State) (p : Nat) : State :=
  let again := (s.port p).restart
  let s := (s.tdmDisabled p).raise (0x10 + p) 2
  if again then s.tdmStarting p else s

/-- The port enters STOPPING. -/
def State.tdmStopping (s : State) (p : Nat) : State :=
  s.setPort p { s.port p with st := .stopping, count := 0, countTo := none, restart := false }

/-- Entry into RUNNING: the FIFOs settle at 2 frames, and stamp counting starts (R274, R275, R278, R285; log entry 21). -/
def State.tdmRunning (s : State) (p : Nat) : State :=
  let x := s.port p
  let al := s.tdmAligned p
  let zero : PortFrame := ⟨[], 0⟩
  (s.setPort p { x with
    st := .running, count := 0, countTo := none, unstable := 0, rxs := x.rxs.start al, txUnder := false, txOver := false,
    txGood := 0, frameNo := 0,
    txFifo := if al then (if x.txFifo.isEmpty then [zero] else x.txFifo) else [zero, zero] }).raise (0x10 + p) 1

/-- Entry into HOLD: the FIFOs are emptied; with no frame marks the transmit gain is 0 at once (R278). -/
def State.tdmHold (s : State) (p : Nat) (noMarks : Bool) : State :=
  let x := s.port p
  let x : Port := { x with
    st := .hold, count := 0, countTo := none, unstable := 0, rxs := x.rxs.stop, txFifo := [],
    txUnder := false, txOver := false, prevBits := if noMarks then none else x.prevBits,
    lastMark := if noMarks then none else x.lastMark, tx := if noMarks then ⟨0, false, 0⟩ else x.tx }
  ((s.setPort p x).raise (0x10 + p) 6).bump (tdmReg p 0x04C)

/-- CTRL written with EN (R278). -/
def State.tdmEnable (s : State) (p : Nat) : State :=
  let s := s.setReg (tdmReg p 0x014) 1
  match (s.port p).st with
  | .disabled => s.tdmStarting p
  | .stopping => s.setPort p { s.port p with restart := true }
  | _ => s

/-- CTRL written without EN (R278). -/
def State.tdmDisable (s : State) (p : Nat) : State :=
  let s := s.setReg (tdmReg p 0x014) 0
  match (s.port p).st with
  | .starting | .running | .hold => s.tdmStopping p
  | .stopping => s.setPort p { s.port p with restart := false }
  | .faulted => s.tdmDisabled p
  | .disabled => s

/-- A full image load stops the port (R59, R278). -/
def State.tdmFullStop (s : State) (p : Nat) : State :=
  match (s.port p).st with
  | .starting | .running | .hold => s.tdmStopping p
  | .stopping => s.setPort p { s.port p with restart := false }
  | _ => s

/-! ## Slot masks (R282 to R284) -/

/-- A sequence toward a target starts where the target differs from the live masks (R282, R283). -/
def State.maskStart (s : State) (p : Nat) (m : Word × Word) : State :=
  let x := s.port p
  if m.1 = x.rxLive ∧ m.2 = x.txLive then s
  else s.setPort p { x with
    seq := some ⟨m.1, m.2, false, 0, 0, none, s.tdmAligned p⟩, lastTx := { x.lastTx with step := 0 },
    txFifo := x.txFifo.map fun f => { f with step := 0 } }

/-- A commit that reaches the port (R282, R284). -/
def State.tdmCommit (s : State) (p : Nat) : State :=
  if (s.port p).seq.isSome then s.setPort p { s.port p with next := some (s.stagedMasks p) }
  else s.maskStart p (s.stagedMasks p)

/-- REVERT returns the staged masks to the live ones (R218, R282). -/
def State.tdmRevert (s : State) (p : Nat) : State :=
  (s.setReg (tdmReg p 0x01C) (s.port p).rxLive).setReg (tdmReg p 0x020) (s.port p).txLive

/-- The sequence ends: MASK_DONE sets, and a waiting target's sequence starts (R283, R284). -/
def State.maskEnd (s : State) (p : Nat) : State :=
  let next := (s.port p).next
  let s := (s.setPort p { s.port p with seq := none, next := none }).raise (0x10 + p) 8
  match next with
  | some m => s.maskStart p m
  | none => s

/-- The sequence ends when the last added slot has reached 1 (R283). -/
def State.maskCheck (s : State) (p : Nat) : State :=
  let x := s.port p
  match x.seq with
  | some q =>
    let len := q.len.getD 0
    if q.adding && (q.rx == 0 || decide (len ≤ q.rxStep)) && (q.tx == 0 || decide (len ≤ q.txStep)) then s.maskEnd p else s
  | none => s

/-- Every slot that the target removes has reached 0 (R283). On a port that is not aligned the transmit fade counts in the frame
last sent. -/
def Port.removedDone (x : Port) (q : MaskSeq) (len : Nat) : Bool :=
  let k := if !q.aligned && x.st == .running then min q.txStep x.lastTx.step else q.txStep
  (x.rxLive &&& ~~~q.rx == 0 || len ≤ q.rxStep) && (x.txLive &&& ~~~q.tx == 0 || len ≤ k)

/-- A port frame boundary of the sequence (R283). -/
def State.maskFrame (s : State) (p : Nat) : State :=
  let x := s.port p
  match x.seq with
  | none => s
  | some q =>
    if q.adding then s.setPort p { x with seq := some { q with txStep := q.txStep + 1 } }
    else
      let len := q.len.getD (s.tdmFadeLen p)
      if x.removedDone q len then
        let s' := s.setPort p { x with
          rxLive := q.rx, txLive := q.tx,
          seq := some { q with adding := true, rxStep := 0, txStep := 1, len := some (s.tdmFadeLen p),
                               rx := q.rx &&& ~~~x.rxLive, tx := q.tx &&& ~~~x.txLive } }
        if s.tdmFadeLen p = 0 ∨ (q.rx &&& ~~~x.rxLive = 0 ∧ q.tx &&& ~~~x.txLive = 0) then s'.maskEnd p else s'
      else s.setPort p { x with
        seq := some { q with len := some len, txStep := if q.aligned then q.txStep + 1 else q.txStep } }

/-- A tick of the sequence: the receive slots step (R283). -/
def State.maskTick (s : State) (p : Nat) : State :=
  let x := s.port p
  match x.seq with
  | none => s
  | some q =>
    (s.setPort p { x with
      seq := some { q with rxStep := q.rxStep + 1, len := some (q.len.getD (s.tdmFadeLen p)) } }).maskCheck p

/-- The gain of a slot in the sequence (R283): in the first phase `rx` and `tx` are the targets, in the second the slots
added. -/
def Port.maskGain (x : Port) (transmit : Bool) (k step : Nat) : Rat :=
  match x.seq with
  | none => 1
  | some q =>
    let len := q.len.getD 0
    let live := if transmit then x.txLive else x.rxLive
    let goal := if transmit then q.tx else q.rx
    let n := if transmit then (if q.adding || q.aligned then q.txStep else step) else q.rxStep
    if len = 0 then 1
    else if q.adding then (if bit goal k then (min n len : Nat) / (len : Nat) else 1)
    else if bit live k && !(bit goal k) then 1 - (min n len : Nat) / (len : Nat) else 1

/-! ## Transmit (R271, R274, R276, R279 to R281, R288) -/

/-- What the port takes to send in the frame that begins (R274, R281): the port and whether an underrun began. -/
def Port.take (x : Port) (aligned : Bool) : Port × Bool :=
  let x := if x.txUnder && 4 ≤ x.txGood then { x with txUnder := false, txGood := 0 } else x
  match x.txFifo with
  | [] =>
    if x.st = .running then ({ x with txUnder := true, txGood := 0 }, !x.txUnder) else (x, false)
  | f :: r =>
    if x.st ≠ .running ∧ !aligned then (x, false)
    else if x.txUnder && x.txGood == 0 && r.length + 1 < (if aligned then 1 else 2) then (x, false)
    else ({ x with txFifo := r, lastTx := f, txOver := false, txGood := if x.txUnder then x.txGood + 1 else 0 }, false)

/-- What the port drives in the frame that begins (R276, R278, R279, R288). -/
def State.tdmSend (s : State) (p : Nat) : State :=
  let x := s.port p
  let cfg := s.tdmCfg p
  let still := s.host.st == .quarantine && x.tx.gain == 0
  let quiet := s.host.st == .superseded || still
  let rest : Option Word := if quiet || bit cfg 10 then none else some 0
  let q := x.take (s.tdmAligned p)
  let up := q.1.st == .running && !q.1.txUnder && s.host.st == .normal
  let y : Port := { q.1 with tx := q.1.tx.move up (s.tdmFadeLen p), quiet := still }
  let value := fun k => if y.st = .starting ∨ y.st = .faulted ∧ y.tx.gain = 0 then (0 : Word)
    else narrow (y.lastTx.slots.getD k 0) (y.tx.gain * y.maskGain true k y.lastTx.step) (layoutWidth cfg)
  let s := s.setPort p y
  let s := if quiet then s.sdoOff p
    else s.setPort p { y with
      sdo := (List.range (layoutSlots cfg)).map fun k => if bit y.txLive k then some (value k) else rest, rest := rest }
  if q.2 then (s.raise (0x10 + p) 4).bump (tdmReg p 0x040) else s

/-- A frame of values delivered to the port's sinks at a tick (R274, R280, R281, R507). Nothing is written while SW13 is off
or the transmit FIFO is starved. -/
def State.tdmDeliver (s : State) (p : Nat) (vals : List Word) : State :=
  let x := s.port p
  if x.st = .disabled ∨ !(s.domain (tdmDomain p)) then s
  else
    let al := s.tdmAligned p
    let x : Port := match x.seq with
      | some q => if q.adding || q.aligned then x else
          { x with seq := some { q with len := some (q.len.getD (s.tdmFadeLen p)), txStep := q.txStep + 1 } }
      | none => x
    let f : PortFrame := ⟨vals, match x.seq with | some q => if q.adding then 0 else q.txStep | none => 0⟩
    let slip := x.slipTx
    let x := { x with slipTx := none }
    if !(s.domain 13) || s.txStarved p then s.setPort p x
    else if al then s.setPort p { x with txFifo := [f] }
    else if x.st ≠ .running then s.setPort p x
    else
      let b := 0x10 + p
      let n := x.txFifo.length
      if 8 ≤ n then
        let s' := s.setPort p { x with txOver := true }
        if x.txOver then s' else (s'.raise b 5).bump (tdmReg p 0x044)
      else if slip = some false ∨ (slip = none ∧ 5 ≤ n) then ((s.setPort p x).raise b 3).bump (tdmReg p 0x038)
      else if slip = some true ∨ n = 0 then
        ((s.setPort p { x with txFifo := x.txFifo ++ [f, f] }).raise b 3).bump (tdmReg p 0x03C)
      else s.setPort p { x with txFifo := x.txFifo ++ [f] }

/-! ## Receive (R271, R274, R275, R277, R279 to R281) -/

/-- A rate the meter reports for input `i`, in 1/16 Hz, once it has one (R277, R331). -/
def State.reported (s : State) (i : Nat) : Option Rat :=
  if s.rmClass i = 0 then none else some (fld (s.rmRate i) 21 0 : Nat)

/-- The rate of a timebase's frame source in 1/16 Hz, once reported (R277). -/
def State.sourceRate (s : State) (n : Nat) : Option Rat :=
  match s.tbKind n with
  | 1 => s.reported (s.tbIndex n)
  | 2 => s.reported (16 + s.tbIndex n)
  | 3 => if fld (s.tbCfg n) 31 16 = 0 then none else some (16 * (s.xclkHz : Rat) / fld (s.tbCfg n) 31 16)
  | _ => none

/-- The port's frame rate lies within 1 % of its timebase's source; none while either is not reported (R277). -/
def State.rateNear (s : State) (p : Nat) : Option Bool :=
  match s.reported (s.pinPair p), s.sourceRate (s.tdmTb p) with
  | some a, some b => some (decide (|a - b| * 100 ≤ b))
  | _, _ => none

/-- A tick of port `p`'s timebase: FIFO or frame to sources, receive gain, slot masks, high-pass filters
(R15, R278 to R283). -/
def State.tdmTick (s : State) (p : Nat) : State :=
  let zeros := fun (s : State) => s.each (List.range 32) fun s k => s.setSrc (32 * p + k) 0
  if !(s.domain (tdmDomain p)) || (s.port p).st == .disabled then zeros s
  else
    let s := s.tdmParity p
    let x := s.port p
    let al := s.tdmAligned p
    let slip := if x.st == .running then s.slipOf p else none
    let q := x.rxs.take al (x.st == .running) (s.rxStalled p) slip
    let s := (s.setPort p { x with
      rxs := q.1, rx := x.rx.move (x.st == .running && !q.1.under && !q.1.overrun) (s.tdmFadeLen p),
      slipTx := if al then none else slip }).noteRx (0x10 + p) 3 0x038 q.2
    let s := s.maskTick p
    let s := if slip.isSome then s.slipUsed p else s
    let y := s.port p
    let n := layoutSlots (s.tdmCfg p)
    s.each (List.range 32) fun s k =>
      if k < n ∧ bit y.rxLive k then
        s.portSource (32 * p + k) (s.pinPair p) (s.tdmTb p) (scale (y.rx.gain * y.maskGain false k 0) (y.rxs.held.getD k 0))
      else s.setSrc (32 * p + k) 0

/-- The count of stable frames toward RUNNING (R277, R278, R290). -/
def State.stableCount (s : State) (p : Nat) (stable : Bool) : State :=
  let x := s.port p
  let goal := if x.count = 0 then s.startCount p else x.countTo.getD (s.startCount p)
  if !stable then s.setPort p { x with count := 0, countTo := none }
  else if goal ≤ x.count + 1 then s.tdmRunning p
  else s.setPort p { x with count := x.count + 1, countTo := some goal }

/-- The bit of its frame at which slot `k` starts (R270). -/
def layoutStart (cfg : Word) (half k : Nat) : Nat :=
  if fld cfg 3 2 < 2 then fld cfg 7 6 + (if k = 0 then 0 else half) else fld cfg 7 6 + k * layoutWidth cfg

/-- The slots that port `p` has sampled in the frame that ends now, `bits` bit clocks after cycle `since`: `raw` from SDI, or under
loopback what it drove on SDO. Where the loopback began or ended within the frame, each bit is from where it was sampled (R510; log
entry 93). -/
def State.sampledBits (s : State) (p bits half since : Nat) (raw : List Word) : List Word :=
  let x := s.port p
  let cfg := s.tdmCfg p
  let w := layoutWidth cfg
  let back := fun k => (x.sdo.getD k none).getD (Config.undriven p k x.frameNo)
  let on := s.looped p
  let c := look 0 s.provoked.loopAt p
  let turn := if since < c ∧ c ≤ s.now then (c - since) * bits / (s.now - since) else 0
  if turn = 0 then (if on then (List.range x.sdo.length).map back else raw)
  else (List.range (max x.sdo.length raw.length)).map fun k =>
    let n := min w (turn - layoutStart cfg half k)
    let early := if on then raw.getD k 0 else back k
    let late := if on then back k else raw.getD k 0
    BitVec.ofNat 32 (early.toNat % 2 ^ w / 2 ^ (w - n) * 2 ^ (w - n) + late.toNat % 2 ^ (w - n))

/-- The end of a frame of `bits` bit clocks: it is judged, counted and stored (R270, R271, R277, R278, R281). -/
def State.frameDone (s : State) (p bits half : Nat) (raw : List Word) (since : Nat) : State :=
  let cfg := s.tdmCfg p
  let short := layoutShort cfg bits half
  let whole := s.now - since ≤ 2 * s.nominal (s.tdmTb p)
  let near := s.rateNear p
  let x := s.port p
  let stable := whole && !short && x.prevBits == some bits && near == some true
  let s := s.setReg (tdmReg p 0x034) (BitVec.ofNat 32 (min bits 2047))
  let s := s.setPort p { x with prevBits := if short || !whole then none else some bits }
  let raw := s.sampledBits p bits half since raw
  let q := x.rxs.store (s.tdmAligned p) (x.st == .running) (layoutWords cfg bits half raw)
  let s := (s.setPort p { s.port p with rxs := q.1 }).noteRx (0x10 + p) 3 0x038 q.2
  match (s.port p).st with
  | .running =>
    let s := if short then (s.raise (0x10 + p) 7).bump (tdmReg p 0x048) else s
    let n := if stable then 0 else (s.port p).unstable + 1
    let s := s.setPort p { s.port p with unstable := n }
    if near = some false ∨ 4 ≤ n then s.tdmHold p false else s
  | .starting => s.stableCount p stable
  | .hold => if (s.port p).tx.gain = 0 ∧ (s.port p).rx.gain = 0 then s.stableCount p stable else s
  | _ => s

/-- The stamp of a frame mark that begins a block (R285, R286). -/
def State.tdmStamp (s : State) (p : Nat) : State :=
  let x := s.port p
  let n := fld (s.reg (tdmReg p 0x02C)) 8 0
  if x.st ≠ .running then s
  else
    let s' := s.setPort p { x with frameNo := x.frameNo + 1 }
    if n = 0 ∨ x.frameNo % n ≠ 0 then s'
    else if 16 ≤ x.stamps.length then (s'.raise (0x10 + p) 10).bump (tdmReg p 0x054)
    else (s'.setPort p { s'.port p with
      stampAt := some s.now, stamps := x.stamps ++ [(BitVec.ofNat 64 s.sysCount, BitVec.ofNat 32 (x.frameNo / n))] }).raise (0x10 + p) 9

/-- TB0's tick falls in the cycle of a stamped frame mark: the stamp records the tick with the phase at 0 (R285, R341). -/
def State.stampTick (s : State) : State :=
  if s.ports.any fun c => c.2.stampAt == some (s.tb 0).lastTick then
    s.each (List.range 16) fun s p =>
      let x := s.port p
      match x.stampAt == some (s.tb 0).lastTick, x.stamps.reverse with
      | true, h :: r => s.setPort p { x with stamps := r.reverse ++ [(BitVec.ofNat 64 s.sysCount, h.2)] }
      | _, _ => s
  else s

/-- Zero frames of STOPPING: DISABLED after START_COUNT of them (R278). -/
def State.stopCount (s : State) (p : Nat) : State :=
  let x := s.port p
  if x.st = .stopping ∧ x.tx.gain = 0 then
    let goal := x.countTo.getD (s.startCount p)
    if goal ≤ x.count then s.tdmStopped p else s.setPort p { x with count := x.count + 1, countTo := some goal }
  else s

/-- With START_COUNT 0 and no count running the port runs at this mark, without stable frames to count (R278, R290). -/
def Port.runsNow (x : Port) : Bool :=
  x.count == 0 && (x.st == .starting || (x.st == .hold && x.tx.gain == 0 && x.rx.gain == 0))

/-- The frame that a mark begins: masks, stamp, STOPPING's count and the frame sent (R277, R278, R281 to R283, R285). -/
def State.frameBegins (s : State) (p : Nat) : State :=
  let s := s.setPort p { s.port p with lastMark := some s.now }
  let s := if s.startCount p = 0 && (s.port p).runsNow then s.tdmRunning p else s
  let s := ((s.maskFrame p).tdmStamp p).stopCount p
  if (s.port p).st = .disabled then s else (s.tdmSend p).maskCheck p

/-- TDM_FRAME_MARK: the mark ends the previous frame and begins the next (R277, R278, R281, R283, R285). -/
def execTdmFrameMark (p : Fin 16) (bits : Nat) (half : Nat) (slots : List Word) (t : Nat) (s : State) :
    Host.Outcome State Fault Refusal :=
  let s := s.upTo t
  .next (if !(s.domain (tdmDomain p)) || s.gated (if p.val < 8 then 10 else 11) || (s.port p).st == .disabled then s
    else
      let s := s.tdmParity p
      let s := match (s.port p).lastMark with
        | some m => s.frameDone p bits half slots m
        | none => s
      s.frameBegins p)

/-! ## Commands -/

/-- TDM_ENABLE: a host write of CTRL with EN set (R11, R278). -/
def execTdmEnable (p : Fin 16) (t : Nat) (s : State) : Host.Outcome State Fault Refusal :=
  let s := s.upTo t
  .next (s.hostActs (.tdmEnable p t) fun s =>
    if s.unitOn (tdmDomain p) then s.tdmEnable p else s.hostFault 0x02 (tdmReg p 0x014))

/-- TDM_DISABLE: a host write of CTRL with EN clear (R11, R278). -/
def execTdmDisable (p : Fin 16) (t : Nat) (s : State) : Host.Outcome State Fault Refusal :=
  let s := s.upTo t
  .next (s.hostActs (.tdmDisable p t) fun s =>
    if s.unitOn (tdmDomain p) then s.tdmDisable p else s.hostFault 0x02 (tdmReg p 0x014))

/-- A write of RX_MASK or TX_MASK: staged only, or staged and live while DISABLED or FAULTED (R282). -/
def State.writeMask (s : State) (p : Nat) (m : MaskName) (w : Word) : State :=
  let s := s.setReg (tdmReg p (match m with | .rx => 0x01C | .tx => 0x020)) w
  let x := s.port p
  if x.st = .disabled ∨ x.st = .faulted then
    s.setPort p (match m with | .rx => { x with rxLive := w } | .tx => { x with txLive := w })
  else s

/-- MASK_WRITE (R11, R282). -/
def execMaskWrite (p : Fin 16) (m : MaskName) (w : Word) (t : Nat) (s : State) : Host.Outcome State Fault Refusal :=
  let s := s.upTo t
  .next (s.hostActs (.maskWrite p m w t) fun s =>
    if s.unitOn (tdmDomain p) then s.writeMask p m w
    else s.hostFault 0x02 (tdmReg p (match m with | .rx => 0x01C | .tx => 0x020)))

/-- No frame marks arrive at a port that is not RUNNING: no frames are sent, and a transmit fade that is due takes the gain to 0 at
once (R278). -/
def State.tdmNoMarks (s : State) (p : Nat) : State :=
  let x := s.port p
  let s := s.setPort p { x with tx := Fade.zero, prevBits := none, lastMark := none }
  s.tdmQuiet p

/-- TDM_MARK_TIMEOUT: no frame mark for two nominal frame periods. A RUNNING port enters HOLD (R278). -/
def execTdmMarkTimeout (p : Fin 16) (t : Nat) (s : State) : Host.Outcome State Fault Refusal :=
  let s := s.upTo t
  .next (if (s.port p).lastMark.all (fun m => m + 2 * s.nominal (s.tdmTb p) ≤ s.now) then
      match (s.port p).st with
      | .running => (s.tdmHold p true).tdmNoMarks p
      | .hold | .stopping | .faulted => s.tdmNoMarks p
      | .disabled | .starting => s
    else s)

/-- TDM_STOP_TIMEOUT: no frame mark for 10 ms in STOPPING (R278). -/
def execTdmStopTimeout (p : Fin 16) (t : Nat) (s : State) : Host.Outcome State Fault Refusal :=
  let s := s.upTo t
  .next (if (s.port p).st = .stopping then s.tdmStopped p else s)

/-- A read of STAMP_LO: the oldest entry is latched and removed (R286). -/
def State.readStamp (s : State) (by_ : Requester) (p : Nat) : State :=
  let x := s.port p
  match x.stamps with
  | [] => (((s.latch by_ (tdmReg p 0x05C) 0).latch by_ (tdmReg p 0x060) 0).answer 0)
  | e :: r =>
    (((s.setPort p { x with stamps := r }).latch by_ (tdmReg p 0x05C) (e.1.extractLsb' 32 32)).latch by_
      (tdmReg p 0x060) e.2).answer (e.1.extractLsb' 0 32)

/-- STAMP_READ (R11, R286). -/
def execStampRead (by_ : Requester) (p : Fin 16) (t : Nat) (s : State) : Host.Outcome State Fault Refusal :=
  let s := s.upTo t
  .next (s.actsBy by_ (.stampRead by_ p t) fun s =>
    if s.unitOn (tdmDomain p) then s.readStamp by_ p else s.domainOff by_ (tdmReg p 0x058))

end Sys2Proof.Machine
end

