-- ==== Sys2Proof/Machine/Biphase.lean ====
section
/-!
DEFINITION. Biphase receivers (R293 to R305, R313), and the commands to receivers and transmitters. The transmitters are in
Sys2Proof/Machine/BiphaseTx.lean.
-/

namespace Sys2Proof.Machine

/-- The register at offset `o` of receiver `n`. -/
def rxReg (n o : Nat) : Nat := blk (0x20 + n) o

/-! ## Receivers (R295 to R305) -/

/-- The receiver's timebase (R313). -/
def State.rxTb (s : State) (n : Nat) : Nat := fld (s.reg (rxReg n 0x010)) 1 0

/-- The receiver is aligned: the frame source of its own timebase (R297). -/
def State.rxAligned (s : State) (n : Nat) : Bool := s.tbKind (s.rxTb n) == 2 && s.tbIndex (s.rxTb n) == n

/-- FADE_LEN (R313, R464). -/
def State.rxFadeLen (s : State) (n : Nat) : Nat := s.fadeCap (s.rxTb n) (fld (s.reg (rxReg n 0x018)) 23 16)

/-- LOCK_COUNT (R313). -/
def State.lockCount (s : State) (n : Nat) : Nat := fld (s.reg (rxReg n 0x018)) 9 0

/-- Both channels' gains are 0. -/
def BpRx.quiet (x : BpRx) : Bool := x.a.fade.gain == 0 && x.b.fade.gain == 0

/-- The receiver enters SEARCHING (R296). -/
def State.rxSearching (s : State) (n : Nat) : State :=
  if s.domain 16 then s.setRx n { BpRx.reset with st := .searching } else s

/-- The receiver enters DISABLED; with EN set it goes on to SEARCHING (R296). -/
def State.rxDisabled (s : State) (n : Nat) (flag : Bool) : State :=
  let s := (s.discDrop (4 + n)).setRx n BpRx.reset
  let s := if flag then s.raise (0x20 + n) 2 else s
  if bit (s.reg (rxReg n 0x014)) 0 && !s.portsHeld then s.rxSearching n else s

/-- The receiver fades toward DISABLED, which it enters once both gains are 0 (R296). -/
def State.rxLeave (s : State) (n : Nat) : State :=
  let x := s.rx n
  match x.st with
  | .disabled => s
  | .faulted => s.rxDisabled n false
  | _ => if x.quiet then s.rxDisabled n true else s.setRx n { x with leaving := true }

/-- A full image load stops the receiver; one that is FAULTED stays so (R59, R296). -/
def State.rxFullStop (s : State) (n : Nat) : State := if (s.rx n).st = .faulted then s else s.rxLeave n

/-- CTRL written with EN (R296). -/
def State.rxEnable (s : State) (n : Nat) : State :=
  let s := s.setReg (rxReg n 0x014) 1
  if (s.rx n).st = .disabled then s.rxSearching n else s

/-- CTRL written without EN (R296). -/
def State.rxDisable (s : State) (n : Nat) : State := (s.setReg (rxReg n 0x014) 0).rxLeave n

/-- Entry into HOLD (R296). -/
def State.rxHold (s : State) (n : Nat) : State :=
  let s := s.discDrop (4 + n)
  let x := s.rx n
  ((s.setRx n { x with st := .hold, count := 0, countTo := none, badRun := 0, rxs := x.rxs.stop }).raise (0x20 + n) 3).bump
    (rxReg n 0x040)

/-- Entry into RUNNING: the FIFO settles and both channels are muted (R296, R301). -/
def State.rxRunning (s : State) (n : Nat) : State :=
  let x := s.rx n
  (s.setRx n { x with
    st := .running, count := 0, countTo := none, badRun := 0, blockNo := 0, rxs := x.rxs.start (s.rxAligned n),
    a := { x.a with isOpen := false, nonpcm := false }, b := { x.b with isOpen := false, nonpcm := false } }).raise (0x20 + n) 1

/-- The audio field of a subframe as a Q1.31 value (R294). -/
def rxAudio (aux : Bool) (w : BitVec 24) : Word :=
  if aux then (w.setWidth 32 &&& 0xFFFFF0) <<< 8 else w.setWidth 32 <<< 8

/-- The parity of a subframe over slots 4 to 31 is even (R293). -/
def evenParity (f : Subframe) : Bool :=
  slotParity f.audio f.v f.u f.c == f.p

/-- Eight bits in transmission order as a byte (R302). -/
def byteOfBits (bits : List Bool) : Byte :=
  (List.range 8).foldl (fun b i => if bits.getD i false then b ||| (1 <<< i) else b) 0

/-- 192 bits in transmission order as six words (R302). -/
def wordsOfBits (bits : List Bool) : List Word :=
  (List.range 6).map fun k =>
    (List.range 32).foldl (fun w i => if bits.getD (32 * k + i) false then w ||| (1 <<< i) else w) 0

/-- DECODE_A or DECODE_B of a stored channel status block (R305). -/
def decodeCs (bits : List Bool) : Word :=
  let f := fun byte lo n => ((List.range n).map fun i => if bits.getD (8 * byte + lo + i) false then 2 ^ i else 0).sum
  let pro := bits.getD 0 false
  let v := if pro then f 2 3 3 * 2 ^ 20 + f 0 6 2 * 2 ^ 16 + f 0 2 3 * 2 ^ 13
    else f 4 0 4 * 2 ^ 20 + f 3 0 4 * 2 ^ 16 + f 0 3 3 * 2 ^ 13
  BitVec.ofNat 32 (v + f 0 1 1 * 2 + f 0 0 1)

/-- The end of a block for one channel (R301 to R303, R305): `cs` and `user` are the offsets of its words, `dec` of its
DECODE word, `stale` its STALE bit. -/
def State.channelBlock (s : State) (n cs user dec stale : Nat) (good : Bool) (c : RxChannel) : State × RxChannel :=
  let b := 0x20 + n
  let pro := c.cBits.getD 0 false
  let crcBad := pro && byteOfBits (c.cBits.drop 184) != crcc c.cBits
  let store := good && (!crcBad || bit (s.reg (rxReg n 0x010)) 5)
  let s := if crcBad then (s.raise b 8).bump (rxReg n 0x02C) else s
  let s := s.setReg (rxReg n 0x050) (setBit (s.reg (rxReg n 0x050)) stale (!store))
  let s := if good then s.setWords b user (wordsOfBits c.uBits) else s
  if store then
    let words := wordsOfBits c.cBits
    let s := if s.sixWords b cs = words then s else s.raise b 12
    let s := (s.setWords b cs words).setReg (rxReg n dec) (decodeCs c.cBits)
    let pcm := !(c.cBits.getD 1 false)
    (s, { c with pro := pro, isOpen := c.isOpen || pcm, nonpcm := c.nonpcm && !pcm })
  else (s, c)

/-- CS_BLOCK: the end of frame 191 of a block while RUNNING (R302, R304). -/
def State.rxBlock (s : State) (n : Nat) : State :=
  let x := s.rx n
  let b := 0x20 + n
  let no := BitVec.ofNat 32 (x.blockNo * 4)
  let s := (s.setReg (rxReg n 0x050) (no ||| (s.reg (rxReg n 0x050) &&& 3))).setReg (rxReg n 0x090) no
  let p := s.channelBlock n 0x054 0x094 0x044 1 x.blockGood x.a
  let q := p.1.channelBlock n 0x06C 0x0AC 0x048 0 x.blockGood x.b
  let s := q.1.setRx n { x with a := p.2, b := q.2, blockNo := x.blockNo + 1 }
  (s.raise b 10).raise b 11

/-- One channel takes its C and U bits; NONPCM is seen in frame 1 of a block on an open channel (R301). The result says whether
the channel is to be cut at this frame. -/
def RxChannel.bits (c : RxChannel) (place : Option Nat) (f : Subframe) : RxChannel × Bool :=
  let fresh := place == some 0
  let cut := c.isOpen && place == some 1 && f.c
  ({ c with cBits := (if fresh then [] else c.cBits) ++ [f.c], uBits := (if fresh then [] else c.uBits) ++ [f.u],
            nonpcm := c.nonpcm || cut }, cut)

/-- Whether a received frame is good, and its place in its block (R295). -/
def BpRx.judge (x : BpRx) (f : BiphaseFrame) : Bool × Option Nat :=
  let near := x.prevPeriod.any fun p => (f.period - p) * 100 ≤ p ∧ (p - f.period) * 100 ≤ p
  let zOk := match x.place with | some k => f.z == (k == 191) | none => true
  let place := if f.z then some 0 else match x.place with
    | some k => if k = 191 then none else some (k + 1)
    | none => none
  (f.preamblesOk && !f.violation && near && zOk, place)

/-- The frame receiver `n` decodes: that on BPIn, or under loopback the one its transmitter sends (R510). The whole of a frame in which the
loopback began or ended comes from where its end comes from (DESIGN CHOICE, log entry 93). -/
def State.rxFrame (s : State) (n : Nat) (f : BiphaseFrame) : Option BiphaseFrame :=
  if s.looped (16 + n) then
    (s.tx n).sent.map fun q =>
      ⟨q.z, true, false, f.period, ⟨q.audioA.setWidth 24, q.v, q.uA, q.cA, q.pA⟩, ⟨q.audioB.setWidth 24, q.v, q.uB, q.cB, q.pB⟩⟩
  else some f

/-- Receiver `n`'s rate is one it locks to, 31 kHz to 194 kHz (R293, R299): the rate that the meter reports, or before its first
report that of the frame just received, `period` XCLK cycles long (log entry 42). -/
def State.lockable (s : State) (n period : Nat) : Bool :=
  match s.reported (16 + n) with
  | some r => decide (16 * 31000 ≤ r ∧ r ≤ 16 * 194000)
  | none => 31000 * period ≤ s.xclkHz && s.xclkHz ≤ 194000 * period

/-- The states of a receiver by a frame just judged; a rate outside the lock range keeps it from RUNNING (R296, R299). -/
def State.rxAdvance (s : State) (n : Nat) (good : Bool) (period : Nat) : State :=
  let x := s.rx n
  let counts := x.st = .searching ∨ (x.st = .hold ∧ x.quiet)
  if x.st = .running then
    let run := if good then 0 else x.badRun + 1
    let s := s.setRx n { x with badRun := run }
    if run ≥ 4 then s.rxHold n else s
  else if counts ∧ !x.leaving then
    if !good then s.setRx n { x with count := 0, countTo := none }
    else
      let goal := if x.count = 0 then s.lockCount n else x.countTo.getD (s.lockCount n)
      if goal ≤ x.count + 1 ∧ s.lockable n period then s.rxRunning n
      else s.setRx n { x with count := x.count + 1, countTo := some goal }
  else s

/-- What a received frame does (R294 to R303). -/
def State.rxTakeFrame (s : State) (n : Nat) (f : BiphaseFrame) : State :=
  let x := s.rx n
  let b := 0x20 + n
  let j := x.judge f
  let s := if j.1 then s else s.bump (rxReg n 0x028)
  let s := s.each [f.a, f.b] fun s g => if evenParity g then s else (s.raise b 7).bump (rxReg n 0x020)
  let s := if f.a.v || f.b.v then s.bump (rxReg n 0x024) else s
  let a := x.a.bits j.2 f.a
  let c := x.b.bits j.2 f.b
  let run := x.st == .running
  let s := if a.2 || c.2 then s.raise b 9 else s
  let aux := bit (s.reg (rxReg n 0x010)) 4
  let al := s.rxAligned n
  let unread := if al then ((x.rxs.fresh.getD []).getD 2 0) else 0
  let cut : Word := (if a.2 then 1 else 0) + (if c.2 then 2 else 0) ||| x.lost ||| unread
  let q := x.rxs.store al run [rxAudio aux f.a.audio, rxAudio aux f.b.audio, cut]
  let s := s.setRx n { x with
    lost := if !al && run && 8 ≤ x.rxs.fifo.length then cut else 0, prevPeriod := some f.period, place := j.2, a := a.1, b := c.1, rxs := q.1,
    blockGood := j.1 && (j.2 == some 0 || x.blockGood) }
  let s := s.noteRx b 4 0x030 q.2
  let s := if f.z && run then s.discBlock n else s
  let s := if run && j.2 == some 191 then s.rxBlock n else s
  s.rxAdvance n j.1 f.period

/-- BIPHASE_FRAME: a frame has been received (R293 to R305). -/
def execBiphaseFrame (n : Fin 4) (f : BiphaseFrame) (t : Nat) (s : State) : Host.Outcome State Fault Refusal :=
  let s := s.upTo t
  .next (if !(s.domain 16) || s.gated 12 || (s.rx n).st == .disabled || (s.rx n).st == .faulted then s
    else match s.rxFrame n f with
      | some f => s.rxTakeFrame n f
      | none => s)

/-- PREAMBLE_TIMEOUT: no preamble for two frame periods of a RUNNING receiver (R296). -/
def execPreambleTimeout (n : Fin 4) (t : Nat) (s : State) : Host.Outcome State Fault Refusal :=
  let s := s.upTo t
  .next (if (s.rx n).st = .running then
      let s := s.setRx n { s.rx n with prevPeriod := none, place := none }
      s.rxHold n
    else s)

/-- One tick of a channel: a cut frame takes its gain to 0 at once, otherwise it moves (R296, R301). -/
def RxChannel.tick (c : RxChannel) (cut up : Bool) (len : Nat) : RxChannel :=
  if cut then { c with isOpen := false, fade := ⟨0, false, 0⟩ } else { c with fade := c.fade.move (up && c.isOpen) len }

/-- A tick of receiver `n`'s timebase (R15, R296, R297, R301). -/
def State.rxTick (s : State) (n : Nat) : State :=
  let zeros := fun (s : State) => (s.setSrc (512 + 2 * n) 0).setSrc (513 + 2 * n) 0
  if !(s.domain 16) || (s.rx n).st == .disabled then zeros s
  else
    let s := s.rxParity n
    let x := s.rx n
    let run := x.st == .running
    let slip := if run then s.slipOf (16 + n) else none
    let q := x.rxs.take (s.rxAligned n) run (s.rxStalled (16 + n)) slip
    let gone := x.rxs.fifo.take (x.rxs.fifo.length - q.1.fifo.length)
    let cut := gone.foldl (fun w f => w ||| f.getD 2 0) (q.1.held.getD 2 0)
    let up := run && !x.leaving && !q.1.under && !q.1.overrun
    let len := s.rxFadeLen n
    let y : BpRx := { x with
      rxs := { q.1 with held := q.1.held.take 2 }, a := x.a.tick (bit cut 0) up len, b := x.b.tick (bit cut 1) up len }
    let s := (s.setRx n y).noteRx (0x20 + n) 4 0x030 q.2
    let s := if slip.isSome then s.slipUsed (16 + n) else s
    let s := s.portSource (512 + 2 * n) (16 + n) (s.rxTb n) (scale y.a.fade.gain (y.rxs.held.getD 0 0))
    let s := s.portSource (513 + 2 * n) (16 + n) (s.rxTb n) (scale y.b.fade.gain (y.rxs.held.getD 1 0))
    if y.leaving && y.quiet then zeros (s.rxDisabled n true) else s

/-! ## Commands -/

/-- BPRX_ENABLE: a host write of CTRL with EN set (R11, R296). -/
def execBprxEnable (n : Fin 4) (t : Nat) (s : State) : Host.Outcome State Fault Refusal :=
  let s := s.upTo t
  .next (s.hostActs (.bprxEnable n t) fun s =>
    if s.unitOn 16 then s.rxEnable n else s.hostFault 0x02 (rxReg n 0x014))

/-- BPRX_DISABLE: a host write of CTRL with EN clear (R11, R296). -/
def execBprxDisable (n : Fin 4) (t : Nat) (s : State) : Host.Outcome State Fault Refusal :=
  let s := s.upTo t
  .next (s.hostActs (.bprxDisable n t) fun s =>
    if s.unitOn 16 then s.rxDisable n else s.hostFault 0x02 (rxReg n 0x014))

/-- BPTX_ENABLE: a host write of CTRL with EN set (R11, R308). -/
def execBptxEnable (n : Fin 4) (t : Nat) (s : State) : Host.Outcome State Fault Refusal :=
  let s := s.upTo t
  .next (s.hostActs (.bptxEnable n t) fun s =>
    if s.unitOn 16 then s.txEnable n else s.hostFault 0x02 (txReg n 0x014))

/-- BPTX_DISABLE: a host write of CTRL with EN clear (R11, R308). -/
def execBptxDisable (n : Fin 4) (t : Nat) (s : State) : Host.Outcome State Fault Refusal :=
  let s := s.upTo t
  .next (s.hostActs (.bptxDisable n t) fun s =>
    if s.unitOn 16 then s.txDisable n else s.hostFault 0x02 (txReg n 0x014))

/-- SWAP: CMD.SWAP (R11, R309). -/
def execSwap (n : Fin 4) (t : Nat) (s : State) : Host.Outcome State Fault Refusal :=
  let s := s.upTo t
  .next (s.hostActs (.swap n t) fun s =>
    if s.unitOn 16 then s.txArm n else s.hostFault 0x02 (txReg n 0x020))

end Sys2Proof.Machine
end

