-- ==== Sys2Proof/Machine/EngineCtrl.lean ====
section
/-!
DEFINITION. The CTRL slot's operations that stay within the engine and its Set, and a slot that executes as no operation
(R91, R92, R109, R127 to R129, R132 to R136, R141, R157, R158).
-/

namespace Sys2Proof.Machine

/-- A word on its way to Dn from the CTRL slot, one cycle later (R137). -/
def State.ctrlLater (s : State) (e n : Nat) (v : Word) : State :=
  s.setEng e ((s.eng e).later 1 3 (.d n) (v.setWidth 72))

/-- OUT's effect (R81). -/
def State.doOut (s : State) (e : Nat) (w : BitVec 64) : State :=
  let x := s.eng e
  s.setEng e { x with outw := put 0 x.outw (wf w 11 8) (x.dreg (wf w 15 12)) }

/-- FINAL's effect: the OUT it may carry, and the end of the sub-Round with this word (R76, R77, R127). -/
def State.doFinal (s : State) (e : Nat) (w : BitVec 64) : State :=
  let s := if wf w 7 7 = 1 then s.doOut e w else s
  s.setEng e { s.eng e with finalSeen := true }

/-- MOVF's effect (R129, R174). -/
def State.doMovf (s : State) (e : Nat) (w : BitVec 64) : State :=
  let x := s.eng e
  let v := x.dreg (wf w 11 8)
  let f := wf w 15 14
  s.setEng e (match wf w 13 12 with
    | 0 => { x with fDrawer := put 0 x.fDrawer f (v &&& 0x800000FF) }
    | 1 => { x with fTap := put 0 x.fTap f (v &&& 0x7FFFFF) }
    | _ => { x with fFrac := put 0 x.fFrac f (v &&& 0xFFFF) })

/-- What MVI moves (R128). -/
def State.mviValue (s : State) (e : Nat) (w : BitVec 64) : Word :=
  let x := s.eng e
  match wf w 11 10 with
  | 0 => look 0 x.inp (wf w 9 6)
  | 1 => look 0 x.outw (wf w 9 6)
  | _ => BitVec.ofNat 32 x.ridx

/-- SEL's condition (R134). -/
def State.selCond (s : State) (e : Nat) (c : Nat) : Bool :=
  let x := s.eng e
  match c with
  | 0x0 => x.lt
  | 0x1 => !x.lt
  | 0x2 => x.eq
  | 0x3 => !x.eq
  | 0x4 => !x.lt && !x.eq
  | 0x5 => x.lt || x.eq
  | 0x6 => x.ridx == 0
  | 0x7 => x.ridx != 0
  | 0x8 => x.ridx + 1 == s.engK e
  | 0x9 => x.ridx + 1 != s.engK e
  | 0xA => (s.reg (engReg e 0x030)).toNat % 2 == 1
  | _ => (s.reg (engReg e 0x030)).toNat % 2 == 0

/-- SEL's effect (R135). -/
def State.doSel (s : State) (e : Nat) (w : BitVec 64) : State :=
  s.ctrlLater e (wf w 11 8) (if s.selCond e (wf w 15 12) then (s.eng e).dreg (wf w 7 4) else (s.eng e).dreg (wf w 3 0))

/-- GLP: the progress of glide slot n (R136, R224). -/
def State.glpValue (s : State) (e n : Nat) : Word :=
  match (s.eng e).slotRamp n with
  | some r => rampProgress r.len r.j
  | none => 0x7FFFFFFF

/-- The register of the Set of engine `e` at offset `o` (R104). -/
def setReg4 (e o : Nat) : Nat := blk (0x60 + e / 4) o

/-- SET.HANDOFF lets engine `e` read position `p` (R105). -/
def State.handoffDeclared (s : State) (e p : Nat) : Bool := bit (s.reg (setReg4 e 0x014)) (4 * (e % 4) + p)

/-- The writer's publication carries the tag of the present tick (R92). -/
def State.handoffFresh (s : State) (e p : Nat) : Bool :=
  (s.eng (e / 4 * 4 + p)).pubTag == some (s.tb (s.engTb e)).tickNo

/-- The value a HIN read of position `p`, channel `c` returns (R91, R92). -/
def State.hinValue (s : State) (e p c : Nat) : Word :=
  let writer := e / 4 * 4 + p
  let x := s.eng writer
  if !(s.handoffDeclared e p) then 0
  else if x.st ≠ .running ∨ s.holding (s.engTb writer) ∨ s.handoffFresh e p then look 0 x.pub c
  else look 0 s.router.src (584 + 16 * writer + c)

/-- The read counts as a late handoff (R91, R92). -/
def State.hinLate (s : State) (e p : Nat) : Bool :=
  let writer := e / 4 * 4 + p
  !(s.handoffDeclared e p)
    || ((s.eng writer).st == .running && !(s.holding (s.engTb writer)) && !(s.handoffFresh e p))

/-- HIN's effect (R91, R92). -/
def State.doHin (s : State) (e : Nat) (w : BitVec 64) : State :=
  let p := wf w 11 10
  let v := s.hinValue e p (wf w 9 6)
  let s := if s.hinLate e p then
      (((s.engRaise e 5).raise (0x60 + e / 4) 1).bump (engReg e 0x044)).bump (setReg4 e 0x01C)
    else s
  s.ctrlLater e (wf w 15 12) v

/-- A slot that executes as no operation sets CTRL_FAULT for every cause of R141, and CTRL_PARITY when the word failed its
parity check (R27). -/
def State.nopFault (s : State) (e : Nat) (slot : SlotName) : State :=
  let s := if s.engWordBad e then s.engRaise e 0 else s
  if s.wordFault e || !(slotLegal (s.engWord e) slot) then s.engRaise e 6 else s

/-- NOP in the named slot: the slot holds NOP, or a reserved encoding, or its whole word executes as no operation
(R109, R141). -/
def execNop (e : Fin 32) (slot : SlotName) (s : State) : Host.Outcome State Fault Refusal :=
  .next (if s.ready e slot && (s.wordFault e || !(slotLegal (s.engWord e) slot) || slotOp (s.engWord e) slot == 0)
    then (s.nopFault e slot).slotDone e [slot] else s)

/-- REP: the block repeat begins with the next word (R132, R157, R158). -/
def execRep (e : Fin 32) (s : State) : Host.Outcome State Fault Refusal :=
  .next (if s.issues e .ctrl 1 then
    (s.setEng e { s.eng e with repeatTo := some (repCount (s.engWord e), repEnd (s.engWord e)) }).slotDone e [.arith, .ctrl]
    else s)

/-- FINAL: the sub-Round ends with this word (R76, R77). -/
def execFinal (e : Fin 32) (s : State) : Host.Outcome State Fault Refusal :=
  .next (s.runSlot e .ctrl 2 fun w s => s.doFinal e w)

/-- MOVF: a far descriptor part ← Dx (R129, R174). -/
def execMovf (e : Fin 32) (s : State) : Host.Outcome State Fault Refusal :=
  .next (s.runSlot e .ctrl 5 fun w s => s.doMovf e w)

/-- MOVG: Dz ← Gn (R127). -/
def execMovg (e : Fin 32) (s : State) : Host.Outcome State Fault Refusal :=
  .next (s.runSlot e .ctrl 6 fun w s => s.ctrlLater e (wf w 15 12) (look 0 (s.eng e).g (wf w 11 9)))

/-- MVI: Dz ← INc, working OUTc or RIDX (R128). -/
def execMvi (e : Fin 32) (s : State) : Host.Outcome State Fault Refusal :=
  .next (s.runSlot e .ctrl 7 fun w s => s.ctrlLater e (wf w 15 12) (s.mviValue e w))

/-- OUT: working OUTc ← Dx (R81). -/
def execOut (e : Fin 32) (s : State) : Host.Outcome State Fault Refusal :=
  .next (s.runSlot e .ctrl 8 fun w s => s.doOut e w)

/-- HIN: Dz ← handoff read (R91, R92). -/
def execHin (e : Fin 32) (s : State) : Host.Outcome State Fault Refusal :=
  .next (s.runSlot e .ctrl 9 fun w s => s.doHin e w)

/-- SEL: Dz ← COND ? Dx : Dy (R134, R135). -/
def execSel (e : Fin 32) (s : State) : Host.Outcome State Fault Refusal :=
  .next (s.runSlot e .ctrl 0xA fun w s => s.doSel e w)

/-- LDI: Dz ← IMM sign-extended (R127). -/
def execLdi (e : Fin 32) (s : State) : Host.Outcome State Fault Refusal :=
  .next (s.runSlot e .ctrl 0xB fun w s => s.ctrlLater e (wf w 15 12) ((BitVec.ofNat 12 (wf w 11 0)).signExtend 32))

/-- LDIH: Dz ← IMM × 2^20 (R127). -/
def execLdih (e : Fin 32) (s : State) : Host.Outcome State Fault Refusal :=
  .next (s.runSlot e .ctrl 0xC fun w s => s.ctrlLater e (wf w 15 12) (BitVec.ofNat 32 (wf w 11 0 * 2 ^ 20)))

/-- GLP: Dz ← glide progress (R136). -/
def execGlp (e : Fin 32) (s : State) : Host.Outcome State Fault Refusal :=
  .next (s.runSlot e .ctrl 0xD fun w s => s.ctrlLater e (wf w 15 12) (s.glpValue e (wf w 11 6)))

end Sys2Proof.Machine
end

