-- ==== Sys2Proof/Machine/Cross.lean ====
section
/-!
DEFINITION. Crossings between units of which one was reset: the side that was not reset holds and fades what it had, waits for
the new epoch, and ramps back (R478, R479, R503).

Crossings are numbered by what the absent side feeds: 0 to 31 the sources of engine e, 32 to 35 the engine sinks of TB0 to TB3,
36 to 39 the sinks of a biphase transmitter, 40 to 55 the sources of TDM port p, 60 to 63 those of a biphase receiver, 70 the host
bridge's accesses to the core, 80 to 95 the sinks of TDM port p.
-/

namespace Sys2Proof.Machine

/-- The state with the control core replaced. -/
def State.setCore (s : State) (c : Core) : State := { s with core := c }

/-- The state with crossing `k` replaced. -/
def State.setCross (s : State) (k : Nat) (x : Crossing) : State :=
  s.setCore { s.core with crossings := put Crossing.reset s.core.crossings k x }

/-- The side whose reset makes a crossing absent, by its bit of CROSS_RESET and CROSS_PENDING (R503). -/
def crossBit (k : Nat) : Nat :=
  if k < 32 then k / 4 else if k < 40 ∨ 80 ≤ k then 8 else if k < 48 then 9 else if k < 60 then 10 else if k < 70 then 11 else 12

/-- CROSS_PENDING (R501, R503). -/
def State.crossPending (s : State) : Word :=
  s.core.crossings.foldl (fun w c => if c.2.active then setBit w (crossBit c.1) true else w) 0

/-- What the crossing gives for a value `v` that arrives under number `i`. -/
def Crossing.value (x : Crossing) (i : Nat) (v : Word) : Word := scale x.fade.gain (if x.waiting then look 0 x.held i else v)

/-- The reset epoch of the side with bit `b` (R478). -/
def State.epoch (s : State) (b : Nat) : BitVec 4 := look 0 s.core.epochs b

/-- The side with bit `b` is reset: its epoch increments, and CROSS_RESET and its event say so (R478). -/
def State.sideReset (s : State) (b : Nat) : State :=
  let s := s.setCore { s.core with epochs := put 0 s.core.epochs b (s.epoch b + 1) }
  (s.deviceSet (blk 0x06 0x030) b).raise 0x06 4

/-- Crossing `k` waits for the present epoch of its side: what was not reset holds the values `l` that it has, by their numbers, and
fades them over `len` ticks. A second reset restarts the wait (R478, R479). -/
def State.crossReset (s : State) (k : Nat) (l : Sparse Word) (len : Nat := 32) : State :=
  let x := s.cross k
  let held := if x.waiting then x.held else l
  let fade := if x.waiting then x.fade else ⟨1, false, stepOf len⟩
  s.setCross k { epoch := s.epoch (crossBit k), waiting := true, good := 0, fade := fade, held := held }

/-- One tick of a crossing: `good` when it delivers a good value of the new epoch. At the fourth in a row it leaves what it held and
ramps from 0 over `len` ticks (R479; log entry 95). -/
def Crossing.step (x : Crossing) (good : Bool) (len : Nat) : Crossing :=
  if !x.waiting then { x with fade := x.fade.move true len }
  else
    let n := if good then x.good + 1 else 0
    if 4 ≤ n then { x with waiting := false, good := 0, fade := ⟨0, true, stepOf len⟩, held := [] }
    else { x with good := n, fade := x.fade.next }

/-- The values of a table under the numbers from `lo` on, `n` of them. -/
def valuesFrom (l : Sparse Word) (lo n : Nat) : Sparse Word := l.filter fun c => lo ≤ c.1 && c.1 < lo + n

/-- CROSS_RECOVERY for the sources from `lo` on, `n` of them, behind crossing `k`. -/
def State.crossSources (s : State) (k lo n : Nat) (good : Bool) (len : Nat) : State :=
  if !((s.cross k).active) then s
  else
    let x := (s.cross k).step good len
    (s.setCross k x).each ((List.range n).map (lo + ·)) fun s i => s.setSrc i (x.value i (look 0 s.router.src i))

/-- CROSS_RECOVERY of the sources of timebase `n` at its tick: the router is the side that waits, and ramps over 32 ticks (R479). -/
def State.crossTick (s : State) (n : Nat) : State :=
  s.each (s.core.crossings.map (·.1)) fun s k =>
    if k < 32 then
      if s.engTb k = n then
        s.crossSources k (584 + 16 * k) 16 ((s.eng k).st == .running && (s.eng k).pubTag.isSome) 32
      else s
    else if 40 ≤ k ∧ k < 56 then
      let x := s.port (k - 40)
      if s.tdmTb (k - 40) = n then
        s.crossSources k (32 * (k - 40)) 32 (x.st == .running && !x.rxs.under && !x.rxs.overrun) 32
      else s
    else if 60 ≤ k ∧ k < 64 then
      if s.rxTb (k - 60) = n then
        s.crossSources k (512 + 2 * (k - 60)) 2 ((s.rx (k - 60)).st == .running) 32
      else s
    else s

/-- Sinks of timebase `n` behind crossing `k` from the router, once delivered; the crossing ramps back over `len` ticks (R478,
R479). -/
def State.crossSinks (s : State) (k len : Nat) (sinks : List Nat) : State :=
  if !((s.cross k).active) then s
  else
    let x := (s.cross k).step (s.domain 13) len
    (s.setCross k x).each sinks fun s i =>
      s.setRouter { s.router with sink := put 0 s.router.sink i (x.value i (look 0 s.router.sink i)) }

end Sys2Proof.Machine
end

