-- ==== Sys2Proof/Machine/Delivery.lean ====
section
/-!
DEFINITION. The delivery of sinks at cycle 32 of a tick: patches, mixes, crossfades, mutes, zero-cross waits, and the values
handed to ports, transmitters and streams (R15, R229, R232, R233, R251 to R255).
-/

namespace Sys2Proof.Machine

/-- The value a patch entry delivers to a sink of timebase `tb` (R232, R233). -/
def State.entryValue (s : State) (tb : Nat) (w : Word) : Word :=
  match fld w 31 30 with
  | 1 => look 0 (look [] s.router.snap tb) (fld w 10 0)
  | 2 =>
    let v := look 0 s.router.col (fld w 10 0)
    if tb = 0 then v else scale (look 1 s.router.mixFade tb) v
  | _ => 0

/-- Sink `k`'s value through its crossfade, before MUTE (R232, R251). -/
def State.crossValue (s : State) (tb k : Nat) : Word :=
  let new := s.entryValue tb (s.patchInEffect k)
  match look none s.router.sinkFade k with
  | none => new
  | some f => blend ((f.j + 1 : Nat) / (f.n : Nat)) (match f.old with | .entry w => s.entryValue tb w | .held v => v) new

/-- The value sink `k` delivers in the present tick (R232, R251, R252). -/
def State.sinkValue (s : State) (tb k : Nat) : Word :=
  let v := s.crossValue tb k
  let goal := if look false s.router.muted k then 0 else v
  match look none s.router.muteFade k with
  | some ⟨held, some n, j⟩ =>
    if n ≤ j then goal
    else blend ((j + 1 : Nat) / (n : Nat)) (held.getD (if look false s.router.muted k then v else 0)) goal
  | _ => goal

/-- A change of sink `k`'s MUTE bit acts at the sink's first tick after its write, or waits for a zero crossing
(R252 to R255). One that finds a patch change waiting, or that a patch change finds waiting, waits with it: the two are one new setting,
applied together and counted once (DESIGN CHOICE: R255 does not say whether a change of the other kind is replaced; log entry 87). -/
def State.muteAct (s : State) (k : Nat) : State :=
  let b := look false s.router.muteAt k
  let r := s.router
  if b = look false r.muted k then
    match s.zcOf k with
    | some z => s.setZc z { s.zcWait z with mute := none }
    | none => s
  else
    let n := fld (s.tableWord (patchAddr k)) 29 22
    match s.zcOf k, n with
    | some z, 0 => s.setZc z { s.zcWait z with mute := some b }
    | z, n =>
      let runs := (look none r.sinkFade k).isSome || (look none r.muteFade k).isSome
      let fade : Option MuteFade := if n = 0 then none else some ⟨if runs then some (look 0 r.sink k) else none, some n, 0⟩
      let s := s.setRouter { r with
        muted := put false r.muted k b, muteFade := put none r.muteFade k fade,
        sinkFade := put none r.sinkFade k none }
      match z with
      | some z => s.setZc z { s.zcWait z with mute := none }
      | none => s

/-- What waits on sink `k` applies where the value under the present setting is zero or changes sign; otherwise it has
waited a tick more (R254). -/
def State.zcCheck (s : State) (tb k : Nat) : State :=
  match s.zcOf k with
  | none => s
  | some z =>
    let w := s.zcWait z
    if !w.patch && w.mute.isNone then s
    else
      let v := s.sinkValue tb k
      if v = 0 ∨ bit v 31 ≠ bit (look 0 s.router.sink k) 31 then s.zcApply z k
      else s.setZc z { w with ticks := w.ticks + 1 }

/-- A MUTE fade one step on; it ends with its last step. -/
def MuteFade.next (f : MuteFade) : Option MuteFade :=
  match f.n with
  | some n => if f.j + 1 < n then some { f with j := f.j + 1 } else none
  | none => none

/-- Sink `k` of timebase `tb` is delivered its value, and its crossfade and its MUTE fade step. -/
def State.deliverSink (s : State) (tb k : Nat) : State :=
  let s := (s.muteAct k).zcCheck tb k
  let v := s.sinkValue tb k
  let r := s.router
  s.setRouter { r with
    sink := put 0 r.sink k v,
    sinkFade := put none r.sinkFade k ((look none r.sinkFade k).bind Cross.next),
    muteFade := put none r.muteFade k ((look none r.muteFade k).bind MuteFade.next) }

/-- The indices of the live patch entries that are not zero. -/
def State.patchKeys (s : State) : List Nat :=
  let base := s.tableAddr (patchAddr 0)
  s.mem.filterMap fun c => if base ≤ c.1 ∧ c.1 < base + 4 * 1096 then some ((c.1 - base) / 4) else none

/-- The sinks that can have a value or a change in progress; every other sink delivers zero as it did before. -/
def State.sinkKeys (s : State) : List Nat :=
  let r := s.router
  let zc := (List.range 16).map fun n => fld (s.zcWord n) 10 0
  [s.patchKeys, r.sink.map (·.1), r.sinkFade.map (·.1), r.muteFade.map (·.1), r.muted.map (·.1), r.patchOld.map (·.1),
    r.muteAt.map (·.1), if r.zc.isEmpty then [] else zc].foldl joinKeys []

/-- The fade of mixed sinks on timebase `n` while TB0 holds, one tick on (R233). Where TB0 resumes before the fade has reached 0, it rises
from the value at which it stands (DESIGN CHOICE: R233 has it rise from 0 and does not speak of this case; log entry 88). -/
def State.mixTick (s : State) (n : Nat) : State :=
  let r := s.router
  let g := look 1 r.mixFade n
  let g := if s.holding 0 then max 0 (g - 1 / 32) else min 1 (g + 1 / 32)
  if n = 0 then s else s.setRouter { r with mixFade := put 1 r.mixFade n g }

/-- Values that TDM output sinks `32 p` on were delivered, through the guard (R418): the port's slots. -/
def State.portValues (s : State) (p : Nat) : State × List Word :=
  (List.range (layoutSlots (s.tdmCfg p))).foldl (fun o k =>
    let r := o.1.guardSample (32 * p + k) (look 0 o.1.router.sink (32 * p + k))
    (r.1, o.2 ++ [r.2])) (s, [])

/-- The guard forms the output of every enabled guard slot at each tick of its port's timebase, also where the port sends none of it
(R416, R418). -/
def State.guardRest (s : State) (n : Nat) : State :=
  if !s.anyGslot then s
  else s.each (List.range 8) fun s i =>
    let k := fld (s.gslot i) 8 0
    let p := k / 32
    let sent := (s.port p).st != .disabled && decide (k % 32 < layoutSlots (s.tdmCfg p))
    if s.guardSlot k = some i ∧ s.tdmTb p = n ∧ !sent then (s.guardSample k (look 0 s.router.sink k)).1 else s

/-- The values delivered reach the ports, transmitters and streams of timebase `n` (R15, R247, R274, R306). -/
def State.handOn (s : State) (n : Nat) : State :=
  let s := s.guardRest n
  let s := s.each (List.range 16) fun s p =>
    if s.tdmTb p = n ∧ (s.port p).st ≠ .disabled then
      let r := s.portValues p
      r.1.tdmDeliver p r.2
    else s
  let s := s.each (List.range 4) fun s m =>
    if s.txTb m = n then s.txDeliver m [look 0 s.router.sink (512 + 2 * m), look 0 s.router.sink (513 + 2 * m)] else s
  s.each (List.range 64) fun s m =>
    if s.domain 13 && bit (s.streamWord true m) 30 && s.streamTb true m == n then
      s.streamWrite m (look 0 s.router.sink (520 + m))
    else s

/-- The engine sinks of timebase `n` (R229). -/
def State.engineSinks (s : State) (n : Nat) : List Nat :=
  ((List.range 32).filter fun e => s.engTb e == n).flatMap fun e => (List.range 16).map fun c => 584 + 16 * e + c

/-- The engine sinks, and those of the ports and transmitters, of timebase `n` behind a crossing from the router (R478, R479). -/
def State.crossDelivered (s : State) (n : Nat) : State :=
  if s.core.crossings.isEmpty then s
  else
    let s := if (s.cross (32 + n)).active then s.crossSinks (32 + n) 32 (s.engineSinks n) else s
    let s := s.each ((List.range 4).filter fun m => s.txTb m == n) fun s m =>
      s.crossSinks (36 + m) (s.txFadeLen m) [512 + 2 * m, 513 + 2 * m]
    s.each ((List.range 16).filter fun p => s.tdmTb p == n) fun s p =>
      s.crossSinks (80 + p) (s.tdmFadeLen p) ((List.range 32).map (32 * p + ·))

/-- The sinks of timebase `n` are delivered: on TB0 the column results of the tick before come first (R15, R232). While SW13 is
off every sink receives zero (R10). -/
def State.deliver (s : State) (n : Nat) : State :=
  let r := s.router
  if !(s.domain 13) then
    (s.setRouter { r with sink := r.sink.filter fun c => s.sinkTb c.1 != n }).handOn n
  else if s.gated 9 then s
  else
    let s := if n = 0 then s.setRouter { r with col := r.computed } else s
    let s := s.parityIn 0x30 (s.tableAddr (patchAddr 0)) (s.tableAddr (patchAddr 1096))
    let s := s.parityIn 0x32 (blk 0x32 0x100) (blk 0x32 0x140)
    let s := s.mixTick n
    let s := s.each (s.sinkKeys.filter fun k => s.sinkTb k == n) fun s k => s.deliverSink n k
    (s.crossDelivered n).handOn n

/-- SINK_DELIVERY: cycle 32 of a tick of timebase `tb` (R15, R232). A timebase that holds has no tick. -/
def execSinkDelivery (tb : Fin 4) (t : Nat) (s : State) : Host.Outcome State Fault Refusal :=
  let s := s.upTo t
  .next (if s.holding tb then s else s.deliver tb)

/-- ZC_TIMEOUT: a change that has waited its TIMEOUT on entry `n` applies (R254). -/
def execZcTimeout (n : Fin 16) (t : Nat) (s : State) : Host.Outcome State Fault Refusal :=
  let s := s.upTo t
  .next (s.zcTimeout n (s.sinkTb (fld (s.zcWord n) 10 0)))

end Sys2Proof.Machine
end

