-- ==== Sys2Proof/Machine/AddrMap.lean ====
section
/-!
DEFINITION. The address map: the region a byte address lies in, its class, and its power domain (R20 to R23, R256, R535).
-/

namespace Sys2Proof.Machine

/-- The regions of the address map (R20, R22). -/
inductive Region where
  | control (b : Nat)
  | xpt
  | tables
  | mailbox
  | events
  | cmap
  | descs
  | program (e : Nat)
  | xmem (e : Nat)
  | ytable (e : Nat)
  | yshelf (e : Nat)
  | setMem (s : Nat)
  | store
  deriving DecidableEq, Repr

/-- The region of a byte address; `none` outside the address map and for an absent control block (R20 to R23). -/
def regionOf (a : Nat) : Option Region :=
  if a < 0x100000 then (if (blockKind (a / 0x1000)).isSome then some (.control (a / 0x1000)) else none)
  else if a < 0x200000 then some .xpt
  else if a < 0x300000 then some .tables
  else if a < 0x302000 then some .mailbox
  else if a < 0x304000 then none
  else if a < 0x308000 then some .events
  else if a < 0x310000 then none
  else if a < 0x320000 then some .cmap
  else if a < 0x330000 then some .descs
  else if a < 0x400000 then none
  else if a < 0x800000 then
    let e := (a - 0x400000) / 0x20000
    let o := (a - 0x400000) % 0x20000
    some (if o < 0x8000 then .program e else if o < 0x10000 then .xmem e else if o < 0x18000 then .ytable e else .yshelf e)
  else if a < 0x1000000 then none
  else if a < 0x2000000 then some (.setMem ((a - 0x1000000) / 0x200000))
  else if a < 0x3000000 then some .store
  else none

/-- The domain of control block `b`, n for SWn and 0 for AON (R535). -/
def blockDomain (b : Nat) : Nat :=
  if b = 0x07 then 19
  else if b = 0x08 ∨ b = 0x09 then 17
  else if 0x10 ≤ b ∧ b < 0x18 then 14
  else if 0x18 ≤ b ∧ b < 0x20 then 15
  else if 0x20 ≤ b ∧ b < 0x28 then 16
  else if 0x30 ≤ b ∧ b < 0x33 then 13
  else if 0x40 ≤ b ∧ b < 0x60 then (b - 0x40) / 4 + 1
  else if 0x60 ≤ b ∧ b < 0x68 then b - 0x60 + 1
  else if b = 0x80 ∨ b = 0x81 then 18
  else 0

/-- The domain of a byte address in a region, n for SWn and 0 for AON (R535). -/
def regionDomain (r : Region) (a : Nat) : Nat :=
  match r with
  | .control b => blockDomain b
  | .xpt | .tables => 13
  | .mailbox | .events | .cmap => 19
  | .descs => 17
  | .program e | .xmem e | .ytable e | .yshelf e => e / 4 + 1
  | .setMem s => s + 1
  | .store => bankDomain a

/-- The region is of class Data: a host may write it without a DCHK, and DMA may reach it (R20, R22). -/
def Region.isData : Region → Bool
  | .mailbox | .xmem _ | .setMem _ | .store => true
  | _ => false

/-- The domain of a byte address is on, or the address is always on. -/
def State.regionOn (s : State) (r : Region) (a : Nat) : Bool := regionDomain r a == 0 || s.domain (regionDomain r a)

/-- The bits of a word of a table in the core window that are stored; a reserved one that is written has no effect (R6, R486). Those of the
control map depend on what the entry is, and are left out as it is read. A descriptor's are stored too: its check tests them (R393). -/
def storedMask (r : Region) (a : Nat) : Word :=
  match r with
  | .events => if a % 16 = 8 then 0x83FFFFFF else 0xFFFFFFFF
  | _ => 0xFFFFFFFF

/-- The Y word a byte address in an engine's Y views names. -/
def yIndex (a : Nat) : Nat := (a - 0x400000) % 0x8000 / 4

end Sys2Proof.Machine
end

