-- ==== Sys2Proof/Machine/Dma.lean ====
section
/-!
DEFINITION. The DMA unit: descriptors, chains, pacing, bus errors and the halt (R390 to R410).
-/

namespace Sys2Proof.Machine

/-! ## Addresses -/

/-- The address of word `k` of descriptor `i` (R390). -/
def descAddr (i k : Nat) : Nat := 0x320000 + 16 * i + 4 * k

/-- The bytes from `lo` up to but not including `hi` meet a range of class Control (R20, R22). -/
def meetsControl (lo hi : Nat) : Bool :=
  let meets := fun a b => lo < b && a < hi
  meets 0 0x300000 || meets 0x304000 0x308000 || meets 0x310000 0x330000
    || (List.range 32).any fun e => meets (engBase e) (engBase e + 0x8000) || meets (engBase e + 0x10000) (engBase e + 0x20000)

/-- The `n` words from address `a` under an increment meet a range of class Control; addresses wrap modulo 2^28 (R391, R392). -/
def pathControl (inc a n : Nat) : Bool :=
  let a := wordOf a
  if inc = 2 then meetsControl a (a + 4)
  else if inc = 0 then meetsControl a (a + 4 * n) || (2 ^ 28 < a + 4 * n && meetsControl 0 (a + 4 * n - 2 ^ 28))
  else if 4 * n ≤ a + 4 then meetsControl (a + 4 - 4 * n) (a + 4)
  else meetsControl 0 (a + 4) || meetsControl (2 ^ 28 + a + 4 - 4 * n) (2 ^ 28)

/-- An address after one word (R391, R392). -/
def incAddr (inc a : Nat) : Nat := if inc = 0 then (a + 4) % 2 ^ 28 else if inc = 1 then (a + 2 ^ 28 - 4) % 2 ^ 28 else a

/-- The byte orders of SWAP (R392). -/
def swapWord (sw : Nat) (w : Word) : Word :=
  let b := fun i => (w.extractLsb' (8 * i) 8 : BitVec 8)
  if sw = 0 then w
  else if sw = 1 then b 2 ++ b 3 ++ b 0 ++ b 1
  else if sw = 2 then b 1 ++ b 0 ++ b 3 ++ b 2
  else b 0 ++ b 1 ++ b 2 ++ b 3

/-- A DMA request at `a` is acknowledged: a range of class Data whose domain is on, in the Delay Store with no clear of its quarter in progress, and
whose clock gate is open (R401, R452). -/
def State.dmaAcks (s : State) (a : Nat) : Bool :=
  match regionOf a with
  | some r => r.isData && !(decide (0x2000000 ≤ a) && decide (a < 0x3000000) && s.memOff a)
    && (regionDomain r a == 0 || s.unitOn (regionDomain r a))
  | none => false

/-! ## Channels -/

/-- The state with the DMA unit replaced. -/
def State.setDma (s : State) (d : Dma) : State := { s with dma := d }

/-- DEPTH (R410). -/
def Channel.depth (x : Channel) : Nat := if fld x.cfg 5 0 = 0 then 32 else fld x.cfg 5 0

/-- PACE_TICKS (R410). -/
def Channel.pace (x : Channel) : Nat := fld x.cfg 31 16

/-- PACE_TB (R410). -/
def Channel.paceTb (x : Channel) : Nat := fld x.cfg 13 12

/-- Transactions in flight on every channel (R400). -/
def State.dmaInFlight (s : State) : Nat := s.dma.chans.foldl (fun n c => n + c.2.flight.length) 0

/-- What CHn_STATUS and CHn_REMAIN show of the oldest descriptor that has not completed (R402, R409). -/
def Channel.show (x : Channel) : Channel :=
  match x.flight with
  | [] => { x with index := x.inHand, remain := 4 * x.left }
  | w :: _ =>
    { x with
      index := w.index
      remain := 4 * (match x.flight.findIdx? (·.last.isSome) with | some i => i + 1 | none => x.flight.length + x.left) }

/-- The channel stops with a cause (R405). A chain that ends sets CHAN_END (R398). -/
def State.chanStopped (s : State) (c : Nat) (cause : BitVec 4) : State :=
  let x := (s.chan c).show
  let s := s.setChan c
    { x with st := .stopped, hung := false, cause := cause, fetch := none, left := 0, waits := false, flight := [], ending := none }
  if cause = 1 then s.raise 0x08 2 else s

/-- The channel stops once its words in flight have landed: at once with none. -/
def State.chanEnd (s : State) (c : Nat) (cause : BitVec 4) : State :=
  let x := s.chan c
  if x.flight = [] ∧ !x.hung then s.chanStopped c (x.ending.getD cause)
  else s.setChan c { x with ending := some (x.ending.getD cause), fetch := none }

/-- The DMA unit runs: SW17 is on, its clock gate open, and FCLK runs (R10, R324, R330). -/
def State.dmaRuns (s : State) : Bool := s.unitOn 17 && s.clkRuns .fclk

/-- A read of the channel has issued that no target acknowledges: it ends in a bus error, whatever stops the channel first (R401, R403). -/
def State.chanHangs (s : State) (c : Nat) : Bool :=
  let x := s.chan c
  x.st == .running && !x.waits && x.left != 0 && x.ending.isNone && !s.dma.halted && s.dmaRuns
    && x.flight.length < x.depth && s.dmaInFlight < 128 && !(s.dmaAcks x.src)

/-- A channel start (R395, R399): the pace grid starts at the present tick of PACE_TB. -/
def State.chanStart (s : State) (c : Nat) : State :=
  let cfg := s.reg (blk 0x09 (0x100 + 32 * c))
  let first := fld (s.reg (blk 0x09 (0x104 + 32 * c))) 11 0
  let tb := s.tb (fld cfg 13 12)
  if (s.chan c).st ≠ .stopped ∨ s.dma.halted ∨ !(s.unitOn 17) then s.raise 0x08 5
  else s.setChan c { Channel.reset with
    st := .running, index := first, inHand := first, fetch := some first, cfg := cfg, gridAt := tb.tickNo,
    usedGrid := if s.now = tb.lastTick then none else some tb.tickNo }

/-- A STOP to the channel (R403, R405). -/
def State.chanStop (s : State) (c : Nat) : State :=
  let x := s.chan c
  match x.st with
  | .running => (s.setChan c { x with st := .stopping, hung := s.chanHangs c, ending := some 2 }).chanEnd c 2
  | .waiting => s.chanStopped c 2
  | _ => s

/-- A full image load stops the channel (R59, R405). -/
def State.chanImage (s : State) (c : Nat) : State :=
  let x := s.chan c
  if x.st = .stopped then s
  else (s.setChan c { x with st := .stopping, hung := x.hung || s.chanHangs c, ending := some 8 }).chanEnd c 8

/-- STOP_ALL (R403). -/
def State.dmaStopAll (s : State) : State := s.each (List.range 16) fun s c => s.chanStop c

/-- CLEAR_HALT (R402). -/
def State.dmaClearHalt (s : State) : State :=
  (s.setDma { s.dma with halted := false }).setRegFld (blk 0x08 0x018) 31 31 0

/-- Every channel STOPPED with cause DOMAIN. -/
def dmaDomain : Sparse Channel := (List.range 16).map fun c => (c, { Channel.reset with cause := 9 })

/-- SW17 goes off: every channel is abandoned (R406). -/
def State.dmaOff (s : State) : State := s.setDma ⟨dmaDomain, false, true⟩

/-- SW17 returns after it went off: each channel's CAUSE reads DOMAIN (R406). -/
def State.dmaReturns (s : State) : State :=
  if s.dma.wentOff then s.setDma { s.dma with chans := dmaDomain, wentOff := false } else s

/-- A word written to DMA.CMD (R7, R408). -/
def State.dmaCommand (s : State) (w : Word) : State :=
  match fld w 1 0 with
  | 1 => s.dmaClearHalt
  | 2 => s.dmaStopAll
  | _ => s

/-- A word written to CHn_CMD (R7, R409). -/
def State.chanCommand (s : State) (c : Nat) (w : Word) : State :=
  match fld w 1 0 with
  | 1 => s.chanStart c
  | 2 => s.chanStop c
  | _ => s

/-- CHANNEL_START: START to CHn_CMD; with SW17 off the access faults (R11, R395). -/
def execChannelStart (c : Fin 16) (t : Nat) (s : State) : Host.Outcome State Fault Refusal :=
  let s := s.upTo t
  .next (s.hostActs (.channelStart c t) fun s =>
    if s.unitOn 17 then s.chanStart c else s.hostFault 0x02 (blk 0x09 (0x108 + 32 * c)))

/-- CHANNEL_STOP (R11, R403). -/
def execChannelStop (c : Fin 16) (t : Nat) (s : State) : Host.Outcome State Fault Refusal :=
  let s := s.upTo t
  .next (s.hostActs (.channelStop c t) fun s =>
    if s.unitOn 17 then s.chanStop c else s.hostFault 0x02 (blk 0x09 (0x108 + 32 * c)))

/-- STOP_ALL (R11, R403). -/
def execStopAll (t : Nat) (s : State) : Host.Outcome State Fault Refusal :=
  let s := s.upTo t
  .next (s.hostActs (.stopAll t) fun s =>
    if s.unitOn 17 then s.dmaStopAll else s.hostFault 0x02 (blk 0x08 0x010))

/-- CLEAR_HALT (R11, R402). -/
def execClearHalt (t : Nat) (s : State) : Host.Outcome State Fault Refusal :=
  let s := s.upTo t
  .next (s.hostActs (.clearHalt t) fun s =>
    if s.unitOn 17 then s.dmaClearHalt else s.hostFault 0x02 (blk 0x08 0x010))

/-! ## Descriptors -/

/-- A descriptor that is not link-only fails its format check (R393). -/
def descFormatBad (src dst len ctrl : Word) : Bool :=
  fld len 1 0 != 0 || fld src 31 28 != 0 || fld dst 31 28 != 0 || fld len 31 24 != 0 || fld ctrl 11 0 != 0
    || fld ctrl 15 14 == 3 || fld ctrl 13 12 == 3

/-- The source or the destination of a descriptor would touch a range of class Control (R393). -/
def descControl (src dst len ctrl : Word) : Bool :=
  pathControl (fld ctrl 13 12) (fld src 27 0) (fld len 23 0 / 4) || pathControl (fld ctrl 15 14) (fld dst 27 0) (fld len 23 0 / 4)

/-- A descriptor is refused (R393). -/
def State.descRefuse (s : State) (c : Nat) (cause : BitVec 4) : State := (s.raise 0x08 3).chanEnd c cause

/-- IRQ of a descriptor's CTRL acts (R398). -/
def State.descIrq (s : State) (c : Nat) (ctrl : Word) : State := if bit ctrl 18 then s.raise 0x09 (1 + c) else s

/-- A link-only descriptor acts as it is fetched (R397). -/
def State.descLink (s : State) (c : Nat) (ctrl : Word) : State :=
  let s := s.descIrq c ctrl
  let x := s.chan c
  let s := s.setChan c { x with links := x.links + 1, descs := x.descs + 1, fetch := some (fld ctrl 31 20) }
  if bit ctrl 19 then s.chanEnd c 1
  else if x.links + 1 = 16 then (s.raise 0x08 4).chanEnd c 3
  else s

/-- A descriptor with words to move is taken in hand: at once when unpaced, else at its grid tick (R399, R405). -/
def State.descTake (s : State) (c i : Nat) (src dst len ctrl : Word) : State :=
  let x := s.chan c
  let tick := (s.tb x.paceTb).tickNo
  let first := x.pace != 0 && tick == x.gridAt && x.usedGrid.isNone
  let waits := x.pace != 0 && !first
  s.setChan c (Channel.show
    { x with
      links := 0
      fetch := none
      inHand := i
      src := wordOf (fld src 27 0)
      dst := wordOf (fld dst 27 0)
      left := fld len 23 0 / 4
      ctrl := ctrl
      waits := waits
      st := if waits && x.flight.isEmpty then .waiting else .running
      usedGrid := if first then some tick else x.usedGrid })

/-- DESCRIPTOR_FETCH: the channel fetches and checks its next descriptor (R393, R394, R397). -/
def execDescriptorFetch (c : Fin 16) (t : Nat) (s : State) : Host.Outcome State Fault Refusal :=
  let s := s.upTo t
  let x := s.chan c
  .next (match x.fetch with
    | some i =>
      if x.st = .running ∧ x.ending = none ∧ !s.dma.halted ∧ s.unitOn 17 ∧ s.clkRuns .fclk then
        let w := fun k => s.wordAt (descAddr i k)
        let s := s.setChan c (Channel.show { x with inHand := i, left := 0 })
        if (List.range 4).any fun k => s.bad (descAddr i k) then (s.raise 0x08 0).descRefuse c 6
        else if fld (w 2) 23 0 = 0 then s.descLink c (w 3)
        else if descFormatBad (w 0) (w 1) (w 2) (w 3) then s.descRefuse c 4
        else if descControl (w 0) (w 1) (w 2) (w 3) then s.descRefuse c 5
        else s.descTake c i (w 0) (w 1) (w 2) (w 3)
      else s
    | none => s)

/-- PACE_TICK: a grid tick starts the descriptor that waits, or passes while the channel works on an earlier one (R399). -/
def execPaceTick (c : Fin 16) (t : Nat) (s : State) : Host.Outcome State Fault Refusal :=
  let s := s.upTo t
  let x := s.chan c
  let tick := (s.tb x.paceTb).tickNo
  .next (if x.pace ≠ 0 ∧ x.gridAt < tick ∧ (tick - x.gridAt) % x.pace = 0 ∧ x.usedGrid ≠ some tick then
      if x.st = .waiting then s.setChan c { x with st := .running, waits := false, usedGrid := some tick }
      else if x.st = .running ∧ (x.left ≠ 0 ∨ x.flight ≠ []) then
        ((s.setChan c { x with usedGrid := some tick }).bump (blk 0x08 0x024)).raise 0x08 6
      else s
    else s)

/-! ## Transactions -/

/-- The DMA transactions still to pass before the forced error of DMA_ERR; 0 for none (R507, R512). -/
def State.dmaErr (s : State) : Nat := fld (s.control 0x100) 23 0

/-- The channel may issue a read in this cycle (R400, R401, R403). -/
def State.chanIssues (s : State) (c : Nat) : Bool :=
  let x := s.chan c
  x.st == .running && !x.waits && x.left != 0 && x.ending.isNone && !s.dma.halted && s.dmaRuns
    && x.flight.length < x.depth && s.dmaInFlight < 128

/-- A transaction issues: it counts toward DMA_ERR (R507). -/
def State.dmaCounts (s : State) : State :=
  if s.dmaErr ≠ 0 then s.setRegFld (blk 0xF0 0x100) 23 0 (s.dmaErr - 1) else s

/-- One read issues, at its bank by cycle `by_`, and its word returns (R396, R400, R507, R508). With FCLK too slow the data is lost (R326). -/
def State.chanIssue (s : State) (c by_ : Nat) : State :=
  let x := s.chan c
  if s.chanIssues c && s.dmaAcks x.src && s.dmaErr != 1 then
    let s := s.dmaCounts
    let lost := inEclkMem x.src && s.fclkSlow
    let w := swapWord (fld x.ctrl 17 16) (if lost then Config.crossedWord s.drawn (s.wordAt x.src) else s.wordAt x.src)
    let s := if lost then { s with drawn := s.drawn + 1 } else s
    let last := x.left = 1
    s.setChan c (Channel.show
      { x with
        src := incAddr (fld x.ctrl 13 12) x.src
        dst := incAddr (fld x.ctrl 15 14) x.dst
        left := x.left - 1
        flight := x.flight ++ [⟨x.src, x.dst, w, x.inHand, if last then some x.ctrl else none, s.holdAt 1 by_⟩]
        fetch := if last && !(bit x.ctrl 19) then some (fld x.ctrl 31 20) else x.fetch })
  else s

/-- Up to `n` reads issue. -/
def State.chanReads (s : State) (c : Nat) : Nat → State
  | 0 => s
  | n + 1 => (s.chanIssue c s.now).chanReads c n

/-- The oldest write `w` of the channel lands, and with the last of a descriptor DESCRIPTOR_COMPLETE (R396, R398). -/
def State.wordLands (s : State) (c : Nat) (w : DmaWord) : State :=
  let x := s.chan c
  let s := (s.fclkWrite w.dst w.val).setChan c (Channel.show { x with flight := x.flight.tail })
  match w.last with
  | some ctrl =>
    let s := s.descIrq c ctrl
    s.setChan c { s.chan c with descs := (s.chan c).descs + 1 }
  | none => s

/-- The oldest write of the channel lands, and a descriptor marked LAST ends its chain; a channel that is STOPPING stops with its own cause (R396,
R398, R400, R403). -/
def State.chanLand (s : State) (c : Nat) : State :=
  match (s.chan c).flight with
  | [] => s
  | w :: _ =>
    if s.dmaAcks w.dst then
      let s := s.wordLands c w
      let s := if (w.last.any fun ctrl => bit ctrl 19) && (s.chan c).st == .running then s.chanEnd c 1 else s
      let y := s.chan c
      if y.flight ≠ [] ∨ y.hung then s
      else match y.ending with
        | some cause => s.chanStopped c cause
        | none => if y.waits then s.setChan c { y with st := .waiting } else s
    else s

/-- A request of a word is still held: its read under the hold at its arrival, or its write under the hold of the cycle in which it arrived,
`writeWait` bank cycles ago (R508). -/
def State.wordHeld (s : State) (w : DmaWord) (readWait writeWait : Nat) : Bool :=
  (atBank w.src && readWait < w.hold) || (atBank w.dst && writeWait < s.holdAt 1 (s.now - bankCycles w.dst writeWait))

/-- The cycle by which a word's read had arrived whose read and write waited `readWait` and `writeWait` bank cycles at addresses `src` and `dst`
(R182, R187). -/
def State.readBy (s : State) (src dst readWait writeWait : Nat) : Nat :=
  s.now - (if atBank src then bankCycles src readWait else 0) - (if atBank dst then bankCycles dst writeWait else 0)

/-- TRANSACTION_COMPLETE: the oldest write of the channel lands; by then `ahead` further reads have issued (R396, R398, R400). The word's two requests
waited `readWait` and `writeWait` bank cycles at their banks (R187, R200); one still held is not yet eligible, and its write lands later (R508). -/
def execTransactionComplete (c : Fin 16) (g : WordGrant) (t : Nat) (s : State) : Host.Outcome State Fault Refusal :=
  let s := s.upTo t
  let x := s.chan c
  let s := if x.flight = [] then s.chanIssue c (s.readBy x.src x.dst g.readWait g.writeWait) else s
  let s := s.chanReads c g.ahead
  .next (match (s.chan c).flight with
    | [] => s
    | w :: _ =>
      if s.wordHeld w g.readWait g.writeWait || !s.dmaRuns then s
      else
        let s := if atBank w.src then s.lowerWait 1 w.src g.readWait else s
        let s := if atBank w.dst then s.lowerWait 1 w.dst g.writeWait else s
        s.chanLand c)

/-- The oldest `n` writes of channel `c` had issued before a bus error: they land, each that its target acknowledges, and what the channel shows of
its words that have not landed begins at the first that did not. Nothing but the error ends the channel then (R401, R402, R405). -/
def State.chanIssued (s : State) (c n : Nat) : State :=
  let issued := (s.chan c).flight.take n
  let whole := issued.takeWhile fun w => s.dmaAcks w.dst
  let s := s.each whole fun s w => s.wordLands c w
  s.each (issued.drop whole.length) fun s w => if s.dmaAcks w.dst then s.fclkWrite w.dst w.val else s

/-- BUS_ERROR: a request of channel `c` that no target acknowledges, its next read or its oldest write, halts the unit and stops every channel; of
each channel the oldest `issued` writes had issued by then (R401). The forced error of DMA_ERR falls on a read. -/
def execBusError (c : Fin 16) (q : BusRequest) (t : Nat) (s : State) : Host.Outcome State Fault Refusal :=
  let s := s.upTo t
  let x := s.chan c
  let failed : Option Nat :=
    if q.write then
      match x.flight with
      | w :: _ => if s.dmaAcks w.dst then none else some w.dst
      | [] => none
    else if x.hung || (s.chanIssues c && (!(s.dmaAcks x.src) || s.dmaErr == 1)) then some x.src
    else none
  .next (match failed with
    | some a =>
      if s.dma.halted then s
      else
        let s := if q.write then s else if s.dmaErr = 1 then (s.setReg (blk 0xF0 0x100) 0).raise 0xF0 2 else s.dmaCounts
        let s := s.each (List.range 16) fun s k => s.chanIssued k (q.issued.getD k 0)
        let s := s.each (List.range 16) fun s k =>
          if (s.chan k).st = .stopped then s else s.chanStopped k 7
        let s := s.setDma { s.dma with halted := true }
        let s := s.setReg (blk 0x08 0x018) (BitVec.ofNat 32 (0x80000000 + (if q.write then 0x100000 else 0) + c * 0x10000))
        ((s.setReg (blk 0x08 0x01C) (BitVec.ofNat 32 a)).bump (blk 0x08 0x020)).raise 0x08 1
    | none => s)

end Sys2Proof.Machine
end

