-- ==== Sys2Proof/Machine/EngineCmd.lean ====
section
/-!
DEFINITION. Commands to engines, the events of their Rounds, and writes to their program and pointer configuration (R70, R76 to
R81, R88, R89, R97, R102, R153).
-/

namespace Sys2Proof.Machine

/-- ARMED from STOPPED with a start; an engine with B = 0 cannot leave STOPPED (R74, R88). -/
def State.engArm (s : State) (e : Nat) (start : StartAt) : State :=
  if (s.eng e).st = .stopped ∧ s.engBudget e ≠ 0 then s.setEng e { s.eng e with st := .armed, start := start } else s

/-- CMD START (R88). -/
def State.cmdStart (s : State) (e : Nat) : State := s.engArm e .nextTick

/-- CMD ARM at ARM_TICK: a past tick arms for the next tick, with ARM_LATE (R89). -/
def State.cmdArm (s : State) (e : Nat) : State :=
  let c := fld (s.reg (engReg e 0x024)) 15 0 * 2 ^ 32 + (s.reg (engReg e 0x020)).toNat
  if (s.eng e).st = .stopped ∧ s.engBudget e ≠ 0 then
    if c ≤ s.tickCount.toNat then (s.engArm e .nextTick).engRaise e 9 else s.engArm e (.atTb0 c)
  else s

/-- CMD STOP (R88). -/
def State.cmdStop (s : State) (e : Nat) : State :=
  let x := s.eng e
  match x.st with
  | .armed => s.setEng e { x with st := .stopped }
  | .running =>
    let s := s.setEng e { x with stopping := true }
    if s.holding (s.engTb e) && x.gain == 0 && !x.inRound && !x.awaits then s.engStopped e true else s
  | _ => s

/-- CMD RECOVER (R88). -/
def State.cmdRecover (s : State) (e : Nat) : State :=
  if (s.eng e).st = .faulted then
    let s := s.setEng e { s.eng e with st := .stopped }
    s.setReg (blk (0x40 + e) 4) (setBit (s.reg (blk (0x40 + e) 4)) 8 false)
  else s

/-- A value written to ENGINE.CMD (R102). A reserved value has no effect (R7). -/
def State.engCommand (s : State) (e : Nat) (w : Word) : State :=
  match fld w 3 0 with
  | 1 => s.cmdStart e
  | 2 => s.cmdArm e
  | 3 => s.cmdStop e
  | 4 => s.cmdRecover e
  | _ => s

/-- A full image load stops the engine: an ARMED engine at once, a RUNNING one at its next Round end (R59, R88). While its timebase
holds no Round starts (R87), and an engine with none in progress stops at once (log entry 69). -/
def State.engFullStop (s : State) (e : Nat) : State :=
  let x := s.eng e
  match x.st with
  | .armed => s.setEng e { x with st := .stopped }
  | .running =>
    if !x.inRound && !x.awaits && s.holding (s.engTb e) then s.engStopped e false else s.setEng e { x with stopAtEnd := true }
  | _ => s

/-- A write to program memory at byte address `a`: parity is generated afresh over the 64 bits of its word (R29). -/
def State.writeProgram (s : State) (a : Nat) (w : Word) : State :=
  ((s.setWord a w).good (a / 8 * 8)).good (a / 8 * 8 + 4)

/-- The engine's program memory may be written (R70). -/
def State.programOpen (s : State) (e : Nat) : Bool :=
  (s.eng e).st == .off || (s.eng e).st == .stopped || (s.eng e).st == .faulted

/-- The place of the pointer word at byte address `a` of an ENGINE block: `4 p + k`. -/
def ptrPlace (a : Nat) : Nat := (a % 0x1000 - 0x100) / 4

/-- A write of a pointer's staged configuration; it becomes live at once unless the engine is RUNNING (R148, R153). -/
def State.writePointer (s : State) (e a : Nat) (w : Word) : State :=
  if legalWrite a (rowAt a).rw w then
    let s := (s.setReg a (w &&& (rowAt a).rw)).good a
    let s := s.setEng e { s.eng e with ptrFresh := joinKeys (s.eng e).ptrFresh [ptrPlace a] }
    if (s.eng e).st = .running then s else s.ptrMakeLive e
  else s

/-- The offset of a staged field of Pn in the ENGINE block (R148). -/
def ptrFieldOff (p : Nat) : PtrField → Nat
  | .cfg => 0x100 + 16 * p
  | .mod => 0x104 + 16 * p
  | .init => 0x108 + 16 * p

/-! ## Rounds -/

/-- INPUT_LATCH: IN0 to IN15 take the values of the engine's sinks (R80). -/
def execInputLatch (e : Fin 32) (t : Nat) (s : State) : Host.Outcome State Fault Refusal :=
  let s := s.upTo t
  .next (if s.roundDue e && (s.eng e).skipTick != some (s.engTickNo e) && (s.eng e).latched != some (s.engTickNo e) then
      let x := s.eng e
      let inp := (List.range 16).foldl (fun l c => put 0 l c (look 0 s.router.sink (584 + 16 * e.val + c))) []
      s.setEng e { x with inp := inp, latched := some (s.engTickNo e) }
    else s)

/-- ROUND_START: sub-Round 0 issues its first instruction at cycle 64 + Φ of the tick (R76, R99, R130, R146, R172). A Round that a
tick overtook before it started does not start in cycles 0 to 63 of that tick (R14): it starts at cycle 64 (DEDUCED, log entry 90). -/
def execRoundStart (e : Fin 32) (t : Nat) (s : State) : Host.Outcome State Fault Refusal :=
  let s := s.upTo t
  .next (if s.roundDue e then
      let x := s.eng e
      let c := max (x.dueAt.getD (s.roundCycle e)) ((s.tb (s.engTb e)).lastTick + 64)
      let far := x.far.map fun q => { q with passed := q.passed || (q.arrived.isNone && q.deadline < c) }
      let s := s.setEng e { x with
        cyc := c, firstCyc := c, far := far, roundTick := some (s.engTickNo e), published := false, stalled := false,
        dueAt := none }
      (s.setReg (engReg e 0x030) (s.reg (engReg e 0x030) + 1)).startSub e 0
    else s)

/-- PUBLICATION: one cycle after the last FINAL of the tick (R77, R81). -/
def execPublication (e : Fin 32) (t : Nat) (s : State) : Host.Outcome State Fault Refusal :=
  let s := s.upTo t
  .next (if (s.eng e).awaits then s.publish e else s)

/-- BUDGET_END: B instructions have issued without a FINAL; the sub-Round ends as though FINAL had issued in the B-th word,
and CTRL_FAULT sets (R78, R141). -/
def execBudgetEnd (e : Fin 32) (s : State) : Host.Outcome State Fault Refusal :=
  let s := s.structCheck e
  let x := s.eng e
  .next (if x.st == .running && x.inRound && x.slotsDone.isEmpty && s.engBudget e ≤ x.issued then
    (s.engRaise e 6).endSub e else s)

/-! ## Writes and commands -/

/-- PROGRAM_WRITE: discarded with ENGINE_BUSY while the engine is ARMED or RUNNING, and with DOMAIN_OFF while its Set is off
(R11, R70). -/
def execProgramWrite (e : Fin 32) (n : BitVec 12) (hi : Bool) (w : Word) (t : Nat) (s : State) :
    Host.Outcome State Fault Refusal :=
  let s := s.upTo t
  let a := progAddr e n.toNat + if hi then 4 else 0
  .next (s.hostActs (.programWrite e n hi w t) fun s =>
    if !(s.unitOn (e.val / 4 + 1)) then s.hostFault 0x02 a
    else if s.programOpen e then s.writeProgram a w
    else s.hostFault 0x03 a)

/-- POINTER_CONFIG_WRITE (R7, R11, R153). -/
def execPointerConfigWrite (by_ : Requester) (e : Fin 32) (p : Fin 8) (f : PtrField) (w : Word) (t : Nat) (s : State) :
    Host.Outcome State Fault Refusal :=
  let s := s.upTo t
  let a := engReg e (ptrFieldOff p f)
  .next (s.actsBy by_ (.pointerConfigWrite by_ e p f w t) fun s =>
    if s.unitOn (e.val / 4 + 1) then s.writePointer e a w
    else if by_ = .host then s.hostFault 0x02 a else s)

/-- ENGINE_START: CMD START (R88, R102), as a host write of CMD. With the Set off the access faults (R11). -/
def execEngineStart (e : Fin 32) (t : Nat) (s : State) : Host.Outcome State Fault Refusal :=
  let s := s.upTo t
  .next (s.hostActs (.engineStart e t) fun s =>
    if s.unitOn (e.val / 4 + 1) then s.cmdStart e else s.hostFault 0x02 (engReg e 0x018))

/-- ENGINE_ARM: CMD ARM (R89, R102), as a host write of CMD. With the Set off the access faults (R11). -/
def execEngineArm (e : Fin 32) (t : Nat) (s : State) : Host.Outcome State Fault Refusal :=
  let s := s.upTo t
  .next (s.hostActs (.engineArm e t) fun s =>
    if s.unitOn (e.val / 4 + 1) then s.cmdArm e else s.hostFault 0x02 (engReg e 0x018))

/-- ENGINE_STOP: CMD STOP (R88, R102), as a host write of CMD. With the Set off the access faults (R11). -/
def execEngineStop (e : Fin 32) (t : Nat) (s : State) : Host.Outcome State Fault Refusal :=
  let s := s.upTo t
  .next (s.hostActs (.engineStop e t) fun s =>
    if s.unitOn (e.val / 4 + 1) then s.cmdStop e else s.hostFault 0x02 (engReg e 0x018))

/-- RECOVER: CMD RECOVER (R88, R102), as a host write of CMD. With the Set off the access faults (R11). -/
def execRecover (e : Fin 32) (t : Nat) (s : State) : Host.Outcome State Fault Refusal :=
  let s := s.upTo t
  .next (s.hostActs (.recover e t) fun s =>
    if s.unitOn (e.val / 4 + 1) then s.cmdRecover e else s.hostFault 0x02 (engReg e 0x018))

/-- The memories of Set `n` cleared to zero, with dirty bits clear and parity good (R97). -/
def State.clearSet (s : State) (n : Nat) : State :=
  let s := (s.clearMem (engBase (4 * n)) (engBase (4 * n + 4))).clearMem (0x1000000 + n * 0x200000) (0x1200000 + n * 0x200000)
  let s := { s with parityBad := delRange s.parityBad (engBase (4 * n)) (engBase (4 * n + 4)) }
  s.each (List.range 4) fun s k => s.setEng (4 * n + k) { s.eng (4 * n + k) with lane := Lane.reset }

end Sys2Proof.Machine
end

