-- ==== Sys2Proof/Machine/Image.lean ====
section
/-!
DEFINITION. The layout image as words: its header, sections, records and START_LIST, and the checks of R54 that look at the
image alone (R36 to R48, R54 steps 1 to 10).
-/

namespace Sys2Proof.Machine

/-- What a refused image records: the code of R69, the step of R54, the section and the byte offset of the failing word
(R66). -/
structure ImgErr where
  code : Nat
  step : Nat
  sec : Nat
  offset : Nat
  deriving DecidableEq, Repr

/-- One section, found at byte offset `pos` (R38). -/
structure ImgSection where
  type : Nat
  shelf : Bool
  target : Nat
  index : Nat
  pos : Nat
  payload : List Word
  deriving DecidableEq, Repr

/-- One record, whose ADDRESS word lies at byte offset `pos` (R43). -/
structure ImgRec where
  addr : Nat
  data : List Word
  pos : Nat
  deriving DecidableEq, Repr

/-- Word `n` of an image. -/
def imgWord (l : List Word) (n : Nat) : Word := l.getD n 0

/-- The LENGTH word of an image in bytes (R37). -/
def imgLength (l : List Word) : Nat := (imgWord l 4).toNat

/-- The staging limit in bytes (R52). -/
def imgLimit (full : Bool) : Nat := if full then 8388608 else 196608

/-- The code for a LENGTH that is refused as soon as it arrives, 0 when it is not (R52). One that is both above the limit and no multiple
of 4 is refused with LENGTH (DESIGN CHOICE: the manual gives no order of the two; log entry 75). -/
def lengthCode (full : Bool) (n : Nat) : Nat :=
  if n = 0 ∨ n % 4 ≠ 0 ∨ n < 72 then 0x05 else if imgLimit full < n then 0x06 else 0

/-- The ordinary index of an error outside every section (R66). -/
def noSection : Nat := 0xFFFF

/-- The highest TARGET of a section type (R44). A START_LIST, for which R44 gives none, permits 0 alone (DESIGN CHOICE; log entry
75). -/
def targetMax (type : Nat) : Nat :=
  if type = 4 then 15
  else if type = 5 ∨ type = 6 ∨ type = 11 then 7
  else if type = 7 ∨ type = 8 ∨ type = 9 ∨ type = 10 then 31
  else 0

/-- Up to `n` sections from byte offset `pos` on, with the offset after the last (R38, R54 step 7). `l` holds the words from
there to the trailer. A LENGTH that is no multiple of 4 is refused at step 7 with SECTION_BOUNDS (DESIGN CHOICE: R38 forbids it and names no
code or step; log entry 84). -/
def imgSections : (n i pos : Nat) → List Word → Except ImgErr (List ImgSection × Nat)
  | 0, _, pos, _ => .ok ([], pos)
  | _, _, pos, [] => .ok ([], pos)
  | n + 1, i, pos, w0 :: r =>
    let type := fld w0 15 0
    if type = 0 ∨ 22 < type then .error ⟨0x08, 7, i, pos⟩
    else match r with
      | len :: target :: crc :: body =>
        if len.toNat % 4 ≠ 0 ∨ 4 * body.length < len.toNat then .error ⟨0x09, 7, i, pos + 4⟩
        else
          let payload := body.take (len.toNat / 4)
          if crc32 (bytesOf (w0 :: len :: target :: payload)) ≠ crc then .error ⟨0x0A, 7, i, pos + 12⟩
          else if targetMax type < target.toNat then .error ⟨0x0B, 7, i, pos + 8⟩
          else match imgSections n (i + 1) (pos + 16 + len.toNat) (body.drop (len.toNat / 4)) with
            | .error e => .error e
            | .ok (l, q) => .ok (⟨type, bit w0 16, target.toNat, i, pos, payload⟩ :: l, q)
      | _ => .error ⟨0x09, 7, i, pos + 4⟩

/-- The bytes from `a` up to but not including `b` lie from `lo` up to but not including `hi`. -/
def within (lo hi a b : Nat) : Bool := lo ≤ a && b ≤ hi

/-- A section of a type and TARGET permits records over the bytes from `a` up to but not including `b` (R44). -/
def permitted (type target a b : Nat) : Bool :=
  let block := fun k => within (blk k 0) (blk (k + 1) 0) a b
  let eng := fun lo hi => within (engBase target + lo) (engBase target + hi) a b
  if type = 1 then block 0x02
  else if type = 2 then block 0x03
  else if type = 3 then block 0x01
  else if type = 4 then block (0x10 + target)
  else if type = 5 then block (0x20 + target)
  else if type = 6 then
    within (blk (0x60 + target) 0) (blk (0x60 + target) 0x100) a b
      || within (blk (0x60 + target) 0x500) (blk (0x60 + target + 1) 0) a b
      || (List.range 4).any fun k => within (engReg (4 * target + k) 0) (engReg (4 * target + k) 0x400) a b
          || within (engReg (4 * target + k) 0x600) (engReg (4 * target + k + 1) 0) a b
  else if type = 7 then eng 0 0x8000 && a % 8 == 0 && (b - a) % 8 == 0
  else if type = 8 then eng 0x8000 0x10000
  else if type = 9 then eng 0x18000 0x20000
  else if type = 10 then within (engReg target 0x400) (engReg target 0x600) a b
  else if type = 11 then within (blk (0x60 + target) 0x100) (blk (0x60 + target) 0x500) a b
  else if type = 12 then block 0x38
  else if type = 13 then within 0x200000 0x200800 a b
  else if type = 14 then within 0x100000 0x200000 a b
  else if type = 15 then within 0x201000 0x202120 a b
  else if type = 16 then within 0x204000 0x204800 a b || block 0x30 || block 0x31 || block 0x32
  else if type = 17 then block 0x0A
  else if type = 18 then within 0x304000 0x308000 a b
  else if type = 19 then within 0x310000 0x320000 a b
  else if type = 20 then within 0x320000 0x330000 a b || block 0x08 || block 0x09
  else if type = 22 then block 0x80
  else false

/-- A record without data is judged as one that names its word, but in program memory only by its alignment (R43, R44). -/
def recordOk (type target a n : Nat) : Bool :=
  if n = 0 then permitted type target a (if type = 7 then a + 8 else a + 4) else permitted type target a (a + 4 * n)

/-- The records of section `c` from word `k` of its payload on (R43, R54 step 9); `fuel` bounds their number. -/
def imgRecords (c : ImgSection) : (fuel k : Nat) → List Word → Except ImgErr (List ImgRec)
  | 0, _, _ => .ok []
  | _, _, [] => .ok []
  | f + 1, k, a :: r =>
    let pos := c.pos + 16 + 4 * k
    match r with
    | [] => .error ⟨0x0C, 9, c.index, pos⟩
    | w :: body =>
      let n := fld w 23 0
      if a &&& 0xF0000003 ≠ 0 then .error ⟨0x0C, 9, c.index, pos⟩
      else if body.length < n then .error ⟨0x0C, 9, c.index, pos + 4⟩
      else if !(recordOk c.type c.target a.toNat n) then .error ⟨0x0C, 9, c.index, pos⟩
      else match imgRecords c f (k + 2 + n) (body.drop n) with
        | .error e => .error e
        | .ok l => .ok (⟨a.toNat, body.take n, pos⟩ :: l)

/-- A section's records; none for a START_LIST (R43). -/
def ImgSection.records (c : ImgSection) : Except ImgErr (List ImgRec) :=
  if c.type = 21 then .ok [] else imgRecords c c.payload.length 0 c.payload

/-- A section's records, none where they are not well formed. -/
def ImgSection.recs (c : ImgSection) : List ImgRec := match c.records with | .ok l => l | .error _ => []

/-- The bits of a control-block register whose fields are coded RO or WO beside fields that the loader writes
(R222, R264, R345, R346, R388). -/
def fixedBits (a : Nat) : Word :=
  let b := a / 0x1000
  let o := a % 0x1000
  if 0x40 ≤ b ∧ b < 0x60 ∧ 0x400 ≤ o ∧ o < 0x600 ∧ o % 8 = 4 then 0xFFFF0000
  else if b = 0x31 ∧ 0x040 ≤ o ∧ o < 0x080 ∧ o % 8 = 4 then 0x80000000
  else if b = 0x02 ∧ (o = 0x028 ∨ o = 0x02C ∨ o = 0x030) then 0xFFFF0000
  else if b = 0x02 ∧ 0x040 ≤ o ∧ o ≤ 0x078 then 0xFFFFFFF0
  else 0

/-- The bits of a word of a control block that must be zero in an image (R45). -/
def mustBeZero (a : Nat) : Word :=
  let r := rowAt a
  if r.rw ||| r.img = 0 then 0xFFFFFFFF else r.w1c ||| r.rc ||| fixedBits a

/-- The first word of a list that fails a test, with its place. -/
def firstBad (f : Nat → Word → Bool) (l : List Word) : Option Nat := (l.zipIdx.find? fun c => f c.2 c.1).map (·.2)

/-- The first data word of section `c` that sets a bit it may not (R45, R54 step 10). -/
def accessError (c : ImgSection) : Option ImgErr :=
  c.recs.findSome? fun r =>
    if r.addr < 0x100000 then
      (firstBad (fun k w => w &&& mustBeZero (r.addr + 4 * k) != 0) r.data).map fun k => ⟨0x0D, 10, c.index, r.pos + 8 + 4 * k⟩
    else none

/-- The words of an image between its header and its trailer. -/
def imgBody (l : List Word) : List Word := (l.take (imgLength l / 4 - 2)).drop 16

/-- The sections of an image, none where they are not well formed. -/
def imgSects (l : List Word) : List ImgSection :=
  match imgSections (imgWord l 5).toNat 0 64 (imgBody l) with | .ok r => r.1 | .error _ => []

/-- The first failure of steps 1 to 10 of R54 for a complete image; `revision` is that of SYS. -/
def formatError (full : Bool) (revision : Nat) (l : List Word) : Option ImgErr :=
  let n := imgLength l
  let outside := fun code step offset => some (⟨code, step, noSection, offset⟩ : ImgErr)
  if imgWord l 0 ≠ 0x54594C31 then outside 0x01 1 0x00
  else if crc32 (bytesOf (l.take 15)) ≠ imgWord l 15 then outside 0x02 2 0x3C
  else if imgWord l 1 ≠ 0x00010000 then outside 0x03 3 0x04
  else if fld (imgWord l 2) 31 16 ≠ 0x4832 ∨ revision < fld (imgWord l 2) 15 8 then outside 0x04 4 0x08
  else if lengthCode full n ≠ 0 then outside (lengthCode full n) 5 0x10
  else if imgWord l (n / 4 - 2) ≠ 0x5459454E then outside 0x07 6 (n - 8)
  else if crc32 (bytesOf (l.take (n / 4 - 1))) ≠ imgWord l (n / 4 - 1) then outside 0x07 6 (n - 4)
  else match imgSections (imgWord l 5).toNat 0 64 (imgBody l) with
    | .error e => some e
    | .ok (cs, stop) =>
      if (imgWord l 5).toNat ≠ cs.length ∨ 4096 < cs.length ∨ stop ≠ n - 8 then outside 0x09 8 stop
      else match cs.findSome? fun c => match c.records with | .error e => some e | .ok _ => none with
        | some e => some e
        | none => cs.findSome? accessError

/-! ## START_LIST (R47, R48) -/

/-- The START_LIST sections of an image, in file order. -/
def startSections (l : List Word) : List ImgSection := (imgSects l).filter fun c => c.type == 21

/-- Header word `k` of an image's START_LIST: that of its last START_LIST section, which prevails in file order (R46; log entry 46). A
section with no payload is MODE relative with DELAY 0, and so is an image without one (R48). -/
def startHead (l : List Word) (k : Nat) : Word := (((startSections l).getLast?).map (·.payload)).getD [] |>.getD k 0

/-- The entries of a START_LIST payload (R47). -/
def startEntries (p : List Word) : List StartEntry :=
  (p.drop 3).map fun w => ⟨fld w 31 28, fld w 23 16, fld w 15 0, false⟩

/-- The entries an image starts: those of every START_LIST section, in file order (R46; log entry 46). -/
def imgEntries (l : List Word) : List StartEntry := (startSections l).flatMap fun c => startEntries c.payload

/-- The highest INSTANCE of a unit kind (R47). -/
def instanceMax (unit : Nat) : Nat :=
  match unit with
  | 0 => 31
  | 1 => 15
  | 2 => 3
  | 3 => 3
  | 4 => 15
  | _ => 0

/-- The first fault of a START_LIST section: the code of R69 and the byte offset (R47, R48, R54 step 11). `before` holds the entries of
the START_LIST sections before it: a unit is listed twice wherever its two entries stand. -/
def startError (before : List StartEntry) (c : ImgSection) : Option ImgErr :=
  let p := c.payload
  let off := c.pos + 16
  let err := fun code k => some (⟨code, 11, c.index, off + 4 * k⟩ : ImgErr)
  let w := fun k => p.getD k 0
  let mode := fld (w 0) 31 30
  if p = [] then none
  else if p.length < 3 then err 0x0F 0
  else if mode = 3 then err 0x0E 0
  else if mode ≠ 0 ∧ fld (w 0) 15 0 ≠ 0 then err 0x0F 0
  else if mode ≠ 1 ∧ w 1 ≠ 0 then err 0x0F 1
  else if mode ≠ 1 ∧ fld (w 2) 15 0 ≠ 0 then err 0x0F 2
  else
    let es := startEntries p
    (es.zipIdx.find? fun e => 5 < e.1.unit || instanceMax e.1.unit < e.1.inst
        || (before ++ es.take e.2).any fun f => f.unit == e.1.unit && f.inst == e.1.inst).map fun e =>
      ⟨if 5 < e.1.unit then 0x0E else 0x0F, 11, c.index, off + 12 + 4 * e.2⟩

/-! ## What an image writes -/

/-- Every word an image writes, by byte address, in file order. -/
def imgWrites (l : List Word) : List (Nat × Word) :=
  (imgSects l).flatMap fun c => c.recs.flatMap fun r => r.data.zipIdx.map fun d => (r.addr + 4 * d.2, d.1)

end Sys2Proof.Machine
end

