-- ==== Sys2Proof/Machine/Mailbox.lean ====
section
/-!
DEFINITION. The rings of the mailbox (R482 to R484): the waiting command and the posting of responses.
-/

namespace Sys2Proof.Machine

/-- CMD_HEAD, CMD_TAIL, RSP_HEAD and RSP_TAIL, in this order from 0 (R501). -/
def mailReg (k : Nat) : Nat := blk 0x06 (0x020 + 4 * k)

/-- One of the four ring indices. -/
def State.mail (s : State) (k : Nat) : Nat := fld (s.reg (mailReg k)) 6 0

/-- The distance from one ring index to another, modulo 128 (R483). -/
def ringUsed (head tail : Nat) : Nat := (head + 128 - tail) % 128

/-- The response ring holds 64 responses (R483). -/
def State.ringFull (s : State) : Bool := 64 ≤ ringUsed (s.mail 2) (s.mail 3)

/-- Word `k` of the command slot at CMD_TAIL (R482, R483). -/
def State.slotWord (s : State) (k : Nat) : Word := s.wordAt (0x300000 + 32 * (s.mail 1 % 64) + 4 * k)

/-- A response is written into slot RSP_HEAD, RSP_HEAD advances and EVENT.RSP sets (R483). -/
def State.putReply (s : State) (l : List Word) : State :=
  let base := 0x300800 + 32 * (s.mail 2 % 64)
  let s := s.each l.zipIdx fun s c => s.setWord (base + 4 * c.2) c.1
  (s.setReg (mailReg 2) (BitVec.ofNat 32 ((s.mail 2 + 1) % 128))).raise 0x06 1

/-- A response is posted, or waits for a slot (R483). -/
def State.post (s : State) (l : List Word) : State :=
  if s.ringFull then { s with core := { s.core with replies := s.core.replies ++ [l] } } else s.putReply l

/-- The responses that wait are posted, oldest first, while slots are free (R483). -/
def State.drainReplies (s : State) : State :=
  let l := s.core.replies
  ({ s with core := { s.core with replies := [] } } : State).each l fun s r => s.post r

/-- Word 0 of the response to a command whose word 0 is `w` (R484). -/
def replyHead (w : Word) (status : Nat) : Word := BitVec.ofNat 32 (fld w 31 24 * 2 ^ 24 + status * 2 ^ 16 + fld w 15 0)

/-- CMD_TAIL advances once the core has read a slot (R483). -/
def State.takeSlot (s : State) : State := s.setReg (mailReg 1) (BitVec.ofNat 32 ((s.mail 1 + 1) % 128))

end Sys2Proof.Machine
end

