-- ==== Sys2Proof/Machine/Commit.lean ====
section
/-!
DEFINITION. Stage entries (R193 to R202), Shelf writes and copy lanes (R203 to R207), and commit groups (R208 to R219).
-/

namespace Sys2Proof.Machine

/-! ## Stage entries -/

/-- The address of field `f` of stage entry `n`: 0 STG_TARGET, 1 STG_LOC, 2 STG_LEN (R200). -/
def stageReg (n f : Nat) : Nat := blk 0x38 (0xD00 + 16 * n + 4 * f)

/-- The drawer a stage entry names (R201). -/
def State.stageDrawer (s : State) (n : Nat) : DrawerName :=
  let w := s.reg (stageReg n 0)
  ⟨bit w 31, fld w 26 24, fld w 7 0⟩

/-- The LOC and LEN a stage entry gives (R193). -/
def State.stageLoc (s : State) (n : Nat) : Word := s.reg (stageReg n 1)

/-- The length a stage entry gives, every bit of its word counted. -/
def State.stageLen (s : State) (n : Nat) : Nat := fld (s.reg (stageReg n 2)) 22 0

/-- An OWNER value that R168 and R171 refuse for a drawer. -/
def ownerBad (d : DrawerName) (loc : Word) : Bool :=
  let o := locOwner loc
  0x22 ≤ o || (0x20 ≤ o && locAdvance loc) || (o < 0x20 && !d.store && o / 4 != d.set)

/-- Two word ranges of one memory overlap. -/
def overlaps (base len base' len' : Nat) : Bool := len != 0 && len' != 0 && base < base' + len' && base' < base + len

/-- Two names denote drawers of one memory. -/
def DrawerName.sameMem (d d' : DrawerName) : Bool := d.store == d'.store && (d.store || d.set == d'.set)

/-- The enabled drawers other than `d` that lie in its memory. -/
def State.otherDrawers (s : State) (d : DrawerName) : List DrawerName :=
  s.enabledDrawers.filter fun d' => d'.sameMem d && d' != d

/-- The other READY entries. -/
def State.otherReady (s : State) (n : Nat) : List Nat :=
  (List.range 16).filter fun m => m != n && (s.stage m).st == .ready

/-- The cause of the first check that entry `n` fails, 0 when every one passes (R194). -/
def State.stageCause (s : State) (n : Nat) : Nat :=
  let d := s.stageDrawer n
  let loc := s.stageLoc n
  let base := locBase loc
  let len := s.stageLen n
  if !d.exists_ then 1
  else if drawerMemWords d < base + len || (!d.store && 524287 < base) then 2
  else if locAdvance loc != locAdvance (s.loc d) || (!locAdvance loc && locTb loc != locTb (s.loc d)) then 3
  else if ownerBad d loc then 4
  else if (s.otherDrawers d).any (fun d' => overlaps base len (locBase (s.loc d')) (s.len d'))
      || (s.otherReady n).any (fun m => (s.stageDrawer m).sameMem d
          && overlaps base len (locBase (s.stageLoc m)) (s.stageLen m)) then 5
  else if (s.otherReady n).any (fun m => s.stageDrawer m == d) then 6
  else if d.store && len != 0 && (List.range 4).any (fun q =>
      overlaps base len (q * 1048576) 1048576 && !(s.domain (9 + q))) then 7
  else 0

/-- A stage entry becomes REFUSED (R193, R197). -/
def State.stageRefuse (s : State) (n cause : Nat) : State :=
  (s.setStage n ⟨.refused, BitVec.ofNat 4 cause, (s.stage n).appliedAt⟩).raise 0x38 3

/-- A write to a field of a stage entry, or a CANCEL, returns it to IDLE (R195). A reserved encoding has no effect, and leaves the entry
as it is (R201); so has a STG_LOC with a reserved OWNER (DESIGN CHOICE, log entry 83). -/
def State.writeStage (s : State) (n f : Nat) (w : Word) : State :=
  let a := stageReg n f
  if legalWrite a (rowAt a).rw w then
    (s.setReg a (w &&& (rowAt a).rw)).setStage n { Stage.reset with appliedAt := (s.stage n).appliedAt }
  else s

/-- A write of STG_CTRL.CMD (R193, R195, R202). -/
def State.stageCommand (s : State) (n cmd : Nat) : State :=
  match cmd with
  | 1 => s.setStage n ⟨.checking, 0, (s.stage n).appliedAt⟩
  | 2 => s.setStage n ⟨.idle, 0, (s.stage n).appliedAt⟩
  | _ => s

/-- STAGE_ENTRY_WRITE (R195, R201). -/
def execStageEntryWrite (n : Fin 16) (field : Fin 3) (w : Word) (t : Nat) (s : State) : Host.Outcome State Fault Refusal :=
  .next ((s.upTo t).hostActs (.stageEntryWrite n field w t) fun s => s.writeStage n field w)

/-- STAGE_ARM (R193). -/
def execStageArm (n : Fin 16) (t : Nat) (s : State) : Host.Outcome State Fault Refusal :=
  .next ((s.upTo t).hostActs (.stageArm n t) fun s => s.stageCommand n 1)

/-- STAGE_CANCEL (R195). -/
def execStageCancel (n : Fin 16) (t : Nat) (s : State) : Host.Outcome State Fault Refusal :=
  .next ((s.upTo t).hostActs (.stageCancel n t) fun s => s.stageCommand n 2)

/-- STAGE_CHECK_END: a CHECKING entry becomes READY or REFUSED (R193, R194). -/
def execStageCheckEnd (n : Fin 16) (t : Nat) (s : State) : Host.Outcome State Fault Refusal :=
  let s := s.upTo t
  .next (if (s.stage n).st = .checking then
      let c := s.stageCause n
      if c = 0 then s.setStage n { s.stage n with st := .ready, cause := 0 } else s.stageRefuse n c
    else s)

/-! ## Lanes (R203 to R207, R218) -/

/-- A copy lane. -/
def State.lane (s : State) : LaneName → Lane
  | .engine e => (s.eng e).lane
  | .router => s.router.lane

/-- The state with a copy lane replaced. -/
def State.setLane (s : State) (l : LaneName) (x : Lane) : State :=
  match l with
  | .engine e => s.setEng e { s.eng e with lane := x }
  | .router => s.setRouter { s.router with lane := x }

/-- All copy lanes (R205). -/
def allLanes : List LaneName := .router :: (List.finRange 32).map .engine

/-- The lane's SHELF_BUSY (R205, R218). -/
def State.laneBusy (s : State) (l : LaneName) : Bool := (s.lane l).job != .idle

/-- The place of a lane's Shelf word, then of its Table word. -/
def State.laneWord (s : State) (l : LaneName) (a : Nat) : Nat × Nat :=
  match l with
  | .engine e => (yAddr e (!(s.eng e).tableBank) a, yAddr e (s.eng e).tableBank a)
  | .router => (routerAddr (!s.router.tableBank) a, routerAddr s.router.tableBank a)

/-- The control block that answers for a lane's memory. -/
def laneBlock : LaneName → Nat
  | .engine e => 0x40 + e
  | .router => 0x30

/-- A write lands in the Shelf and marks its word dirty (R203); the lane keeps what it replaced until the next cycle (R206). -/
def State.landShelf (s : State) (l : LaneName) (a : Nat) (w : Word) : State :=
  let p := (s.laneWord l a).1
  let x := s.lane l
  let r : LandedWrite := ⟨a, w, s.wordAt p, s.bad p, !(x.dirty.contains a)⟩
  let s := (s.setWord p w).good p
  s.setLane l { s.lane l with dirty := joinKeys x.dirty [a], landedAt := s.now, landed := r :: x.landedNow s.now }

/-- A Shelf write lands, or waits while its lane is busy (R203, R206, R207). -/
def State.writeShelf (s : State) (l : LaneName) (a : Nat) (w : Word) : State :=
  if s.laneBusy l then s.setLane l { s.lane l with waiting := (s.lane l).waiting ++ [.write a w] } else s.landShelf l a w

/-- A Shelf write of an FCLK unit: the loader or the control core (R39, R326, R493). -/
def State.fclkShelf (s : State) (l : LaneName) (a : Nat) (w : Word) : State :=
  let t := s.drew.writeShelf l a (s.crossed w)
  if s.fclkFast && !(s.laneBusy l) then t.fclkGood (t.laneWord l a).1 else t

/-- The lane copies `words` from Table to Shelf and clears their dirty bits; a word whose parity fails is copied as zero
(R29, R205, R218, R326). -/
def State.laneCopy (s : State) (l : LaneName) (words : List Nat) : State :=
  let s := s.each words fun s a =>
    let p := s.laneWord l a
    let s := s.parity (laneBlock l) [p.2]
    (s.fclkWrite p.1 (s.used p.2 (s.wordAt p.2))).fclkGood p.1
  s.setLane l { s.lane l with dirty := (s.lane l).dirty.filter fun a => !(words.contains a) }

/-- The lane is free: what waited on it lands, in order, until a REVERT that waited starts its copy (R206, R218). -/
def State.laneDrain (s : State) (l : LaneName) : List LaneWait → State
  | [] => s.setLane l { s.lane l with job := .idle, waiting := [] }
  | .write a w :: r => (s.landShelf l a w).laneDrain l r
  | .revert g :: r => s.setLane l { s.lane l with job := .revert g, waiting := r }

/-- The lane's copy ends. -/
def State.laneEnd (s : State) (l : LaneName) (words : List Nat) : State :=
  let s := s.laneCopy l words
  s.laneDrain l (s.lane l).waiting

/-- A lane has still to finish group `g`'s REVERT. -/
def Lane.reverts (x : Lane) (g : Nat) : Bool := x.job == .revert g || x.waiting.contains (.revert g)

/-- A Shelf write to a router table address: reserved encodings and unlisted offsets have no effect (R7, R256 to R260). -/
def State.writeRouterShelf (s : State) (a : Nat) (w : Word) : State :=
  match routerMask a with
  | some m => if routerLegal a w then s.writeShelf .router a (w &&& m) else s
  | none => s

/-- A Shelf write by a requester to a router table address (R7, R203, R326). -/
def State.routerShelfBy (s : State) (by_ : Requester) (a : Nat) (w : Word) : State :=
  match by_ with
  | .host => s.writeRouterShelf a w
  | .core => s.drew.writeRouterShelf a (s.crossed w)

/-- A Shelf write by a requester to word `a` of engine `e`'s Y memory (R203, R326). -/
def State.yShelfBy (s : State) (by_ : Requester) (e a : Nat) (w : Word) : State :=
  match by_ with
  | .host => s.writeShelf (.engine (Fin.ofNat 32 e)) a w
  | .core => s.fclkShelf (.engine (Fin.ofNat 32 e)) a w

/-- SHELF_WRITE: a host or core write to a Y Shelf view or to the router tables (R11, R203, R206, R207). -/
def execShelfWrite (by_ : Requester) (a : Addr) (w : Word) (t : Nat) (s : State) : Host.Outcome State Fault Refusal :=
  let s := s.upTo t
  let n := wordOf a.toNat
  .next (s.actsBy by_ (.shelfWrite by_ a w t) fun s =>
    match regionOf n with
    | some (.yshelf e) =>
      if s.unitOn (e / 4 + 1) then s.yShelfBy by_ e (yIndex n) w
      else if by_ = .host then s.hostFault 0x02 n else s
    | some .xpt | some .tables =>
      if s.unitOn 13 then s.routerShelfBy by_ n w else if by_ = .host then s.hostFault 0x02 n else s
    | _ => s)

/-! ## Groups (R208 to R219) -/

/-- Stage entry `n` was applied in the present tick of the timebase that it was applied on. -/
def State.stageFresh (s : State) (n : Nat) : Bool :=
  match (s.stage n).appliedAt with
  | some (b, k) => (s.tb b).tickNo == k
  | none => false

/-- The timebase on which a member takes a commit (R210); a stage entry keeps the one on which it was applied for the rest of that tick,
until it is READY again. -/
def State.memberTb (s : State) : Member → Nat
  | .engine e => s.engTb e
  | .router => 0
  | .tdm p => s.tdmTb p
  | .bprx n => s.rxTb n
  | .bptx n => s.txTb n
  | .stage n =>
    let d := s.stageDrawer n
    if (s.stage n).st ≠ .ready ∧ s.stageFresh n then ((s.stage n).appliedAt.getD (0, 0)).1
    else if !d.exists_ then 0
    else if locAdvance (s.loc d) then s.engTb (locOwner (s.loc d) % 32) else locTb (s.loc d)

/-- The members of group `g` on timebase `n` that have still to take its outstanding commit (R210); one that waits for the end of a
squeezed Round no longer counts (R86). -/
def State.dueMembers (s : State) (g n : Nat) : List Member :=
  (s.members g).filter fun m => s.memberTb m == n && !((s.grp g).taken.contains m)
    && (match m with | .engine e => !((s.grp g).late.contains e) | _ => true)

/-- Timebase `n` has a part in the outstanding commit of group `g`: TB0 where the group has no member (R208). -/
def State.groupHas (s : State) (g n : Nat) : Bool := if s.members g = [] then n == 0 else (s.dueMembers g n) != []

/-- The member's power domain, 0 for one that is always on (R535). -/
def memberDomain : Member → Nat
  | .engine e => e / 4 + 1
  | .router => 13
  | .tdm p => tdmDomain p
  | .bprx _ | .bptx _ => 16
  | .stage _ => 0

/-- The member a byte address belongs to. -/
def memberAt (a : Nat) : Option Member :=
  match regionOf a with
  | some (.program e) | some (.xmem e) | some (.ytable e) | some (.yshelf e) => some (.engine e)
  | some .xpt | some .tables => some .router
  | some (.control b) =>
    if 0x40 ≤ b ∧ b < 0x60 then some (.engine (b - 0x40))
    else if 0x30 ≤ b ∧ b < 0x33 then some .router
    else if 0x10 ≤ b ∧ b < 0x20 then some (.tdm (b - 0x10))
    else if 0x20 ≤ b ∧ b < 0x24 then some (.bprx (b - 0x20))
    else if 0x24 ≤ b ∧ b < 0x28 then some (.bptx (b - 0x24))
    else if b = 0x38 ∧ 0xD00 ≤ a % 0x1000 ∧ a % 0x1000 < 0xE00 then some (.stage ((a % 0x1000 - 0xD00) / 16))
    else none
  | _ => none

/-- The loader in APPLYING writes the member (R58). -/
def State.applyWrites (s : State) (m : Member) : Bool :=
  s.loader.st == .applying && (imgWrites s.loader.staged).any fun c => memberAt c.1 == some m

/-- The member's last exchange fell in the present tick of its timebase (R216). -/
def State.exchangedNow (s : State) (m : Member) : Bool :=
  let now := some (s.tb (s.memberTb m)).tickNo
  match m with
  | .engine e => (s.eng e).lane.exchanged == now
  | .router => s.router.lane.exchanged == now
  | .stage n => (s.stage n).st != .ready && s.stageFresh n
  | _ => false

/-- The member makes its group defer: it re-shelves, reverts, or is being applied (R213). -/
def State.memberBusy (s : State) (m : Member) : Bool :=
  s.applyWrites m || (match m with
    | .engine e => (s.eng e).lane.job != .idle && !(s.exchangedNow m)
    | .router => s.router.lane.job != .idle && !(s.exchangedNow m)
    | _ => false)

/-- STAGE_APPLY (R196, R202). -/
def State.stageApply (s : State) (n : Nat) : State :=
  if (s.stage n).st ≠ .ready then s.raise 0x38 4
  else
    let d := s.stageDrawer n
    let len := s.stageLen n
    let o := if len = 0 then 0 else s.origin d % len
    let b := s.memberTb (.stage n)
    let tick := (s.tb b).tickNo
    let s := ((s.setReg (locAddr d) (s.stageLoc n)).good (locAddr d)).setReg (lenAddr d) (BitVec.ofNat 32 len)
    (((((s.good (lenAddr d)).setOrigin d o).good (originAddr d)).setStage n ⟨.idle, 0, some (b, tick)⟩)).raise 0x38 2

/-- The member takes the commit in its Round boundary, so that the commit does not wait for a squeezed Round's end (R86). -/
def State.atBoundary (s : State) : Member → Bool
  | .engine e => !((s.eng e).st == .running && ((s.eng e).inRound || (s.eng e).awaits))
  | _ => true

/-- The member takes the commit in the present tick: one exchange for every group due in it (R204, R216). -/
def State.memberTake (s : State) (m : Member) : State :=
  if s.exchangedNow m then s
  else
    let tick := some (s.tb (s.memberTb m)).tickNo
    match m with
    | .engine e =>
      let s := s.engExchange e
      s.setEng e { s.eng e with lane := { (s.eng e).lane with exchanged := tick } }
    | .router =>
      let s := s.routerExchange
      s.setRouter { s.router with lane := { s.router.lane with exchanged := tick } }
    | .tdm p => s.tdmCommit p
    | .bprx _ => s
    | .bptx n => s.txArm n
    | .stage n => s.stageApply n

/-- The group's commit is due on timebase `n` at its present tick (R210). -/
def State.groupDue (s : State) (g n : Nat) : Bool :=
  let x := s.grp g
  let tick := (s.tb n).tickNo
  x.st != .idle && !(s.holding n) && s.groupHas g n
    && decide (look 0 x.from_ n < tick) && look 0 x.deferredAt n != tick
    && (match x.sched with | some c => decide (c ≤ s.tickCount.toNat) | none => true)

/-- Timebase `n` no longer defers group `g`; a DEFERRED group whose due members are all free is PENDING (R219). -/
def State.groupFree (s : State) (g n : Nat) : State :=
  let x := s.grp g
  let l := x.deferring.filter (· != n)
  s.setGrp g { x with deferring := l, st := if x.st = .deferred ∧ l = [] then .pending else x.st }

/-- The engines among `ms` that are still in a squeezed Round: they take the commit at its publication (R86). -/
def State.groupLate (s : State) (g : Nat) (ms : List Member) : State :=
  let es := ms.filterMap fun m => match m with | .engine e => if s.atBoundary m then none else some e | _ => none
  s.setGrp g { s.grp g with late := es ++ (s.grp g).late }

/-- The members of group `g` on timebase `n` take its commit, or all of them defer (R211, R213, R215, R219). -/
def State.groupAct (s : State) (g n : Nat) : State :=
  let s := s.parity 0x0A [groupReg g 0, groupReg g 1, groupReg g 2]
  let ms := s.dueMembers g n
  let on := fun m => memberDomain m == 0 || s.domain (memberDomain m)
  if (ms.filter on).any s.memberBusy then s.groupDefer g n
  else
    let s := if ms.all on then s else s.raise 0x0A 4
    let waits := (ms.filter on).filter fun m => !(s.atBoundary m)
    let s := (s.groupFree g n).groupLate g waits
    let s := s.each ((ms.filter on).filter s.atBoundary) State.memberTake
    s.groupTook g (ms.filter fun m => !(waits.contains m))

/-- The tick numbers of the four timebases. -/
def State.tickNumbers (s : State) : Sparse Nat := [0, 1, 2, 3].foldl (fun l n => put 0 l n (s.tb n).tickNo) []

/-- COMMIT_NOW's effect: it replaces any outstanding commit (R210, R217). -/
def State.commitGroup (s : State) (g : Nat) : State := s.setGrp g { Group.reset with st := .pending, from_ := s.tickNumbers }

/-- C as SCHED_TICK holds it (R226). -/
def State.schedTick (s : State) : Nat := fld (s.reg (blk 0x0A 0x018)) 15 0 * 2 ^ 32 + (s.reg (blk 0x0A 0x014)).toNat

/-- SCHEDULE's effect (R212, R217, R219). -/
def State.scheduleGroup (s : State) (g c : Nat) : State :=
  if c ≤ s.tickCount.toNat then ((s.commitGroup g).raise 0x0A 2).bump (blk 0x0A 0x034)
  else
    let s := s.setGrp g { Group.reset with st := .scheduled, sched := some c, from_ := s.tickNumbers }
    (s.setReg (groupReg g 4) (BitVec.ofNat 32 (c % 2 ^ 32))).setReg (groupReg g 5) (BitVec.ofNat 32 (c / 2 ^ 32))

/-- A REVERT of group `g` asks lane `l` for its copy (R218). -/
def State.laneRevert (s : State) (l : LaneName) (g : Nat) : State :=
  let x := s.lane l
  s.setLane l (if x.job = .idle then { x with job := .revert g } else { x with waiting := x.waiting ++ [.revert g] })

/-- No staged pointer word of engine `e` has been written since it was made live. -/
def State.ptrStale (s : State) (e : Nat) : State := s.setEng e { s.eng e with ptrFresh := [] }

/-- The staged pointer configuration of an engine returns to its live values (R218). -/
def State.ptrRevert (s : State) (e : Nat) : State :=
  (s.each (List.range 8) fun s n => s.each (List.range 3) fun s k =>
    s.setReg (engReg e (0x100 + 16 * n + 4 * k)) (look 0 (s.eng e).ptrLive (4 * n + k))).ptrStale e

/-- What a REVERT of group `g` does to a member (R218). -/
def State.memberRevert (s : State) (g : Nat) : Member → State
  | .engine e => (s.ptrRevert e).laneRevert (.engine (Fin.ofNat 32 e)) g
  | .router => s.hpfRevert.laneRevert .router g
  | .tdm p => s.tdmRevert p
  | .bptx n => s.txRevert n
  | .bprx _ => s
  | .stage _ => s

/-- REVERT's effect (R217, R218). -/
def State.revertGroup (s : State) (g : Nat) : State :=
  let s := (s.setGrp g Group.reset).each (s.members g) fun s m => s.memberRevert g m
  if allLanes.any fun l => (s.lane l).reverts g then s else s.raise 0x0A 5

/-- An ACTION of COMMIT.CMD on group `g`; a reserved one has no effect (R7, R227). -/
def State.groupCommand (s : State) (g action c : Nat) : State :=
  match action with
  | 1 => s.commitGroup g
  | 2 => s.scheduleGroup g c
  | 3 => s.setGrp g Group.reset
  | 4 => s.revertGroup g
  | _ => s

/-- A word written to COMMIT.CMD (R227). -/
def State.commitCmd (s : State) (w : Word) : State := s.groupCommand (fld w 4 0) (fld w 10 8) s.schedTick

/-! ## The lanes' ends -/

/-- Lane `l` has still a write to land. -/
def State.laneWaits (s : State) (l : LaneName) : Bool :=
  (s.lane l).waiting.any fun w => match w with | .write _ _ => true | .revert _ => false

/-- The core's Shelf writes have landed: it commits the groups, starts the engines and the DMA channels, and answers (R487, R493, R494). -/
def State.autoDone (s : State) (a : AutoWait) : State :=
  let s := s.each a.groups fun s g => s.commitGroup g
  let s := s.each a.engines fun s e => if s.unitOn (e / 4 + 1) then s.cmdStart e else s
  let s := s.each a.chans fun s c => s.chanStart c
  match a.reply with | some r => s.post r | none => s

/-- The core commits, starts or answers once what it waits for has landed: a commit or a start waits for every Shelf write that stands
before it, an answer for those of its own control value (R493, R494; log entry 96). -/
def State.coreDoes (s : State) (a : AutoWait) : State :=
  let lanes := if a.groups = [] ∧ a.engines = [] ∧ a.chans = [] then a.lanes else allLanes.filter fun l => s.laneWaits l
  if lanes = [] then s.autoDone a else s.setCore { s.core with autoWait := s.core.autoWait ++ [{ a with lanes := lanes }] }

/-- What waited on lane `l` has landed: what the core has nothing more to wait for acts (R493, R494). -/
def State.autoLanded (s : State) (l : LaneName) : State :=
  if s.laneWaits l then s
  else
    let w := s.core.autoWait.map fun a => { a with lanes := a.lanes.filter (· != l) }
    (s.setCore { s.core with autoWait := w.filter fun a => a.lanes != [] }).each (w.filter fun a => a.lanes == []) fun s a =>
      s.autoDone a

/-- The copy lanes run: SW17 is on, its clock gate open, and FCLK runs (R205, R324, R330). -/
def State.lanesRun (s : State) : Bool := s.unitOn 17 && s.clkRuns .fclk

/-- RESHELVE_END: the lane's re-shelve is done. It waits while SW17 is off or its clock gated (R205, R330). -/
def execReshelveEnd (l : LaneName) (t : Nat) (s : State) : Host.Outcome State Fault Refusal :=
  let s := s.upTo t
  .next (match (s.lane l).job with
    | .reshelve words => if s.lanesRun then (s.laneEnd l words).autoLanded l else s
    | _ => s)

/-- REVERT_DONE: the lane's REVERT copy is done; with the group's last lane the flag sets (R218). -/
def execRevertDone (l : LaneName) (t : Nat) (s : State) : Host.Outcome State Fault Refusal :=
  let s := s.upTo t
  .next (match (s.lane l).job with
    | .revert g =>
      if s.lanesRun then
        let s := (s.laneEnd l (s.lane l).dirty).autoLanded l
        if allLanes.any fun l => (s.lane l).reverts g then s else s.raise 0x0A 5
      else s
    | _ => s)

/-! ## Commands -/

/-- COMMIT_NOW (R210). -/
def execCommitNow (g : Fin 32) (t : Nat) (s : State) : Host.Outcome State Fault Refusal :=
  .next ((s.upTo t).hostActs (.commitNow g t) fun s => s.groupCommand g 1 0)

/-- SCHEDULE at SCHED_TICK (R212). -/
def execSchedule (g : Fin 32) (t : Nat) (s : State) : Host.Outcome State Fault Refusal :=
  .next ((s.upTo t).hostActs (.schedule g t) fun s => s.groupCommand g 2 s.schedTick)

/-- CANCEL (R217). -/
def execCancel (g : Fin 32) (t : Nat) (s : State) : Host.Outcome State Fault Refusal :=
  .next ((s.upTo t).hostActs (.cancel g t) fun s => s.groupCommand g 3 0)

/-- REVERT (R218). -/
def execRevert (g : Fin 32) (t : Nat) (s : State) : Host.Outcome State Fault Refusal :=
  .next ((s.upTo t).hostActs (.revert g t) fun s => s.groupCommand g 4 0)

/-- COMMIT_DUE: group `g`'s members on timebase `tb` at its present tick (R204, R211, R213). -/
def execCommitDue (g : Fin 32) (tb : Fin 4) (t : Nat) (s : State) : Host.Outcome State Fault Refusal :=
  let s := s.upTo t
  .next (if s.groupDue g tb then s.groupAct g tb else s)

end Sys2Proof.Machine
end

