-- ==== Sys2Proof/Machine/Time.lean ====
section
/-!
DEFINITION. Timebases: the tick and what every unit does at it, frame marks, glitches, flywheel, hold, and the system counter's
alignment (R13 to R18, R335 to R343, R498). The delivery of sinks, commits, Rounds and the matrix are commands of their own
within the tick.
-/

namespace Sys2Proof.Machine

/-- ECLK runs: from XCLK while its edges arrive, from the DCO while that is on, and never in deep-sleep (R324, R325, R456). -/
def State.eclkRuns (s : State) : Bool :=
  s.clkRuns .eclk && s.power.mode != .deepSleep

/-- The state with timebase `n` updated. -/
def State.mapTb (s : State) (n : Nat) (f : Timebase → Timebase) : State := s.setTb n (f (s.tb n))

/-! ## What happens at a tick -/

/-- FUNCi (R500). -/
def State.gpioFunc (s : State) (i : Nat) : Word := s.reg (blk 0x0B (0x040 + 4 * i))

/-- Pin `i` is a TICK_OUT of timebase `n` (R495, R498). -/
def State.isTickOut (s : State) (i n : Nat) : Bool := fld (s.gpioFunc i) 2 0 == 2 && fld (s.gpioFunc i) 7 6 == n

/-- A 16-bit word with bit `i` set to `b`. -/
def setBit16 (w : BitVec 16) (i : Nat) (b : Bool) : BitVec 16 :=
  if b then w ||| BitVec.ofNat 16 (2 ^ i) else w &&& ~~~ BitVec.ofNat 16 (2 ^ i)

/-- TICK_OUT: the pins of timebase `n` are driven high, or toggle with WIDTH 0 (R498). -/
def State.tickOut (s : State) (n : Nat) : State :=
  s.each (List.range 16) fun s i =>
    if s.isTickOut i n then
      let g := s.gpio
      let b := fld (s.gpioFunc i) 15 8 != 0 || !(g.tickOut.getLsbD i)
      { s with gpio := { g with tickOut := setBit16 g.tickOut i b, tickAt := put 0 g.tickAt i (s.tb n).lastTick } }
    else s

/-- A timebase that makes no ticks drives its TICK_OUT pins low, or holds them with WIDTH 0 (R498). -/
def State.tickOutHold (s : State) (n : Nat) : State :=
  s.each (List.range 16) fun s i =>
    if s.isTickOut i n && fld (s.gpioFunc i) 15 8 != 0 then
      { s with gpio := { s.gpio with tickOut := setBit16 s.gpio.tickOut i false } }
    else s

/-- The TB0 tick count at a tick: one more, or ALIGN_VALUE at the first tick that begins more than 128 ECLK cycles after an
ALIGN (R341, R342). -/
def State.countTick (s : State) (before : Nat) : State :=
  match s.alignAt with
  | some (v, r) =>
    { s with tickCount := if before ≤ r + 128 ∧ r + 128 < (s.tb 0).lastTick then v else s.tickCount + 1 }
  | none => { s with tickCount := s.tickCount + 1 }

/-- The router's own sources of timebase `n` take their values: streams, and on TB0 the generators. While SW13 is off they are
zero (R10, R244, R246). -/
def State.routerSources (s : State) (n : Nat) : State :=
  if !(s.domain 13) then
    let own := fun i => (520 ≤ i && i < 584 && s.streamTb false (i - 520) == n) || (1096 ≤ i && n == 0)
    s.setRouter { s.router with src := s.router.src.filter fun c => !own c.1 }
  else if s.gated 9 then s
  else
    let s := s.each (List.range 64) fun s m => if s.streamTb false m = n then s.streamTick m else s
    if n = 0 then s.each (List.range 8) fun s k => s.genTick k else s

/-- The perturbation controls of timebase `n`'s units act from this tick on (R507). -/
def State.provokeTick (s : State) (n : Nat) : State :=
  if s.provoked == Provoked.reset && !(s.regs.any fun c => blk 0xF0 0x020 ≤ c.1 && c.1 < blk 0xF0 0x10C) then s
  else
    let s := s.each (List.range 32) fun s e => if s.engTb e = n then s.latTick e else s
    let s := s.each (List.range 16) fun s p => if s.tdmTb p = n then (s.bpTick p).loopTick p else s
    s.each (List.range 4) fun s m => if s.rxTb m = n then (s.bpTick (16 + m)).loopTick (16 + m) else s

/-- Everything the members of timebase `n` do at step 1 of its tick (R15). -/
def State.tickUnits (s : State) (n : Nat) : State :=
  let s := ((s.provokeTick n).advanceTick n).sinkTick n
  let s := s.each (List.range 32) fun s e => if s.engTb e = n ∧ !(s.gated (e / 4)) then s.engTick e else s
  let s := s.each (List.range 16) fun s p => if s.tdmTb p = n ∧ !(s.gated (10 + p / 8)) then s.tdmTick p else s
  let s := s.each (List.range 4) fun s m => if s.rxTb m = n ∧ !(s.gated 12) then s.rxTick m else s
  let s := (s.routerSources n).crossTick n
  let s := s.setRouter { s.router with snap := put [] s.router.snap n s.router.src }
  let s := s.each (List.range 4) fun s m => if s.txTb m = n then s.txTick m else s
  (s.guardTick n).tickOut n

/-- A tick interval of timebase `n` that differs from P by more than P / 16 is a time slip (R339). -/
def State.slipCheck (s : State) (n interval : Nat) : State :=
  let p := (s.tb n).period
  if p < 16 * |(interval : Rat) - p| then (s.raise 0x03 6).bump (blk 0x03 (0x054 + 32 * n)) else s

/-- TICK_SHIFT's displacement for the next tick of timebase `n` in ECLK cycles (R507, R512). -/
def State.tickShiftOf (s : State) (n : Nat) : Int :=
  if n = 0 then (BitVec.ofNat 13 (fld (s.control 0x0F4) 12 0)).toInt else 0

/-- The instant of the mark, or of the flywheel's tick, that a command given now stands for. The command of a tick that TICK_SHIFT moves by
DISP cycles is given at the cycle of the moved tick, whose units act then (R507; DESIGN CHOICE, log entry 93). -/
def State.markAt (s : State) (n : Nat) : Nat := ((s.now : Int) - s.tickShiftOf n).toNat

/-- A tick of timebase `n`, due now: where TICK_SHIFT has moved it, the schedule of the next one stays (R15, R507, R509). `slips` when the
interval it closes may be a time slip, `real` when it is a mark taken in TRACKING (R337, R339). -/
def State.tick (s : State) (n : Nat) (slips real : Bool) : State :=
  let x := s.tb n
  let d := s.tickShiftOf n
  let now := s.now
  let interval := now - x.lastTick
  let s := if slips || d != 0 || x.shifted then s.slipCheck n interval else s
  let hist := match x.realTick, real with
    | some r, true => ((now - r) :: x.hist).take 16
    | _, _ => x.hist
  let period := match x.realTick, real with
    | some _, true => ((hist.foldl (· + ·) 0 : Nat) : Rat) / hist.length
    | _, _ => x.period
  let s := s.setTb n { x with
    hist := hist, period := period, ref := s.markAt n, lastTick := now, realTick := if real then some now else none,
    tickNo := x.tickNo + 1, shifted := d != 0, flyCancel := false, heldAt := now, frameAt := now,
    interval := if x.hasLast then interval else x.interval }
  let s := if d = 0 then s else s.setReg (blk 0xF0 0x0F4) 0
  let s := if x.shifted then s.raise 0xF0 2 else s
  let s := if n = 0 then ((s.countTick x.lastTick).stampTick).matrixClose interval else s
  let s := if n ≠ 0 then s else if real then s.discTick else s.discDrop 0
  let count := s.tickCount.toNat
  (s.mapTb n fun x => { x with evlPrev := x.evlAt, evlAt := some count }).tickUnits n

/-! ## States (R338) -/

/-- What the units of timebase `n` do when it ceases to make ticks (R308, R319, R498). -/
def State.tbStops (s : State) (n : Nat) : State :=
  let s := s.each (List.range 4) fun s m => if s.txTb m = n then s.txHold m else s
  let s := s.each (List.range 32) fun s e => if s.engTb e = n ∧ (s.eng e).dueAt.isSome then s.dropRound e else s
  let s := if n = 0 then s.discDrop 0 else s
  s.tickOutHold n

/-- The timebase enters HOLD; `mark` is the mark that came at this instant (R338). -/
def State.tbHold (s : State) (n : Nat) (mark : Option Nat) : State :=
  let s := s.mapTb n fun x => { x with
    st := .hold, realTick := none, acq := [], lastMark := mark, fly := 0, flyCancel := false, glitched := false,
    glitchRun := 0 }
  ((s.raise 0x03 5).bump (blk 0x03 (0x05C + 32 * n))).tbStops n

/-- The timebase enters ACQUIRE, or OFF with no source or with ECLK stopped, and measures marks afresh (R338). -/
def State.tbEnter (s : State) (n : Nat) : State :=
  let s := if (s.tb n).shifted then s.raise 0xF0 2 else s
  let stops := !(s.holding n)
  let st : TbState := if s.tbKind n = 0 ∨ !s.eclkRuns then .off else .acquire
  let s := s.mapTb n fun x => { x with
    st := st, realTick := none, acq := [], lastMark := none, fly := 0, flyCancel := false, glitched := false, glitchRun := 0,
    shifted := false }
  if stops then s.tbStops n else s

/-- The timebase's source is set, or ECLK switched: P takes the nominal count (R338). A first P starts the count of the periods of
its hold. -/
def State.tbAcquire (s : State) (n : Nat) : State :=
  let p : Rat := s.nominal n
  let now := s.now
  (s.mapTb n fun x => { x with
    period := p, hist := [], mismatch := false, heldAt := if x.period = 0 then now else x.heldAt,
    frameAt := if x.period = 0 then now else x.frameAt }).tbEnter n

/-- A parity error in timebase `n`'s structural words stops it: it goes OFF, and CTRL_PARITY sets in the TIME block (R29; log entry
74). -/
def State.tbParity (s : State) (n : Nat) : State :=
  if s.tbBad n && (s.tb n).st != .off then (s.raise 0x03 0).tbEnter n else s

/-- ECLK stops, and every timebase goes OFF with P as it was; or it runs again, and a timebase with a source goes on to ACQUIRE, where
P is nominal (R337, R338). -/
def State.tbClock (s : State) : State :=
  s.each [0, 1, 2, 3] fun s n =>
    if s.eclkRuns then (if (s.tb n).st = .off ∧ s.tbKind n ≠ 0 then s.tbAcquire n else s)
    else if (s.tb n).st = .off then s else s.tbEnter n

/-- The timebase enters TRACKING from ACQUIRE or HOLD with the four agreeing intervals `l`, newest first (R337, R338). -/
def State.tbTrack (s : State) (n : Nat) (l : List Nat) : State :=
  let p : Rat := ((l.foldl (· + ·) 0 : Nat) : Rat) / 4
  let nom : Rat := s.nominal n
  let mark := s.now
  (s.mapTb n fun x => { x with
    st := .tracking, period := p, hist := l, ref := mark, realTick := none, acq := [], lastMark := some mark, fly := 0,
    flyCancel := false, glitched := false, glitchRun := 0, mismatch := decide (nom < 100 * |p - nom|) }).raise 0x03 7

/-- A mark in ACQUIRE or HOLD (R338). -/
def State.markAcquire (s : State) (n : Nat) : State :=
  let x := s.tb n
  let l := match x.lastMark with
    | some m => ((s.now - m) :: x.acq).take 4
    | none => []
  let sum := l.foldl (· + ·) 0
  let high := l.foldl max 0
  let low := l.foldl min high
  if l.length = 4 ∧ 400 * (high - low) ≤ sum then s.tbTrack n l
  else
    let mark := s.now
    s.mapTb n fun x => { x with acq := l, lastMark := some mark }

/-- The run of tick intervals that hold a glitch, with the one that the present tick closes; the first tick after ACQUIRE or HOLD
closes none (R338). -/
def Timebase.closeRun (x : Timebase) : Nat := if x.glitched && x.hasLast then x.glitchRun + 1 else 0

/-- The timebase with the interval the present tick closes counted. -/
def State.closeInterval (s : State) (n : Nat) : State :=
  s.mapTb n fun x => { x with glitchRun := x.closeRun, glitched := false }

/-- A mark in TRACKING: a glitch, or a tick (R337, R338). One that comes after P + P / 16 finds the flywheel's tick made. -/
def State.markTracking (s : State) (n : Nat) : State :=
  let x := s.tb n
  let mark := s.markAt n
  let d : Rat := (mark - x.ref : Nat)
  if d < 3 / 4 * x.period then
    (s.mapTb n fun x => { x with glitched := true, lastMark := some mark }).bump (blk 0x03 (0x050 + 32 * n))
  else
    let hold := 16 ≤ x.closeRun
    let s := (s.closeInterval n).tick n x.hasLast true
    let s := s.mapTb n fun x => { x with lastMark := some mark }
    if hold then s.tbHold n (some mark) else s

/-- A mark in FLYWHEEL: the second of two spaced P ± P / 16 returns to TRACKING (R338, R339). -/
def State.markFly (s : State) (n : Nat) : State :=
  let x := s.tb n
  let mark := s.markAt n
  let near := match x.lastMark with
    | some m => decide (16 * |((mark - m : Nat) : Rat) - x.period| ≤ x.period)
    | none => false
  if !near then s.mapTb n fun x => { x with lastMark := some mark }
  else
    let phi : Rat := (mark - x.lastTick : Nat)
    let s := s.mapTb n fun x => { x with
      st := .tracking, lastMark := some mark, fly := 0, glitched := false, glitchRun := 0, realTick := none }
    if x.period / 2 ≤ phi then s.tick n true true
    else s.mapTb n fun x => { x with ref := mark, flyCancel := true }

/-- The source of timebase `n` can give marks (R298, R316, R335). -/
def State.marksSeen (s : State) (n : Nat) : Bool :=
  match s.tbKind n with
  | 1 => s.domain (tdmDomain (s.tbIndex n))
  | 2 => ((s.rx (s.tbIndex n)).st == .running || (s.rx (s.tbIndex n)).st == .hold) && s.rxFrames (s.tbIndex n)
  | 3 => s.clocks.xclkOk
  | _ => false

/-- A mark hidden by TICK_SUPPRESS (R507, R509). -/
def State.suppress (s : State) : State :=
  let k := fld (s.control 0x0F8) 9 0
  let s := s.setReg (blk 0xF0 0x0F8) (BitVec.ofNat 32 (k - 1))
  if k = 1 then s.raise 0xF0 2 else s

/-- A frame mark of timebase `n`'s source, judged by the timebase's state (R337, R338). -/
def State.mark (s : State) (n : Nat) : State :=
  let s := if (s.tb n).st = .off then s.tbAcquire n else s
  match (s.tb n).st with
  | .off => s
  | .acquire | .hold => s.markAcquire n
  | .tracking => s.markTracking n
  | .flywheel => s.markFly n

/-! ## Commands -/

/-- A flywheel tick is due: P cycles have passed since the last tick (R338). -/
def State.flyDue (s : State) (n : Nat) : Bool :=
  (s.tb n).st == .flywheel && decide ((s.tb n).period.floor ≤ ((s.markAt n - (s.tb n).ref : Nat) : Int))

/-- A due flywheel tick is made, and the 257th one due sends the timebase to HOLD instead (R338). -/
def State.flyTick (s : State) (n : Nat) : State :=
  if 256 ≤ (s.tb n).fly then s.tbHold n (s.tb n).lastMark
  else ((s.mapTb n fun x => { x with fly := x.fly + 1 }).bump (blk 0x03 (0x058 + 32 * n))).tick n false false

/-- FRAME_MARK (R337, R338). A flywheel tick that is due by its cycle is made first. -/
def execFrameMark (tb : Fin 4) (t : Nat) (s : State) : Host.Outcome State Fault Refusal :=
  let s := (s.upTo t).tbParity tb
  let s := if s.flyDue tb then s.flyTick tb else s
  .next (if !(s.marksSeen tb) || !s.eclkRuns then s
    else if tb = 0 ∧ fld (s.control 0x0F8) 9 0 ≠ 0 then s.suppress
    else s.mark tb)

/-- FLYWHEEL_START: no mark by P + P / 16 after the reference; a tick is made and P is frozen (R338). After a return from FLYWHEEL whose
mark made no tick, the interval that this tick closes may be a time slip (R339). -/
def execFlywheelStart (tb : Fin 4) (t : Nat) (s : State) : Host.Outcome State Fault Refusal :=
  let s := (s.upTo t).tbParity tb
  let x := s.tb tb
  .next (if x.st = .tracking ∧ (17 / 16 * x.period).floor ≤ ((s.markAt tb - x.ref : Nat) : Int) then
      let hold := 16 ≤ x.closeRun
      let s := (s.closeInterval tb).mapTb tb fun x => { x with st := .flywheel, fly := 1, lastMark := none, realTick := none }
      let s := ((s.raise 0x03 4).bump (blk 0x03 (0x058 + 32 * tb))).tick tb x.flyCancel false
      if hold then s.tbHold tb none else s
    else s)

/-- FLYWHEEL_TICK: P cycles after the last tick a tick is made, and the 257th one due sends the timebase to HOLD instead
(R338). -/
def execFlywheelTick (tb : Fin 4) (t : Nat) (s : State) : Host.Outcome State Fault Refusal :=
  let s := (s.upTo t).tbParity tb
  .next (if s.flyDue tb then s.flyTick tb else s)

/-- The value in ALIGN_VALUE (R347). -/
def State.alignValue (s : State) : BitVec 48 :=
  (s.reg (blk 0x03 0x01C)).extractLsb' 0 16 ++ s.reg (blk 0x03 0x018)

/-- A request to align; a second one replaces the first (R342). -/
def State.askAlign (s : State) : State := { s with alignAt := some (s.alignValue, s.now) }

/-- ALIGN (R342). -/
def execAlign (t : Nat) (s : State) : Host.Outcome State Fault Refusal := .next ((s.upTo t).hostActs (.align t) State.askAlign)

/-- The items that a jump of the tick count passes fall due at the tick of the load: an ARMED engine on TB0 starts (R343). -/
def State.alignStarts (s : State) : State :=
  s.each (List.range 32) fun s e =>
    if s.engTb e = 0 ∧ (s.eng e).st = .armed ∧ s.startDue e then s.tickState e else s

/-- ALIGN_LOAD: the first TB0 tick that begins more than 128 ECLK cycles after the request has taken ALIGN_VALUE as its count
(`countTick`): the load is counted, and the items that the jump passed fall due (R342, R343). -/
def execAlignLoad (t : Nat) (s : State) : Host.Outcome State Fault Refusal :=
  let s := s.upTo t
  .next (match s.alignAt with
    | some (_, r) =>
      if r + 128 < (s.tb 0).lastTick then
        let a := blk 0x03 0x024
        let s := { s with alignAt := none }
        ((s.setReg a (s.reg a + 1)).raise 0x03 1).alignStarts
      else s
    | none => s)

end Sys2Proof.Machine
end

