-- ==== Sys2Proof/Machine/EventList.lean ====
section
/-!
DEFINITION. The services of the control core that act on their own: the control map (R489 to R493), the event list (R486 to R488)
and the GPIO pins (R495 to R498).
-/

namespace Sys2Proof.Machine

/-! ## Curves (R490) -/

/-- The greatest `n` below `2 ^ k + acc` whose `q`-th power is at most `num / den`, found bit by bit from `acc`. -/
def rootBelow (q num den : Nat) : (k acc : Nat) → Nat
  | 0, acc => acc
  | k + 1, acc => rootBelow q num den k (if (acc + 2 ^ k) ^ q * den ≤ num then acc + 2 ^ k else acc)

/-- `c * (b1 / b2) ^ (p / q)` for positive numbers, to nearest with ties to even; a result of `2 ^ 33` or more stands at
`2 ^ 33`. -/
def powNearest (c b1 b2 : Nat) (p : Int) (q : Nat) : Nat :=
  let up := if 0 ≤ p then b1 else b2
  let dn := if 0 ≤ p then b2 else b1
  let num := (2 * c) ^ q * up ^ p.natAbs
  let den := dn ^ p.natAbs
  let f := rootBelow q num den 35 0
  let tie := f ^ q * den == num
  min (2 ^ 33) (if f % 2 = 0 then f / 2 else if tie && (f / 2) % 2 == 0 then f / 2 else f / 2 + 1)

/-- The result of a DB curve at `x / 16,383` hundredths of a dB, times `2 ^ scale`. -/
def dbResult (x : Int) (scale : Nat) : Int := powNearest (2 ^ scale) 10 1 x (16383 * 2000)

/-- The result of an EXP curve between endpoints of one sign. -/
def expResult (lo hi : Int) (v : Nat) : Int :=
  let m := (powNearest lo.natAbs hi.natAbs lo.natAbs v 16383 : Int)
  if lo < 0 then -m else m

/-- The result of a TABLE curve over its 32 points. -/
def tableResult (p : Nat → Int) (v : Nat) : Int :=
  let i := v / 512
  if i < 31 then rneDiv (512 * p i + (v % 512 : Nat) * (p (i + 1) - p i)) 512 else p 31

/-! ## The control map (R489 to R493) -/

/-- The address of word `k` of control-map entry `i` (R489). -/
def mapAddr (i k : Nat) : Nat := 0x310000 + 16 * i + 4 * k

/-- Word `k` of control-map entry `i`. -/
def State.mapWord (s : State) (i k : Nat) : Word := s.wordAt (mapAddr i k)

/-- One of the four words of entry `i` at `f` is under a parity error (R29). -/
def State.entryBad (s : State) (f : Nat → Nat) : Bool := (List.range 4).any fun k => s.bad (f k)

/-- Entry `i` is VALID, and a parity error does not skip it. -/
def State.mapValid (s : State) (i : Nat) : Bool := !(s.entryBad (mapAddr i)) && bit (s.mapWord i 0) 31

/-- The indices of the VALID entries, from `i` on: the 8 entries after a TABLE entry are table data (R490, R491). `skip` counts
the data still to pass. -/
def State.mapEntries (s : State) : (n i skip : Nat) → List Nat
  | 0, _, _ => []
  | n + 1, i, skip + 1 => s.mapEntries n (i + 1) skip
  | n + 1, i, 0 =>
    if s.mapValid i then i :: s.mapEntries n (i + 1) (if fld (s.mapWord i 0) 28 27 = 3 then 8 else 0)
    else s.mapEntries n (i + 1) 0

/-- Entry `i` is table data of a VALID TABLE entry before it (R491). -/
def State.mapData (s : State) (i : Nat) : Bool :=
  (s.mapEntries i 0 0).any fun j => fld (s.mapWord j 0) 28 27 == 3 && decide (i ≤ j + 8)

/-- The bits of the control-map word at `a` that are not reserved in the entry as it stands; every bit of table data counts (R6,
R489, R491). -/
def State.mapMask (s : State) (a : Nat) : Word :=
  let i := (a - 0x310000) / 16
  if s.mapData i then 0xFFFFFFFF
  else match a % 16 / 4 with
    | 0 => 0xFFE0FFFF
    | 1 => if fld (s.mapWord i 0) 30 29 = 0 then 0x1F001FFF else 0x0003FFFF
    | _ => 0xFFFFFFFF

/-- The entry is skipped: a reserved TARGET, an EXP pair that breaks R490, or a TABLE entry above index 4,087 (R491). -/
def State.mapSkips (s : State) (i : Nat) : Bool :=
  let w := s.mapWord i 0
  let lo := (s.mapWord i 2).toInt
  let hi := (s.mapWord i 3).toInt
  2 ≤ fld w 30 29 || (fld w 28 27 == 2 && lo * hi ≤ 0) || (fld w 28 27 == 3 && 4087 < i)

/-- The result of entry `i` for value `v`, before it saturates (R490). -/
def State.mapResult (s : State) (i v : Nat) : Int :=
  let w := s.mapWord i 0
  let lo := (s.mapWord i 2).toInt
  let hi := (s.mapWord i 3).toInt
  match fld w 28 27 with
  | 0 => rneDiv (16383 * lo + (hi - lo) * v) 16383
  | 1 => if v = 0 then 0 else dbResult (16383 * lo + (hi - lo) * v) (if fld w 30 29 = 0 then 31 else 21)
  | 2 => expResult lo hi v
  | _ => tableResult (fun k => (s.wordAt (mapAddr (i + 1) k)).toInt) v

/-- A crosspoint word: ACTIVE with a gain saturated to Q3.21 (R257, R490). -/
def gainWord (r : Int) : Word := 0x80000000#32 ||| (BitVec.ofInt 24 (max (-8388608) (min 8388607 r))).zeroExtend 32

/-- Entry `i` writes its result to its Shelf word: the state, and the lane on which the write waits (R206, R493). A write into a
domain that is off is discarded. -/
def State.mapWrite (s : State) (i v : Nat) : State × Option LaneName :=
  let r := s.mapResult i v
  let w1 := s.mapWord i 1
  if fld (s.mapWord i 0) 30 29 = 0 then
    let e := fld w1 28 24
    let l : LaneName := .engine (Fin.ofNat 32 e)
    if s.unitOn (e / 4 + 1) then (s.yShelfBy .core e (fld w1 12 0) (sat31 r), if s.laneBusy l then some l else none) else (s, none)
  else if s.unitOn 13 then
    (s.routerShelfBy .core (xptAddr (fld w1 17 0)) (gainWord r), if s.laneBusy .router then some .router else none)
  else (s, none)

/-- The entries a control value acts on, in rising index order (R493). -/
def State.mapMatches (s : State) (c : Nat) : List Nat :=
  (s.mapEntries 4096 0 0).filter fun i => fld (s.mapWord i 0) 15 0 == c

/-- Control `c` takes value `v`; `reply` is the mailbox response to post when every step is done (R493). Entries under a parity
error set CTRL_PARITY (R29). -/
def State.setControl (s : State) (c v : Nat) (reply : Option (List Word)) : State :=
  let all := s.mapMatches c
  let s := s.parityIn 0x06 0x310000 0x320000
  let bad := all.filter s.mapSkips
  let s := if bad.isEmpty then s else (s.bumpBy (blk 0x06 0x040) bad.length).raise 0x06 6
  let good := all.filter fun i => !(s.mapSkips i)
  let groups := joinKeys [] ((good.filter fun i => bit (s.mapWord i 0) 26).map fun i => fld (s.mapWord i 0) 25 21)
  let q := good.foldl (fun (q : State × List LaneName) i =>
    let r := q.1.mapWrite i v
    (r.1, match r.2 with | some l => if q.2.contains l then q.2 else q.2 ++ [l] | none => q.2)) (s, [])
  q.1.coreDoes ⟨q.2, groups, reply, [], []⟩

/-! ## The event list (R486 to R488) -/

/-- The address of word `k` of event-list entry `i` (R486). -/
def evlAddr (i k : Nat) : Nat := 0x304000 + 16 * i + 4 * k

/-- Word `k` of event-list entry `i`. -/
def State.evlWord (s : State) (i k : Nat) : Word := s.wordAt (evlAddr i k)

/-- Entry `i` is VALID, and a parity error does not skip it. -/
def State.evlValid (s : State) (i : Nat) : Bool := !(s.entryBad (evlAddr i)) && bit (s.evlWord i 2) 31

/-- TICK of entry `i`. -/
def State.evlTick (s : State) (i : Nat) : Nat := fld (s.evlWord i 1) 15 0 * 2 ^ 32 + (s.evlWord i 0).toNat

/-- The TB0 tick TICK of VALID entry `i` has come (R488). -/
def State.evlDue (s : State) (i : Nat) : Bool := s.evlValid i && s.evlTick i ≤ s.tickCount.toNat

/-- The timebase of entry `i`. -/
def State.evlTb (s : State) (i : Nat) : Nat := fld (s.evlWord i 2) 25 24

/-- VALID entry `i` fell due at the latest tick of its timebase, or at an earlier one, since the list last resumed (R343, R459, R488). -/
def State.evlReady (s : State) (i : Nat) : Bool :=
  s.evlValid i && (s.tb (s.evlTb i)).evlAt.any fun c => decide (s.evlTick i ≤ c)

/-- Entry `i` fell due before the latest tick of its timebase. -/
def State.evlOld (s : State) (i : Nat) : Bool := (s.tb (s.evlTb i)).evlPrev.any fun c => decide (s.evlTick i ≤ c)

/-- Entry `j`, which has not fired, comes before entry `i` of its timebase: it fell due at an earlier tick, or at the same one with a lower
index. Of two entries that fell due before the latest tick, the model knows that much only where their TICKs are equal (R488). -/
def State.evlBefore (s : State) (j i : Nat) : Bool :=
  s.evlTb j == s.evlTb i && s.evlReady j
    && (if s.evlOld i then s.evlOld j && s.evlTick j == s.evlTick i && j < i else s.evlOld j || j < i)

/-- Entry `i` is the next of its timebase to fire (R488). -/
def State.evlTurn (s : State) (i : Nat) : Bool := s.evlReady i && (List.range 1024).all fun j => j == i || !(s.evlBefore j i)

/-- The control core's services run: SW19 and FCLK are on, and the core is past its ROM check, not halted and not asleep (R324, R472,
R473). -/
def State.coreRuns (s : State) : Bool :=
  s.unitOn 19 && s.clkRuns .fclk && !s.core.inReset && s.core.phase != .romCheck && s.core.phase != .halted && s.core.phase != .asleep

/-- The list fires: RUN is 1 and it is not paused (R488). -/
def State.evlRuns (s : State) : Bool := s.coreRuns && bit (s.reg (blk 0x06 0x01C)) 0 && !s.core.paused

/-- PORT_ENABLE: ARG[16] written to CTRL.EN of the unit that ARG names; a port whose domain is off does not take it, and a receiver or
transmitter number above 3 names no unit (R487). -/
def State.portEnable (s : State) (arg : Word) : State :=
  let en := bit arg 16
  let n := fld arg 3 0
  match fld arg 9 8 with
  | 0 => if !(s.unitOn (tdmDomain n)) then s else if en then s.tdmEnable n else s.tdmDisable n
  | 1 => if !(s.unitOn 16) || 4 ≤ n then s else if en then s.rxEnable n else s.rxDisable n
  | 2 => if !(s.unitOn 16) || 4 ≤ n then s else if en then s.txEnable n else s.txDisable n
  | _ => s

/-- An ACTION acts as the single write it names; a reserved one has no effect (R487). A commit or a start waits for the core's writes
(R494). -/
def State.evlAction (s : State) (action : Nat) (arg : Word) : State :=
  let e := fld arg 4 0
  let setOn := s.unitOn (e / 4 + 1)
  match action with
  | 1 => s.coreDoes ⟨[], [e], none, [], []⟩
  | 2 => if setOn then s.coreDoes ⟨[], [], none, [e], []⟩ else s
  | 3 => if setOn then s.cmdStop e else s
  | 4 => s.portEnable arg
  | 5 => s.setControl (fld arg 15 0) (fld arg 29 16) none
  | 6 => s.coreDoes ⟨[], [], none, [], [fld arg 3 0]⟩
  | 7 => if s.unitOn 17 then s.chanStop (fld arg 3 0) else s
  | _ => s

/-- The action of entry `i` acts. -/
def State.evlAct (s : State) (i : Nat) : State := s.evlAction (fld (s.evlWord i 2) 23 16) (s.evlWord i 3)

/-- The action of entry `i` lands at the next tick of its unit: a commit or an engine start (R488). -/
def State.evlNextTick (s : State) (i : Nat) : Bool :=
  let a := fld (s.evlWord i 2) 23 16
  a == 1 || a == 2
    || (a == 5 && (s.mapMatches (fld (s.evlWord i 3) 15 0)).any fun k => !(s.mapSkips k) && bit (s.mapWord k 0) 26)

/-- Words 0 to 2 of entry `i` written back. -/
def State.evlWrite (s : State) (i tick : Nat) (w2 : Word) : State :=
  ((s.setWord (evlAddr i 0) (BitVec.ofNat 32 tick)).setWord (evlAddr i 1)
    (setFld (s.evlWord i 1) 15 0 (tick / 2 ^ 32 % 2 ^ 16))).setWord (evlAddr i 2) w2

/-- What becomes of entry `i` as a firing of it passes: VALID clears, or a non-zero COUNT falls when it `fired` and TICK moves on by
whole PERIODs beyond the present TB0 tick; the periods passed over are counted (R10, R488). -/
def State.evlNext (s : State) (i : Nat) (fired : Bool) : State :=
  let w := s.evlWord i 2
  let period := fld (s.evlWord i 1) 31 16
  let count := fld w 15 0
  let tick := s.evlTick i
  if period = 0 ∨ (fired ∧ count = 1) then
    let s := s.evlWrite i tick (setBit w 31 false)
    if fired then s else s.bumpBy (blk 0x06 0x03C) 1
  else
    let steps := (s.tickCount.toNat - tick) / period + 1
    let s := s.evlWrite i (tick + steps * period) (if fired ∧ count ≠ 0 then setFld w 15 0 (count - 1) else w)
    s.bumpBy (blk 0x06 0x03C) (if fired then steps - 1 else steps)

/-- The core has written words 0 to 2 of entry `i` back; until the next cycle a host write to the entry still comes before that (R488; log
entry 97). -/
def State.evlWrote (s : State) (i : Nat) (words : List Word) : State :=
  s.setCore { s.core with writeBack := some ⟨i, s.now, words⟩ }

/-- A host write to the event-list word at `a` in the cycle of a write-back to its entry prevails, and the write-back is dropped (R488). -/
def State.dropWriteBack (s : State) (a : Nat) : State :=
  match s.core.writeBack with
  | some b =>
    if b.cycle = s.now ∧ a / 16 = evlAddr b.entry 0 / 16 then
      (s.setCore { s.core with writeBack := none }).each b.words.zipIdx fun s w => s.setWord (evlAddr b.entry w.2) w.1
    else s
  | none => s

/-- EVENT_LIST_FIRE: entry `i`, the next of its timebase to fire, fires; `late` when its firing ends after the next tick
(R29, R488). -/
def execEventListFire (i : Fin 1024) (late : Bool) (t : Nat) (s : State) : Host.Outcome State Fault Refusal :=
  let s := s.upTo t
  .next (if !s.evlRuns || s.holding (s.evlTb i) then s
    else if s.entryBad (evlAddr i) then s.raise 0x06 0
    else if s.evlTurn i then
      let s := if late && s.evlNextTick i then (s.bump (blk 0x06 0x038)).raise 0x06 5 else s
      let w := (fld (s.evlWord i 2) 23 16, s.evlWord i 3)
      (((s.evlNext i true).evlWrote i ((List.range 3).map (s.evlWord i)))).evlAction w.1 w.2
    else s)

/-- When SW19 returns, each VALID entry whose tick has passed moves on or is cleared without firing (R10). -/
def State.evlSkip (s : State) : State :=
  s.each ((List.range 1024).filter s.evlDue) fun s i => s.evlNext i false

/-! ## GPIO (R495 to R498) -/

/-- The state with the level at pin `i`. -/
def State.setLevel (s : State) (i : Nat) (b : Bool) : State := { s with gpio := { s.gpio with level := setBit16 s.gpio.level i b } }

/-- An event on pin `i` is stamped with the system counter (R497). -/
def State.gpioStamp (s : State) (i : Nat) : State :=
  let c := s.sysCount
  ((s.setReg (blk 0x0B (0x080 + 8 * i)) (BitVec.ofNat 32 c)).setReg (blk 0x0B (0x084 + 8 * i)) (BitVec.ofNat 32 (c / 2 ^ 32))).raise
    0x0B (1 + i)

/-- Event-list entry `i` fires as EVENT_FIRE does; one that is not VALID sets FIRE_BAD (R497). -/
def State.gpioFire (s : State) (i : Nat) : State :=
  let s := if s.entryBad (evlAddr i) then s.raise 0x06 0 else s
  if s.evlValid i then s.evlAct i else s.raise 0x0B 17

/-- The core fires what the pins ask for: it runs, and no image is being applied (R63, R497). -/
def State.coreFires (s : State) : Bool := s.coreRuns && s.loader.st != .applying

/-- The event of pin `i` waits to be fired, or waits no longer (R497). -/
def State.gpioWaits (s : State) (i : Nat) (b : Bool) : State :=
  { s with gpio := { s.gpio with waiting := setBit16 s.gpio.waiting i b } }

/-- The events that waited for the core are fired, once it can (R497). -/
def State.gpioDrain (s : State) : State :=
  if s.gpio.waiting = 0 || !s.coreFires then s
  else s.each ((List.range 16).filter fun i => s.gpio.waiting.getLsbD i) fun s i => (s.gpioWaits i false).gpioFire (fld (s.gpioFunc i) 29 20)

/-- GPIO_EVENT: pin `i` has held `level` for 2 HCLK cycles. An edge that EDGE selects is stamped, and fires its entry or is counted
as missed: where the pin's event before still waits, where SW19 is off, and in deep-sleep. Where the core cannot fire it yet, it waits
(R496, R497). -/
def execGpioEvent (i : Fin 16) (level : Bool) (busy : Bool) (t : Nat) (s : State) : Host.Outcome State Fault Refusal :=
  let s := s.upTo t
  let f := s.gpioFunc i
  let edge := s.gpio.level.getLsbD i != level
  let s := s.setLevel i level
  let taken := fld f 5 4 == 2 || fld f 5 4 == (if level then 0 else 1)
  .next (if edge && fld f 2 0 == 1 && taken then
      let s := s.gpioStamp i
      if !(bit f 19) then s
      else if busy || s.gpio.waiting.getLsbD i || !(s.domain 19) || s.power.mode == .deepSleep then s.bump (blk 0x0B 0x01C)
      else if s.coreFires then s.gpioFire (fld f 29 20)
      else s.gpioWaits i true
    else s)

/-- A write of FUNCi: a pin that was and stays TICK_OUT keeps its level with WIDTH 0, and within WIDTH of a tick; any other pin is low until
its next tick (R498). -/
def State.writeFunc (s : State) (i : Nat) (w : Word) : State :=
  let was := fld (s.gpioFunc i) 2 0 == 2
  let a := blk 0x0B (0x040 + 4 * i)
  let legal := legalWrite a (rowAt a).rw w
  let s := s.writeFields a (rowAt a).rw w
  let f := s.gpioFunc i
  let n := fld f 15 8
  let high := n == 0 || (!(s.holding (fld f 7 6)) && decide (s.now < look 0 s.gpio.tickAt i + 16 * n))
  if !legal || (was && fld f 2 0 == 2 && high) then s
  else { s with gpio := { s.gpio with tickOut := setBit16 s.gpio.tickOut i false } }

/-- TICK_OUT_END: WIDTH x 16 ECLK cycles after the last tick the pin is driven low (R498). -/
def execTickOutEnd (i : Fin 16) (t : Nat) (s : State) : Host.Outcome State Fault Refusal :=
  let s := s.upTo t
  let f := s.gpioFunc i
  let w := fld f 15 8
  .next (if fld f 2 0 = 2 ∧ w ≠ 0 ∧ look 0 s.gpio.tickAt i + 16 * w ≤ s.now then
      { s with gpio := { s.gpio with tickOut := setBit16 s.gpio.tickOut i false } }
    else s)

end Sys2Proof.Machine
end

