-- ==== Sys2Proof/Machine/Clocks.lean ====
section
/-!
DEFINITION. The clock generator: XCLK detection, the DCO and its lock, the domain clocks and their gates, the rate meter
(R315 to R334), and what start-up does when the DCO locks (R472, R473).
-/

namespace Sys2Proof.Machine

/-! ## Domain clocks (R325 to R329) -/

/-- The source and divider a write of a clock's register asks for (R345). -/
def selBits (w : Word) : Word := w &&& 0x13F

/-- The state after a change of a domain clock's frequency took place: an ECLK switch sends every timebase that is not OFF to
ACQUIRE, and a clock that stops or starts takes the timebases with it (R328, R338). -/
def State.clockChanged (s : State) (c : ClockName) : State :=
  let s := if c = .eclk then s.each [0, 1, 2, 3] fun s n => if (s.tb n).st = .off then s else s.tbAcquire n else s
  s.tbClock

/-- A domain clock runs from a new source and divider. -/
def State.setClock (s : State) (c : ClockName) (w : Word) : State := (s.setReg (clockReg c) (selBits w)).clockChanged c

/-- The number of a domain clock in `Clocks.sel`. -/
def clockNo : ClockName → Nat
  | .eclk => 0
  | .fclk => 1
  | .hclk => 2

/-- The pending target of a domain clock's switch; `none` while no switch is in progress (R327). -/
def State.switching (s : State) (c : ClockName) : Option Word := look none s.clocks.sel (clockNo c)

/-- The target of a switch is ready: DCO_READY or XCLK_OK (R327). -/
def State.targetReady (s : State) (w : Word) : Bool := if bit w 8 then s.clocks.xclkOk else s.clocks.dco == .locked

/-- A write of ECLK_SEL, FCLK_SEL or HCLK_SEL (R327). -/
def State.selectClock (s : State) (c : ClockName) (w : Word) : State :=
  if (s.switching c).isSome then s.raise 0x02 5
  else if selBits w = s.reg (clockReg c) then s
  else if !(s.targetReady w) then s.raise 0x02 5
  else s.setClocks { s.clocks with sel := put none s.clocks.sel (clockNo c) (some (selBits w)) }

/-- The switch of a domain clock completes (R327, R328). -/
def State.switchDone (s : State) (c : ClockName) (forced : Bool) : State :=
  match s.switching c with
  | some w =>
    let s := s.setClocks { s.clocks with sel := put none s.clocks.sel (clockNo c) none }
    let s := if forced then s.raise 0x02 6 else s
    s.setClock c w
  | none => s

/-- The three domain clocks in the order start-up switches them. -/
def allClocks : List ClockName := [.eclk, .fclk, .hclk]

/-- Every domain clock on the DCO path switches to XCLK with its divider unchanged, as the DCO stops (R329). -/
def State.clocksToXclk (s : State) : State :=
  s.each allClocks fun s c =>
    let s := s.setClocks { s.clocks with sel := put none s.clocks.sel (clockNo c) none }
    if s.onXclk c then s else s.setClock c (setBit (s.reg (clockReg c)) 8 true)

/-! ## The DCO (R317 to R323) -/

/-- The state with s at zero (R318). -/
def State.steerZero (s : State) : State := (s.setClocks { s.clocks with steer := 0 }).setReg (blk 0x02 0x020) 0

/-- A lock window with `count` edges passes; with a setting outside the limits none does (R317, R321). -/
def State.windowPasses (s : State) (count : Nat) : Bool :=
  let w := s.controlWord
  let r := ratioOf w.1 * (1 + (w.2 : Rat) / 16777216)
  let hz := s.settingHz w.1
  decide (|(count : Rat) - 64 * r| ≤ (fld (s.reg (blk 0x02 0x018)) 7 0 : Nat))
    && decide (20 ≤ fld w.1 23 16 ∧ fld w.1 23 16 ≤ 127 ∧ (800000000 : Rat) ≤ hz ∧ hz ≤ 1228800000)

/-- Start-up carries out the switch of the domain clocks to the DCO with DIV 2, 4 and 8 (R472 step 4). -/
def State.bootSwitch (s : State) : State :=
  let s := ((s.setClock .eclk 0x002).setClock .fclk 0x004).setClock .hclk 0x008
  s.setCore { s.core with dcoPath := true }

/-- What start-up does when DCO_READY rises: the core leaves reset and the clocks switch; after NO_LOCK the switch alone
(R472, R473). -/
def State.bootReady (s : State) : State :=
  if s.core.inReset ∧ (s.core.phase = .settling ∨ s.core.phase = .locking) then
    let s := s.bootSwitch
    s.setCore { s.core with inReset := false, phase := .romCheck }
  else if s.core.cause = 1 ∧ !s.core.dcoPath then s.bootSwitch
  else s

/-- A lock window begins: its control word is the one that stands now (R323). -/
def State.windowStarts (s : State) : State := s.setClocks { s.clocks with windowWord := s.controlWord }

/-- The DCO enters LOCKED and DCO_READY rises (R323). -/
def State.dcoLocks (s : State) : State :=
  (((s.setClocks { s.clocks with dco := .locked, passes := 0, held := none, settling := false }).windowStarts).raise 0x02 1).bootReady

/-- The DCO enters HOLDOVER with control word `word` held, its s with it, so that it follows XCLK again with no step; DCO_READY falls
where it was 1 (R323). Marks are not used in HOLDOVER (R319). -/
def State.dcoHolds (s : State) (word : Word × Int) : State :=
  let c := s.clocks
  let s' := (s.setClocks { c with dco := .holdover, passes := 0, held := some word, steer := word.2, discMark := none }).setReg
    (blk 0x02 0x020) (BitVec.ofNat 32 (sat16 word.2))
  if c.dco = .locked then s'.raise 0x02 2 else s'

/-- The DCO starts: SETTLING, with s at zero (R323). -/
def State.dcoStarts (s : State) : State :=
  (s.setClocks { s.clocks with dco := .settling, settling := true, passes := 0, held := none }).steerZero

/-- The DCO stops (R323, R329). -/
def State.dcoStops (s : State) : State :=
  let ready := s.clocks.dco == .locked
  let s := s.clocksToXclk
  let s := s.setClocks { s.clocks with dco := .off, settling := false, passes := 0, held := none, discMark := none }
  if ready then s.raise 0x02 2 else s

/-- A write of DCO_CFG (R7, R318, R323). -/
def State.writeDcoCfg (s : State) (w : Word) : State :=
  let a := blk 0x02 0x010
  if allClocks.any fun c => !(s.onXclk c) then s.raise 0x02 10
  else if !(legalWrite a (rowAt a).rw w) then s
  else
    let s := (s.setReg a (w &&& (rowAt a).rw)).steerZero
    let c := s.clocks
    if c.dco = .off then s
    else
      let s' := (s.setClocks { c with
        dco := .comparing, settling := c.settling || s.straps.testen, passes := 0, held := none }).windowStarts
      if c.dco = .locked then s'.raise 0x02 2 else s'

/-! ## Gates (R330) -/

/-- GATEn (R346). -/
def State.gateWord (s : State) (n : Nat) : Word := s.reg (blk 0x02 (0x040 + 4 * n))

/-- The bit of GATEn for the present power mode (R330). -/
def State.gateRuns (s : State) (n : Nat) : Bool :=
  bit (s.gateWord n) (match s.power.mode with | .run => 0 | .sleep => 1 | .deepSleep => 2)

/-- The engine is at rest (R330). -/
def State.engRests (s : State) (e : Nat) : Bool :=
  ((s.eng e).st == .off || (s.eng e).st == .stopped || (s.eng e).st == .faulted) && (s.eng e).far.isEmpty

/-- Port `p` is DISABLED or FAULTED. -/
def State.portRests (s : State) (p : Nat) : Bool := (s.port p).st == .disabled || (s.port p).st == .faulted

/-- Every receiver and transmitter is DISABLED or FAULTED. -/
def State.biphaseRests (s : State) : Bool :=
  (List.range 4).all fun n => ((s.rx n).st == .disabled || (s.rx n).st == .faulted)
    && ((s.tx n).st == .disabled || (s.tx n).st == .faulted)

/-- Every copy lane is idle. -/
def State.lanesRest (s : State) : Bool :=
  s.router.lane.job == .idle && (List.range 32).all fun e => (s.eng e).lane.job == .idle

/-- A host read or write frame has an access to the Delay Store still to come (R330, R370, R372). -/
def HostPort.storeAccess (h : HostPort) : Bool :=
  let inStore := fun a => decide (0x2000000 ≤ a ∧ a < 0x3000000)
  h.read.any (fun j => inStore j.addr) || h.posted.any fun p => match p with | .write l => l.any fun c => inStore c.1 | _ => false

/-- The unit of gate `n` is at rest (R330). -/
def State.gateRests (s : State) (n : Nat) : Bool :=
  let inStore := fun (a : Option Nat) => a.any fun a => decide (0x2000000 ≤ a ∧ a < 0x3000000)
  if n < 8 then (List.range 4).all fun k => s.engRests (4 * n + k)
  else if n = 8 then
    ((List.range 32).all fun e => (s.eng e).far.all fun q => !inStore q.w0 && !inStore q.w1)
      && s.router.prefetch.all (fun c => c.2.all fun p => p.word.isSome || !inStore p.addr)
      && s.heldWrites.all (fun h => !inStore (some h.addr))
      && s.dma.chans.all (fun c => c.2.flight.all fun w => !inStore (some w.dst) && !inStore (some w.src))
      && !s.host.storeAccess
  else if n = 9 then
    ((List.range 32).all fun e => (s.eng e).st != .running && (s.eng e).st != .armed) && (List.range 16).all s.portRests
      && s.biphaseRests
  else if n = 10 then (List.range 8).all s.portRests
  else if n = 11 then (List.range 8).all fun p => s.portRests (p + 8)
  else if n = 12 then s.biphaseRests
  else if n = 13 then ((List.range 16).all fun c => (s.chan c).st == .stopped) && s.lanesRest
  else s.core.idle

/-- The gates whose bit for the present mode is 1 open (R330). -/
def State.openGates (s : State) : State :=
  s.setClocks { s.clocks with closed := s.clocks.closed.filter fun n => !(s.gateRuns n) }

/-- A write of DISC: one that names a receiver whose ROLE is not 0b10 is refused (R319, R320). Discipline starts afresh. -/
def State.writeDisc (s : State) (w : Word) : State :=
  let a := blk 0x02 0x01C
  let src := fld w 6 4
  if 4 ≤ src ∧ fld (s.reg (rxReg (src - 4) 0x010)) 3 2 ≠ 2 then s.raise 0x02 10
  else if legalWrite a (rowAt a).rw w then
    let s := s.writeFields a (rowAt a).rw w
    s.setClocks { s.clocks with discMark := none, discRun := 0, unlockRun := 0 }
  else s

/-- The domain clock whose selector lies at byte address `a` (R344). -/
def clockAt (a : Nat) : Option ClockName := allClocks.find? fun c => clockReg c == a

/-- A write to the CLK block (R318, R320, R327, R330, R344). -/
def State.writeClk (s : State) (a : Nat) (w : Word) : State :=
  match clockAt a with
  | some c => s.selectClock c w
  | none =>
    if a = blk 0x02 0x010 then s.writeDcoCfg w
    else if a = blk 0x02 0x01C then s.writeDisc w
    else if blk 0x02 0x040 ≤ a ∧ a ≤ blk 0x02 0x078 then ((s.writeFields a (rowAt a).rw w).openGates).gpioDrain
    else s.writeFields a (rowAt a).rw w

/-- The words of a full image's CLOCK sections act in file order, each as a host write and each switch to its end; a DCO_CFG write
that acts is followed by the wait for DCO_READY (R61). -/
def State.clockWords (s : State) : List (Nat × Word) → State
  | [] => { s with loader := { s.loader with clockTodo := [] } }
  | (a, w) :: r =>
    let acts := a == blk 0x02 0x010 && s.clocks.dco != .off && (allClocks.all s.onXclk) && legalWrite a (rowAt a).rw w
    let s := s.writeClk a w
    let s := match clockAt a with | some c => s.switchDone c false | none => s
    if acts then { s with loader := { s.loader with clockTodo := r } } else s.clockWords r

/-- Every domain that an image switches has come on, and lost memories are cleared (R57). -/
def State.domainsDone (s : State) : Bool := s.power.rising.isEmpty && s.power.lost.all fun n => !(s.domain n)

/-- The CLOCK sections go on where nothing stands in their way: the domains that the image switches have come on, and the DCO has
locked (R57, R61). -/
def State.loadClocks (s : State) : State :=
  if s.loader.st = .applying ∧ s.domainsDone then s.clockWords s.loader.clockTodo else s

/-- GATE_CLOSE: a gate whose bit is 0 in the present mode closes once its unit is at rest (R330). -/
def execGateClose (n : Fin 15) (t : Nat) (s : State) : Host.Outcome State Fault Refusal :=
  let s := s.upTo t
  .next (if !(s.gateRuns n) && s.gateRests n && !(s.gateShut n) then
      s.setClocks { s.clocks with closed := n.val :: s.clocks.closed }
    else s)

/-! ## Commands -/

/-- Every rate meter window that now runs overlaps an XCLK loss or a failed lock window (R324, R333). An ABSENT input has none that
runs. -/
def State.spoilRates (s : State) : State :=
  s.setClocks { s.clocks with spoilt := (List.range 20).filter fun i => s.rmClass i != 0 }

/-- XCLK_LOST: no rising edge for 2 microseconds (R316, R323, R324, R338). -/
def execXclkLost (t : Nat) (s : State) : Host.Outcome State Fault Refusal :=
  let s := s.upTo t
  .next (if s.clocks.xclkOk then
      let s := ((s.setClocks { s.clocks with xclkOk := false }).raise 0x02 3).bump (blk 0x02 0x03C)
      ((if s.clocks.dco = .locked ∨ s.clocks.dco = .comparing then s.dcoHolds s.controlWord else s).spoilRates).tbClock
    else s)

/-- XCLK_BACK: the next rising edge; an XSETTLE delay runs before the next comparison (R316, R322, R323). -/
def execXclkBack (t : Nat) (s : State) : Host.Outcome State Fault Refusal :=
  let s := s.upTo t
  .next (if s.clocks.xclkOk then s
    else
      let s := (s.setClocks { s.clocks with xclkOk := true, settling := s.clocks.dco != .off, passes := 0 }).raise 0x02 4
      s.tbClock.gpioDrain)

/-- DCO_CFG_WRITE (R318). -/
def execDcoCfgWrite (w : Word) (t : Nat) (s : State) : Host.Outcome State Fault Refusal :=
  .next ((s.upTo t).hostActs (.dcoCfgWrite w t) fun s => s.writeDcoCfg w)

/-- XSETTLE_END: the delay ends, and with TESTEN it stands for the comparison (R322, R323). -/
def execXsettleEnd (t : Nat) (s : State) : Host.Outcome State Fault Refusal :=
  let s := s.upTo t
  .next (if !s.clocks.settling then s
    else
      let s := s.setClocks { s.clocks with settling := false }
      let s := if s.core.phase = .settling then s.setCore { s.core with phase := .locking } else s
      if s.straps.testen then s.dcoLocks.loadClocks
      else if s.clocks.dco = .settling then (s.setClocks { s.clocks with dco := .comparing, passes := 0 }).windowStarts
      else s.windowStarts)

/-- LOCK_WINDOW: a window of 4,096 XCLK cycles gave `count` edges of DCO / 64 (R321, R323). -/
def execLockWindow (count : Nat) (t : Nat) (s : State) : Host.Outcome State Fault Refusal :=
  let s := s.upTo t
  let c := s.clocks
  .next (if !c.xclkOk || c.settling || s.straps.testen || c.dco == .off || c.dco == .settling then s
    else if s.windowPasses count then
      if c.dco = .locked then s.windowStarts
      else if 3 ≤ c.passes then s.dcoLocks.loadClocks
      else (s.setClocks { c with passes := c.passes + 1 }).windowStarts
    else
      let s := (s.bump (blk 0x02 0x038)).spoilRates
      (if c.dco = .locked then s.dcoHolds c.windowWord else s.setClocks { s.clocks with passes := 0 }).windowStarts)

/-- CLOCK_SELECT_WRITE (R327). -/
def execClockSelectWrite (c : ClockName) (w : Word) (t : Nat) (s : State) : Host.Outcome State Fault Refusal :=
  .next ((s.upTo t).hostActs (.clockSelectWrite c w t) fun s => s.selectClock c w)

/-- CLOCK_SWITCH_DONE (R327, R328). -/
def execClockSwitchDone (c : ClockName) (forced : Bool) (t : Nat) (s : State) : Host.Outcome State Fault Refusal :=
  .next ((s.upTo t).switchDone c forced).gpioDrain

/-! ## Rate meter (R331 to R334) -/

/-- The address of RMi_RATE (R347). -/
def rmReg (i : Nat) : Nat := blk 0x03 (0x100 + 8 * i)

/-- The class of a rate in 1/16 Hz (R332). -/
def rateClass16 (fs : Nat) : Nat :=
  match (List.range 7).find? fun k => (50 * ((fs : Int) - 16 * classHz k)).natAbs ≤ 16 * classHz k with
  | some k => k + 1
  | none => 8

/-- A measured rate in 1/16 Hz: 16 x 256 x XCLK_FREQ / count, rounded to the nearest unit; a rate too wide for FS is open
(R331; log entries 12 and 30). -/
def State.measuredRate (s : State) (count : Nat) : Nat :=
  let fs := (rneDiv (4096 * s.xclkHz) count).toNat
  if fs < 2 ^ 22 then fs else Config.wideField 22 fs % 2 ^ 22

/-- Input `i` shows class `c` and FS (R332, R334). -/
def State.setRate (s : State) (i c fs : Nat) (valid : Bool) : State :=
  let old := s.rmClass i
  let s := s.setReg (rmReg i) (BitVec.ofNat 32 ((if valid then 2 ^ 31 else 0) + c * 2 ^ 22 + fs))
  if old = c then s
  else
    let a := blk 0x03 0x1A0
    let s := s.setClocks { s.clocks with rmRef := put 0 s.clocks.rmRef i fs, rmOut := put false s.clocks.rmOut i false }
    (s.deviceSet a i).raise 0x03 2

/-- The reference of input `i`'s deviation events: its class's rate, or for OTHER the first valid rate since entry into it
(R334). -/
def State.rateRef (s : State) (i : Nat) : Nat :=
  let c := s.rmClass i
  if 1 ≤ c ∧ c ≤ 7 then 16 * classHz (c - 1) else look 0 s.clocks.rmRef i

/-- RM_DEV_EVENT by a valid rate of input `i` (R334). -/
def State.rateDeviation (s : State) (i fs : Nat) : State :=
  let window := fld (s.reg (rmReg i + 4)) 15 0
  let ref := s.rateRef i
  let out := window != 0 && decide (window * ref < 1000000 * ((fs : Int) - ref).natAbs)
  let was := look false s.clocks.rmOut i
  let s := s.setClocks { s.clocks with rmOut := put false s.clocks.rmOut i out }
  if out && !was then
    let a := blk 0x03 0x1A4
    (s.deviceSet a i).raise 0x03 3
  else s

/-- A RUNNING receiver whose reported rate class changes from one class to another enters HOLD (R296). -/
def State.rateReceiver (s : State) (i was : Nat) : State :=
  if 16 ≤ i ∧ was ≠ 0 ∧ s.rmClass i ≠ was ∧ (s.rx (i - 16)).st = .running then s.rxHold (i - 16) else s

/-- Every RUNNING port whose rate now lies more than 1 % from its timebase's source enters HOLD (R277, R278). -/
def State.ratePorts (s : State) : State :=
  s.each (List.range 16) fun s p => if (s.port p).st = .running ∧ s.rateNear p = some false then s.tdmHold p false else s

/-- A measurement of input `i`, invalid where its window overlaps an XCLK loss or a failed lock window; a biphase input is timed while
SW16 is on (R299, R333): its rate and class with their events, and what they mean to the receiver and the ports that have it
(R277, R278, R296, R331 to R334). -/
def State.rateTaken (s : State) (i : Nat) (count : Nat) (clean : Bool) : State :=
  let spoilt := s.clocks.spoilt.contains i || !s.clocks.xclkOk
  let s := if s.clocks.spoilt.contains i && s.clocks.xclkOk then
      s.setClocks { s.clocks with spoilt := s.clocks.spoilt.filter (· != i) } else s
  if 16 ≤ i ∧ !(s.domain 16) then s
  else if !clean || spoilt then s.setReg (rmReg i) (setBit (s.rmRate i) 31 false)
  else
    let fs := s.measuredRate count
    let was := s.rmClass i
    ((((s.setRate i (rateClass16 fs) fs true).rateDeviation i fs).rateReceiver i was)).ratePorts

/-- Input `i` shows no edge for 65,536 XCLK cycles (R331, R332): no window of it runs any more (R333), and a receiver on it that is RUNNING
enters HOLD (R296). -/
def State.rateGone (s : State) (i : Nat) : State :=
  let was := s.rmClass i
  ((s.setClocks { s.clocks with spoilt := s.clocks.spoilt.filter (· != i) }).setRate i 0 0 (bit (s.rmRate i) 31)).rateReceiver i was

end Sys2Proof.Machine
end

