-- ==== Sys2Proof/Machine/EngineFar.lean ====
section
/-!
DEFINITION. Far accesses: FRD, FWR, and what happens to them at the banks and at their deadlines
(R130, R131, R174 to R185). A command that grants and returns a request stands at the place of the bank's grant in the order
of accesses to that bank; which request a bank grants next is the sender's choice within R180 (log entry 5).
-/

namespace Sys2Proof.Machine

/-- The drawer a far descriptor names (R174). -/
def State.farDrawer (s : State) (e f : Nat) : DrawerName :=
  let d := look 0 (s.eng e).fDrawer f
  ⟨bit d 31, e / 4, fld d 7 0⟩

/-- The index a far descriptor addresses, `k` words beyond its tap (R175, R176). -/
def State.farIndex (s : State) (e f k : Nat) : Nat :=
  let d := s.farDrawer e f
  (s.origin d + (look 0 (s.eng e).fTap f).toNat + k) % s.len d

/-- The byte address of that word; `none` when its memory is off (R176, R178). -/
def State.farWord (s : State) (e f k : Nat) : Option Nat :=
  let a := s.drawerWord (s.farDrawer e f) (s.farIndex e f k)
  if s.memOff a then none else some a

/-- A far access may execute in the present cycle (R131). -/
def State.farFree (s : State) (e : Nat) : Bool :=
  let x := s.eng e
  (match x.lastFar with | some c => c + 1 != x.cyc | none => true) && x.far.length < 8

/-- The drawer gives no word: LEN 0 or no such drawer (R178). -/
def State.farNone (s : State) (d : DrawerName) : Bool := !d.exists_ || s.len d == 0

/-- FRD's effect once it executes (R130, R175, R176, R178). The conditions of R178 are taken in the order of its table (log entry 68). -/
def State.doFrd (s : State) (e : Nat) (w : BitVec 64) : State :=
  let x := s.eng e
  let f := wf w 15 14
  let g := wf w 13 11
  let interp := wf w 10 10 == 1
  let deadline := wf w 8 0
  let d := s.farDrawer e f
  let s := s.setEng e { x with lastFar := some x.cyc }
  let zero := s.setEng e ((s.eng e).later deadline 3 (.g g) 0)
  if s.farNone d then zero
  else if s.drawerBad d then zero.raise (drawerBlock d) 0
  else
    let w0 := s.farWord e f 0
    let w1 := if interp then s.farWord e f 1 else none
    if w0.isNone && w1.isNone then zero
    else s.setEng e { s.eng e with
      far := (s.eng e).far ++ [⟨true, x.cyc, x.cyc + deadline, g, w0, w1, s.engHold, s.engHold, 0, 0, interp, (look 0 x.fFrac f).toNat, 0,
        none, 0, false, false, false⟩] }

/-- FWR's effect once it executes (R177 to R179). The conditions of R178 are taken in the order of its table (log entry 68). -/
def State.doFwr (s : State) (e : Nat) (w : BitVec 64) : State :=
  let x := s.eng e
  let f := wf w 15 14
  let d := s.farDrawer e f
  let s := s.setEng e { x with lastFar := some x.cyc }
  if s.farNone d then s
  else if s.drawerBad d then s.raise (drawerBlock d) 0
  else match s.farWord e f 0 with
    | none => s
    | some a =>
      if locOwner (s.loc d) ≠ e then
        (((s.engRaise e 7).bump (engReg e 0x048)).bump (blk 0x38 0x01C)).raise 0x38 1
      else s.setEng e { s.eng e with
        far := (s.eng e).far ++ [⟨false, x.cyc, 0, 0, some a, none, s.engHold, 0, 0, 0, false, 0, x.dreg (wf w 13 10), none, 0, false,
          false, false⟩] }

/-- FRD: far read (R130, R131). -/
def execFrd (e : Fin 32) (s : State) : Host.Outcome State Fault Refusal :=
  .next (s.runSlot e .ctrl 3 fun w s => if s.farFree e then s.doFrd e w else s.engRaise e 6)

/-- FWR: far write (R131, R177). -/
def execFwr (e : Fin 32) (s : State) : Host.Outcome State Fault Refusal :=
  .next (s.runSlot e .ctrl 4 fun w s => if s.farFree e then s.doFwr e w else s.engRaise e 6)

/-- The word request of an entry, its first or its second, that has not been granted: its address and its hold. -/
def FarReq.want (q : FarReq) (second : Bool) : Option (Nat × Nat) :=
  if second then q.w1.map fun a => (a, q.hold1) else q.w0.map fun a => (a, q.hold0)

/-- The banks an entry still waits at. -/
def FarReq.banks (q : FarReq) : List Nat := (q.w0.toList ++ q.w1.toList).map bankOf

/-- The request is the engine's oldest at its bank: no earlier entry waits there, nor the entry's own first word (R176, R180). -/
def Engine.farOldest (x : Engine) (i : Nat) (q : FarReq) (second : Bool) : Bool :=
  match q.want second with
  | none => true
  | some (a, _) => (x.far.take i).all (fun p => !(p.banks.contains (bankOf a))) && !(second && (q.w0.map bankOf) == some (bankOf a))

/-- The cycle at which a word request arrives at its bank's arbiter; the second of an interpolated read is dispatched a cycle behind
the first (R176, R182). -/
def FarReq.arrival (q : FarReq) (a : Nat) (second : Bool) : Nat := q.issued + reqArrival a + if second then 1 else 0

/-- A request held from its arrival may have been granted so that its word is usable at `t`; `extra` is the forced latency (R507,
R508). When a request that is neither held nor delayed comes to its grant is the sender's choice (log entry 5). -/
def FarReq.eligible (q : FarReq) (second : Bool) (t extra : Nat) : Bool :=
  match q.want second with
  | none => true
  | some (a, h) => (h == 0 && extra == 0) || q.arrival a second + bankCycles a h + reqReturn a + extra ≤ t

/-- The word a granted request returns; zero when its memory has gone off (R10). -/
def State.farTake (s : State) (o : Option Nat) (v : Word) : Word :=
  match o with
  | some a => if s.memOff a then 0 else s.wordAt a
  | none => v

/-- The entry with one of its word requests granted. -/
def State.farGrant (s : State) (q : FarReq) (second : Bool) : FarReq :=
  if second then { q with w1 := none, v1 := s.farTake q.w1 q.v1 } else { q with w0 := none, v0 := s.farTake q.w0 q.v0 }

/-- What a far read returns once its words are there (R176). -/
def FarReq.result (q : FarReq) : Word := if q.interp then interpolate q.v0 q.v1 q.frac else q.v0

/-- ENGINE_WAIT_MAX takes an engine-class wait at a Delay Store bank that is longer than the one it holds (R200). Of two equal waits
the earlier stays, and a wait above 0xFFFF shows as 0xFFFF (DESIGN CHOICE, log entry 81). -/
def State.engineWait (s : State) (a wait : Nat) : State :=
  let r := blk 0x38 0x014
  if 0x2000000 ≤ a ∧ fld (s.reg r) 15 0 < wait then
    s.setReg r (BitVec.ofNat 32 ((a - 0x2000000) / 0x100000 * 2 ^ 24 + min wait 0xFFFF))
  else s

/-- ENGINE_WAIT_MAX for a word request whose word is usable at `t`: its wait from arrival to grant (R182, R200). -/
def State.farWait (s : State) (q : FarReq) (second : Bool) (t extra : Nat) : State :=
  match q.want second with
  | none => s
  | some (a, _) => s.engineWait a (t - q.arrival a second - reqReturn a - extra)

/-- The last word of the read at place `i` arrives at cycle `t`. G takes the result at its deadline, or at arrival if that is later
(R130); a read that comes late inside a Round is counted (R185), and one that no longer holds the engine lets it go on. The word of a
read whose engine has left RUNNING since is discarded (R181). -/
def State.farArrive (s : State) (e i : Nat) (q : FarReq) (t : Nat) : State :=
  let x := s.eng e
  if q.dead then s.setEng e { x with far := x.far.eraseIdx i } else
  let v := q.result
  let late := x.inRound && !q.passed && q.deadline < t && !q.counted
  let q' := { q with arrived := some t, value := v, counted := q.counted || late }
  let x := { x with far := x.far.set i q',
                    landings := insLanding ⟨max t q.deadline, q.issued, 3, .g q.g, v.setWidth 72, false⟩ x.landings }
  let x := { x with stalled := x.stalled && x.far.any fun q => q.read && q.arrived.isNone && !q.passed && q.deadline ≤ x.cyc }
  let s := s.setEng e x
  (if late then s.lateMark e else s).settle e

/-- An entry's words whose memory has gone off: they read zero, and the read does not count as late (R10). -/
def State.farOff (s : State) (q : FarReq) : FarReq :=
  let q := if q.w0.any s.memOff then { q with w0 := none, v0 := 0, counted := true } else q
  if q.w1.any s.memOff then { q with w1 := none, v1 := 0, counted := true } else q

/-- The first read of engine `e` whose words are all there arrives in cycle `now`. -/
def State.farDone (s : State) (e : Nat) : State :=
  let done := fun q : FarReq => q.read && q.arrived.isNone && q.w0.isNone && q.w1.isNone
  match (s.eng e).far.findIdx? done, (s.eng e).far.find? done with
  | some i, some q => s.farArrive e i q s.now
  | _, _ => s

/-- A memory has gone off under engine `e`'s far queue: writes into it are discarded, and reads of it return zero by their deadline,
without LATE (R10, R178). -/
def State.farLost (s : State) (e : Nat) : State :=
  let x := s.eng e
  if !(x.far.any fun q => q.w0.any s.memOff || q.w1.any s.memOff) then s
  else
    let s := s.setEng e { x with far := (x.far.filter fun q => q.read || !(q.w0.any s.memOff)).map s.farOff }
    s.each (List.range 8) fun s _ => s.farDone e

/-- FAR_RETURN: the words that the grant names of a read, its first (0), its second (1) or all it still waits for (none), are usable
at cycle `t`. Each request is granted by its own bank; the read arrives with the later of them (R130, R176). -/
def execFarReturn (e : Fin 32) (k : FarGrant) (t : Nat) (s : State) : Host.Outcome State Fault Refusal :=
  let s := s.upTo t
  let x := s.eng e
  let extra := fld (s.acting (0x020 + 4 * e)) 7 0
  .next (match x.far[k.place.val]? with
    | none => s
    | some q =>
      let first := (k.word != some 1) && q.w0.isSome
      let second := (k.word != some 0) && q.w1.isSome
      let free := fun b (q : FarReq) => q.eligible b t extra && x.farOldest k.place q b
      let q1 := if first then s.farGrant q false else q
      if q.read && q.arrived.isNone && q.issued < t && (first || second) && (!first || free false q) && (!second || free true q1) then
        let s := if first then s.farWait q false t extra else s
        let s := if second then s.farWait q true t extra else s
        let q2 := if second then s.farGrant q1 true else q1
        if q2.w0.isNone && q2.w1.isNone then s.farArrive e k.place q2 t
        else s.setEng e { x with far := x.far.set k.place q2 }
      else s)

/-- FAR_STALL: the engine stands in a Round at the deadline of a far read that has not arrived. It stalls, and each such read
is counted once (R79, R130, R185). -/
def execFarStall (e : Fin 32) (s : State) : Host.Outcome State Fault Refusal :=
  let s := s.structCheck e
  let x := s.eng e
  let late := fun q : FarReq => q.read && q.arrived.isNone && !q.passed && q.deadline ≤ x.cyc
  .next (if x.st == .running && x.inRound && x.far.any late then
      let fresh := x.far.filter fun q => late q && !q.counted
      let s := s.setEng e { x with stalled := true, far := x.far.map fun q => { q with counted := q.counted || late q } }
      s.each fresh fun s _ => s.lateMark e
    else s)

/-- FAR_WRITE_LAND: the write at place `i` is granted and leaves the queue with its word in the drawer (R131, R177), not before
its hold is over (R508). A write whose memory has gone off is discarded (R10). -/
def execFarWriteLand (e : Fin 32) (i : Fin 8) (t : Nat) (s : State) : Host.Outcome State Fault Refusal :=
  let s := s.upTo t
  let x := s.eng e
  .next (match x.far[i.val]? with
    | none => s
    | some q =>
      match q.w0 with
      | none => s
      | some a =>
        if !q.read && x.farOldest i q false && (q.hold0 == 0 || q.arrival a false + bankCycles a q.hold0 ≤ t) then
          let s := (s.setEng e { x with far := x.far.eraseIdx i }).engineWait a (t - q.arrival a false)
          if s.memOff a then s else s.setWord a q.data
        else s)

end Sys2Proof.Machine
end

