-- ==== Sys2Proof/Machine/Perturb.lean ====
section
/-!
DEFINITION. The PERTURB block: its key, its controls and their log entries (R504 to R512). What a control does to a unit is part of
that unit's own meanings, which read it.
-/

namespace Sys2Proof.Machine

/-- The state with the key state of the PERTURB block replaced. -/
def State.setPerturb (s : State) (p : Perturb) : State := { s with perturb := p }

/-- STATUS.UNLOCKED (R504): with TESTEN the block is unlocked from tR. -/
def State.perturbOpen (s : State) : Bool := s.straps.testen || s.perturb.unlocked

/-- The offsets of the controls (R512). -/
def isControl (o : Nat) : Bool := 0x018 ≤ o && o ≤ 0x108

/-- The holds of ARB_ENG and ARB_LOWER have changed: a request that has arrived keeps the hold it had at its arrival, and one that is still to arrive
takes the new one (R508). -/
def State.holdsAgain (s : State) : State :=
  let s := s.each (List.range 32) fun s e =>
    let x := s.eng e
    if x.far = [] then s
    else s.setEng e { x with far := x.far.map fun q => { q with
      hold0 := if q.w0.any fun a => s.now ≤ q.arrival a false then s.engHold else q.hold0
      hold1 := if q.w1.any fun a => s.now ≤ q.arrival a true then s.engHold else q.hold1 } }
  let r := s.router
  if r.prefetch = [] then s
  else s.setRouter { r with prefetch := r.prefetch.map fun c => (c.1, c.2.map fun f =>
    { f with hold := if f.addr.any fun a => s.now ≤ f.issued + reqArrival a then s.lowerHold 0 else f.hold }) }

/-- ARB_LOWER has taken a value, which stands from this cycle on (R508). -/
def State.lowerSet (s : State) : State :=
  { s with provoked := { s.provoked with lower := (s.now, s.reg (blk 0xF0 0x018)) :: s.provoked.lower } }

/-- Every control returns to zero (R505). -/
def State.perturbZero (s : State) : State :=
  let arb := s.control 0x018 ≠ 0 ∨ s.control 0x01C ≠ 0
  let s : State := { s with regs := delRange s.regs (blk 0xF0 0x018) (blk 0xF0 0x10C) }
  if arb then s.lowerSet.holdsAgain else s

/-- The first key is discarded by a write that comes between the two (R504). -/
def State.keyBreak (s : State) : State :=
  if s.perturb.firstKey then (s.setPerturb { s.perturb with firstKey := false }).raise 0xF0 1 else s

/-- A write of UNLOCK (R504, R506). -/
def State.writeUnlock (s : State) (w : Word) : State :=
  if s.straps.testen then s
  else if s.perturb.unlocked then
    if w = 0xA5C3 ∨ w = 0x3C5A then s else (s.setPerturb ⟨false, false⟩).perturbZero
  else if w = 0x3C5A ∧ s.perturb.firstKey then
    (s.setPerturb ⟨true, false⟩).meterLog 0x11 0x010 w.toNat 0
  else
    let s := s.keyBreak
    if w = 0xA5C3 then s.setPerturb { s.perturb with firstKey := true } else s

/-- A write of the control at offset `o` (R7, R505, R506, R508, R509). -/
def State.writeControl (s : State) (o : Nat) (w : Word) : State :=
  let a := blk 0xF0 o
  let m := (rowAt a).rw
  let s := s.keyBreak
  if s.perturbOpen && m != 0 && legalWrite a m w then
    let s := ((s.setReg a (w &&& m)).good a).meterLog 0x11 o w.toNat 0
    if o = 0x018 then s.lowerSet.holdsAgain
    else if o = 0x01C then s.holdsAgain
    else if 0x0A0 ≤ o ∧ o < 0x0F0 then
      { s with provoked := { s.provoked with ticksLeft := put 0 s.provoked.ticksLeft ((o - 0x0A0) / 4) (fld w 23 16) } }
    else s
  else s

/-- UNLOCK (R504). -/
def execUnlock (w : Word) (t : Nat) (s : State) : Host.Outcome State Fault Refusal :=
  .next ((s.upTo t).hostActs (.unlock w t) fun s => s.writeUnlock w)

/-- ARB_ENG (R507, R508). -/
def execArbEng (w : Word) (t : Nat) (s : State) : Host.Outcome State Fault Refusal :=
  .next ((s.upTo t).hostActs (.arbEng w t) fun s => s.writeControl 0x01C w)

/-- ARB_LOWER (R507, R508). -/
def execArbLower (w : Word) (t : Nat) (s : State) : Host.Outcome State Fault Refusal :=
  .next ((s.upTo t).hostActs (.arbLower w t) fun s => s.writeControl 0x018 w)

/-- FAR_LATn (R507). -/
def execFarLat (n : Fin 32) (w : Word) (t : Nat) (s : State) : Host.Outcome State Fault Refusal :=
  .next ((s.upTo t).hostActs (.farLat n w t) fun s => s.writeControl (0x020 + 4 * n) w)

/-- BPi (R507, R509). -/
def execBp (i : Fin 20) (w : Word) (t : Nat) (s : State) : Host.Outcome State Fault Refusal :=
  .next ((s.upTo t).hostActs (.bp i w t) fun s => s.writeControl (0x0A0 + 4 * i) w)

/-- BP_EXPIRY: FRAMES ticks of the port's timebase have passed; MODE reads none (R509). Before they have, it does nothing. -/
def execBpExpiry (i : Fin 20) (t : Nat) (s : State) : Host.Outcome State Fault Refusal :=
  let s := s.upTo t
  let a := blk 0xF0 (0x0A0 + 4 * i)
  .next (if look 0 s.provoked.ticksLeft i.val = 0 ∧ fld (s.reg a) 23 16 ≠ 0 ∧ fld (s.reg a) 1 0 ≠ 0 then
      (s.setRegFld a 1 0 0).raise 0xF0 2
    else s)

/-- HOST_NOTREADY (R507). -/
def execHostNotready (w : Word) (t : Nat) (s : State) : Host.Outcome State Fault Refusal :=
  .next ((s.upTo t).hostActs (.hostNotready w t) fun s => s.writeControl 0x0F0 w)

/-- TICK_SHIFT (R507, R509). -/
def execTickShift (w : Word) (t : Nat) (s : State) : Host.Outcome State Fault Refusal :=
  .next ((s.upTo t).hostActs (.tickShift w t) fun s => s.writeControl 0x0F4 w)

/-- TICK_SUPPRESS (R507, R509). -/
def execTickSuppress (w : Word) (t : Nat) (s : State) : Host.Outcome State Fault Refusal :=
  .next ((s.upTo t).hostActs (.tickSuppress w t) fun s => s.writeControl 0x0F8 w)

/-- DCO_OFFSET (R507). -/
def execDcoOffset (w : Word) (t : Nat) (s : State) : Host.Outcome State Fault Refusal :=
  .next ((s.upTo t).hostActs (.dcoOffset w t) fun s => s.writeControl 0x0FC w)

/-- DMA_ERR (R507, R509). -/
def execDmaErr (w : Word) (t : Nat) (s : State) : Host.Outcome State Fault Refusal :=
  .next ((s.upTo t).hostActs (.dmaErr w t) fun s => s.writeControl 0x100 w)

/-- SLIP (R507, R509). -/
def execSlip (w : Word) (t : Nat) (s : State) : Host.Outcome State Fault Refusal :=
  .next ((s.upTo t).hostActs (.slip w t) fun s => s.writeControl 0x104 w)

/-- LOOP (R510). -/
def execLoop (w : Word) (t : Nat) (s : State) : Host.Outcome State Fault Refusal :=
  .next ((s.upTo t).hostActs (.loop w t) fun s => s.writeControl 0x108 w)

end Sys2Proof.Machine
end

