-- ==== Sys2Proof/Machine/Power.lean ====
section
/-!
DEFINITION. Power: switched domains (R449 to R452), power modes and wake (R453 to R460), auxiliary outputs (R448), telemetry
and thermal protection (R461 to R465).
-/

namespace Sys2Proof.Machine

/-- The state with the power unit replaced. -/
def State.setPower (s : State) (p : Power) : State := { s with power := p }

/-- DOMAIN_EN (R467). -/
def State.domainEn (s : State) : Word := s.reg (blk 0x01 0x01C)

/-! ## Auxiliary outputs (R448) -/

/-- The power mode whose enables the outputs follow: the present one, and from the first step of an exit from deep-sleep the one that it
leads to (R458). -/
def State.auxMode (s : State) : PowerMode :=
  if s.power.exiting && s.power.mode == .deepSleep then s.power.target.getD .deepSleep else s.power.mode

/-- The enable bit of an auxiliary output. -/
def State.auxWanted (s : State) (o : AuxName) : Bool :=
  let base := match o with | .aux5 => 0 | .aux33 => 8
  bit (s.reg (blk 0x01 0x028)) (base + match s.auxMode with | .run => 0 | .sleep => 1 | .deepSleep => 2)

/-- RETRY of an auxiliary output. -/
def State.auxRetries (s : State) (o : AuxName) : Bool :=
  bit (s.reg (blk 0x01 0x028)) (match o with | .aux5 => 3 | .aux33 => 11)

/-- An auxiliary output. -/
def Power.aux (p : Power) : AuxName → Aux
  | .aux5 => p.aux5
  | .aux33 => p.aux33

/-- The power unit with an auxiliary output replaced. -/
def Power.setAux (p : Power) (o : AuxName) (a : Aux) : Power :=
  match o with
  | .aux5 => { p with aux5 := a }
  | .aux33 => { p with aux33 := a }

/-- An output follows its enable bit; it is off with no VIN, in thermal shutdown and while its fault holds it (R443, R448, R464). -/
def State.auxFollow (s : State) (o : AuxName) : State :=
  let a := s.power.aux o
  let want := s.auxWanted o && !s.power.therm && s.power.vin
  s.setPower (s.power.setAux o (if !want then { a with on := false, good := false } else if a.held then a else { a with on := true }))

/-- Both outputs follow their enable bits. -/
def State.auxBoth (s : State) : State := (s.auxFollow .aux5).auxFollow .aux33

/-- A write of AUX_CFG: the bits for the present mode are written, which clears FAULT (R448, R469). -/
def State.writeAux (s : State) (w : Word) : State :=
  let a := blk 0x01 0x028
  let s := (s.setReg a (w &&& (rowAt a).rw)).good a
  let clear := fun (x : Aux) => { x with fault := false, held := false }
  (s.setPower { s.power with aux5 := clear s.power.aux5, aux33 := clear s.power.aux33 }).auxBoth

/-- AUX_FAULT: the output has stayed in current limit for 1 ms (R448). -/
def execAuxFault (o : AuxName) (t : Nat) (s : State) : Host.Outcome State Fault Refusal :=
  let s := s.upTo t
  .next (if (s.power.aux o).on then
      ((s.setPower (s.power.setAux o ⟨false, true, false, true⟩)).raise 0x01 7).bump (blk 0x01 0x060)
    else s)

/-- AUX_RETRY: 100 ms after a fault an output with RETRY 1 follows its enable bit again; only a write clears FAULT (R448). -/
def execAuxRetry (o : AuxName) (t : Nat) (s : State) : Host.Outcome State Fault Refusal :=
  let s := s.upTo t
  let a := s.power.aux o
  .next (if a.fault && !a.on && s.auxRetries o then (s.setPower (s.power.setAux o { a with held := false })).auxFollow o else s)

/-- AUX_POWER_GOOD: the output's voltage enters or leaves its window (R448). -/
def execAuxPowerGood (o : AuxName) (inWindow : Bool) (t : Nat) (s : State) : Host.Outcome State Fault Refusal :=
  let s := s.upTo t
  let a := s.power.aux o
  .next (s.setPower (s.power.setAux o { a with good := inWindow && a.on }))

/-! ## Switched domains (R449 to R452) -/

/-- SWn is enabled: by DOMAIN_EN, or, for SW11 and SW12, held on by a full load (R52, R451). -/
def State.domainWanted (s : State) (n : Nat) : Bool := bit s.domainEn n || (s.fullLoad && (n == 11 || n == 12))

/-- The registers of block `b` as its domain comes on: IMG and RW fields are kept, all other bits take their Reset values, and so ORIGIN of
a Set's drawers, a status, is 0 again (R450; DESIGN CHOICE, log entry 82). A register that keeps nothing is written whole, and ends its
parity error (R29). -/
def State.statusReset (s : State) (b : Nat) : State :=
  let here := fun a => decide (blk b 0 ≤ a ∧ a < blk (b + 1) 0)
  let kept := fun a => (rowAt a).rw ||| (rowAt a).img
  { s with
    regs := s.regs.filterMap fun c =>
      if here c.1 then
        let r := rowAt c.1
        let w := (c.2 &&& kept c.1) ||| (r.reset &&& ~~~ (kept c.1))
        if w = r.reset then none else some (c.1, w)
      else some c
    parityBad := s.parityBad.filter fun c => !(here c.1 && kept c.1 == 0) }

/-- The control blocks that lie in SWn (R535). -/
def domainBlocks (n : Nat) : List Nat := (List.range 256).filter fun b => blockDomain b == n && (blockKind b).isSome

/-- The contents of Set `n`'s memories are lost where RETAIN is 0, as it is under a parity error, which sets CTRL_PARITY (R27, R29, R30,
R96, R97). -/
def State.setLost (s : State) (n : Nat) : State :=
  let a := blk (0x60 + n) 0x010
  let s := if s.bad a then s.raise (0x60 + n) 0 else s
  if bit (s.used a (s.reg a)) 0 then s
  else
    let s := (s.clearSet n).each (List.range 4) fun s k => s.autoLanded (.engine (Fin.ofNat 32 (4 * n + k)))
    s.setPower { s.power with lost := joinKeys s.power.lost [n + 1] }

/-- The contents of Delay Store quarter `q` are lost where its STORE_RET bit is 0 (R452). A parity error in STORE_RET sets CTRL_PARITY, and
the word stands (R27, R466). -/
def State.quarterLost (s : State) (q : Nat) : State :=
  let s := if s.bad (blk 0x01 0x024) then s.raise 0x01 0 else s
  if bit (s.reg (blk 0x01 0x024)) q then s
  else (s.clearStore q).setPower { s.power with lost := joinKeys s.power.lost [9 + q] }

/-- The engine registers and all logic state of engine `e` are lost; its memories' banks and dirty bits stay (R96, R450), and so do its far
requests at their banks (R181). -/
def State.engLost (s : State) (e : Nat) : State :=
  let s := s.engOff e
  let x := s.eng e
  s.setEng e { Engine.reset with tableBank := x.tableBank, lane := x.lane, reload := x.reload, ptrLive := x.ptrLive, far := x.far }

/-- The sources from `lo` up to but not including `hi` read zero (R10). -/
def State.sourcesOff (s : State) (lo hi : Nat) : State :=
  s.setRouter { s.router with src := delRange s.router.src lo hi }

/-- The router sources that the units of SWn give read zero (R10). -/
def State.sourcesZero (s : State) (n : Nat) : State :=
  if 1 ≤ n ∧ n ≤ 8 then s.sourcesOff (520 + 64 * n) (584 + 64 * n)
  else if n = 14 then s.sourcesOff 0 256
  else if n = 15 then s.sourcesOff 256 512
  else if n = 16 then s.sourcesOff 512 520
  else s

/-- TDM port `p` without its domain: all its state is lost, and its staged masks are the live ones (R282, R450). -/
def State.tdmLost (s : State) (p : Nat) : State :=
  let m := s.stagedMasks p
  s.setPort p { Port.reset with rxLive := m.1, txLive := m.2 }

/-- Receiver and transmitter `k` start afresh, DISABLED; the marks of a receiver that disciplines the DCO are over (R319). -/
def State.biphaseLost (s : State) (k : Nat) : State := ((s.discDrop (4 + k)).setRx k BpRx.reset).setTx k BpTx.reset

/-- Engine `e` is stopped at once (R10). -/
def State.engHalt (s : State) (e : Nat) : State :=
  let s := s.engFullStop e
  if (s.eng e).st = .running then (s.setEng e { s.eng e with gain := 0 }).engStopped e true else s

/-- What has not reached DISABLED of the ports, receivers and transmitters does so now, its EN unchanged (R10, R456). -/
def State.portsGone (s : State) : State :=
  let s := s.each (List.range 16) fun s p => if (s.port p).st = .disabled then s else s.tdmStopped p
  s.each (List.range 4) fun s n =>
    let s := if (s.rx n).st = .disabled then s else s.rxDisabled n true
    if (s.tx n).st = .disabled then s else s.txStopped n

/-- What SWn's units do as it goes off (R10, R450). Engines and ports stop as SW20 goes off (log entry 91). -/
def State.unitsOff (s : State) (n : Nat) : State :=
  let s := s.sourcesZero n
  if 1 ≤ n ∧ n ≤ 8 then
    ((s.each (List.range 4) fun s k => s.engLost (4 * (n - 1) + k)).setLost (n - 1)).each (List.range 32) fun s e => s.farLost e
  else if 9 ≤ n ∧ n ≤ 12 then (s.quarterLost (n - 9)).each (List.range 32) fun s e => s.farLost e
  else if n = 13 then s.routerRestart
  else if n = 14 then s.each (List.range 8) fun s p => s.tdmLost p
  else if n = 15 then s.each (List.range 8) fun s p => s.tdmLost (p + 8)
  else if n = 16 then s.each (List.range 4) fun s k => s.biphaseLost k
  else if n = 17 then s.dmaOff
  else if n = 18 then s.setMeter { s.meter with ok := false, up := false }
  else if n = 19 then s.setCore { s.core with autoWait := [], replies := [] }
  else if n = 20 then ((s.each (List.range 32) fun s e => s.engHalt e).portsGone).dcoStops
  else s

/-- SWn goes off (R10, R450). -/
def State.domainOffNow (s : State) (n : Nat) : State :=
  let p := s.power
  if p.on.contains n then
    ({ s with power := { p with on := p.on.filter (· != n), rising := p.rising.filter (· != n) } } : State).unitsOff n
  else s.setPower { p with rising := p.rising.filter (· != n) }

/-- SWn begins to come on, where there is a supply (R443, R450). -/
def State.domainRise (s : State) (n : Nat) : State :=
  if s.power.on.contains n || !s.power.vin then s else s.setPower { s.power with rising := joinKeys s.power.rising [n] }

/-- Every domain follows its enable; in deep-sleep SW18 alone does (R449, R453). -/
def State.domainsFollow (s : State) : State :=
  s.each ((List.range 20).map (· + 1)) fun s n =>
    if s.power.mode = .deepSleep ∧ n ≠ 18 then s
    else if s.domainWanted n then s.domainRise n else s.domainOffNow n

/-- A TDM port, receiver or transmitter whose EN is 1 enters its starting state, unless something holds the ports stopped (R10, R59). -/
def State.portsStart (s : State) : State :=
  if s.portsHeld then s
  else
  let s := s.each (List.range 16) fun s p =>
    if bit (s.reg (tdmReg p 0x014)) 0 && (s.port p).st == .disabled then s.tdmStarting p else s
  s.each (List.range 4) fun s n =>
    let s := if bit (s.reg (rxReg n 0x014)) 0 && (s.rx n).st == .disabled then s.rxSearching n else s
    if bit (s.reg (txReg n 0x014)) 0 && (s.tx n).st == .disabled then s.txStarting n else s

/-- What SWn's units do as it comes on; ports wait for the end of a wake (R10, R450, R458). An array whose retention is off is cleared
(R535). -/
def State.unitsOn (s : State) (n : Nat) : State :=
  let s := s.each (domainBlocks n) fun s b => if n = 17 then s.resetBlock b else if n = 18 then s else s.statusReset b
  if 1 ≤ n ∧ n ≤ 8 then (s.setLost (n - 1)).each (List.range 4) fun s k => s.engConfigure (4 * (n - 1) + k)
  else if 9 ≤ n ∧ n ≤ 12 then s.quarterLost (n - 9)
  else if n = 13 then s.routerRestart
  else if n = 14 ∨ n = 15 then
    let s := s.each (List.range 8) fun s p => s.tdmLost (p + 8 * (n - 14))
    if s.power.exiting then s else s.portsStart
  else if n = 16 then if s.power.exiting then s else s.portsStart
  else if n = 19 then
    if s.power.exiting then s
    else
      let s := { s with loader := { Loader.reset with previous := s.loader.previous } }
      s.evlSkip.gpioDrain
  else if n = 17 then s.dmaReturns
  else if n = 20 then if s.power.exiting then s.dcoStarts else s.dcoStarts.portsStart
  else s

/-- DOMAIN_DONE: SW`n + 1` has come on (R450). -/
def execDomainDone (n : Fin 20) (t : Nat) (s : State) : Host.Outcome State Fault Refusal :=
  let s := s.upTo t
  let d := n.val + 1
  .next (if s.power.rising.contains d then
      let p := s.power
      let s := s.setPower { p with on := joinKeys p.on [d], rising := p.rising.filter (· != d) }
      ((s.unitsOn d).raise 0x01 5).loadClocks
    else s)

/-- A write of DOMAIN_EN is refused (R451). -/
def State.domainRefused (s : State) (w : Word) : Bool :=
  s.power.target.isSome || (bit s.domainEn 18 && !(bit w 18) && s.isSealed && s.anyGslot)
    || (bit s.domainEn 19 && !(bit w 19) && s.loader.st != .idle && s.loader.st != .failed)

/-- A host write of DOMAIN_EN (R449 to R451, R467). -/
def State.writeDomainEn (s : State) (w : Word) : State :=
  if s.domainRefused w then
    let s := s.raise 0x01 4
    if bit s.domainEn 18 ∧ !(bit w 18) ∧ s.isSealed ∧ s.anyGslot then s.meterLog 0x12 0 0 0 else s
  else
    let a := blk 0x01 0x01C
    let m := (rowAt a).rw
    ((s.setReg a ((s.reg a &&& ~~~ m) ||| (w &&& m))).good a).domainsFollow

/-- DOMAIN_EN_WRITE (R451). -/
def execDomainEnWrite (w : Word) (t : Nat) (s : State) : Host.Outcome State Fault Refusal :=
  .next ((s.upTo t).hostActs (.domainEnWrite w t) fun s => s.writeDomainEn w)

/-- STORE_LOST: the clear of a Delay Store quarter that came on without retention ends (R452). -/
def execStoreLost (q : Fin 4) (t : Nat) (s : State) : Host.Outcome State Fault Refusal :=
  let s := s.upTo t
  .next (if s.domain (9 + q.val) && s.power.lost.contains (9 + q.val) then
      (((s.clearStore q.val).setPower { s.power with lost := s.power.lost.filter (· != 9 + q.val) }).raise 0x01 6).loadClocks
    else s)

/-- RETENTION_LOST: the clear of a Set that came on without retention ends; RELOAD sets in its engines (R97, R98). -/
def execRetentionLost (n : Fin 8) (t : Nat) (s : State) : Host.Outcome State Fault Refusal :=
  let s := s.upTo t
  .next (if s.domain (n.val + 1) && s.power.lost.contains (n.val + 1) then
      let s := (s.clearSet n).raise (0x60 + n.val) 2
      let s := { s with power := { s.power with lost := s.power.lost.filter (· != n.val + 1) } }
      let s := s.each (List.range 4) fun s k =>
        (s.setEng (4 * n.val + k) { s.eng (4 * n.val + k) with reload := true }).engConfigure (4 * n.val + k)
      s.loadClocks
    else s)

/-! ## Power modes (R453 to R460) -/

/-- Every RUNNING or ARMED engine receives STOP, and SLEEP_RUN records those that were RUNNING (R455). A change of mode that a thermal
shutdown overtakes keeps what it has recorded, since its engines have stopped already (R460). -/
def State.enginesSleep (s : State) : State :=
  let run := (List.range 32).filter fun e => (s.eng e).st == .running
  let a := blk 0x01 0x064
  let s := s.setReg a (run.foldl (fun w e => setBit w e true) (if s.power.target.isSome then s.reg a else 0))
  s.each (List.range 32) fun s e => s.cmdStop e

/-- The event list pauses (R455). -/
def State.evlPause (s : State) : State := s.setCore { s.core with paused := true }

/-- The guarded slots are muted for deep-sleep, and the meter logs it (R432). -/
def State.guardMute (s : State) : State :=
  if s.meter.muted then s
  else (s.setMeter { s.meter with muted := true, mutedFrom := s.meter.seconds }).meterLog 0x0C 0 0 0

/-- The guard resumes with the gains it held, and the meter logs the muted seconds (R432, R458). -/
def State.guardResume (s : State) : State :=
  if !s.meter.muted then s
  else
    let s := (s.guardFresh 0).guardFresh 1
    let m := s.meter
    (s.setMeter { m with muted := false, peakAt := [] }).meterLog 0x0D 0 (s.meter.seconds - s.meter.mutedFrom) 0

/-- Every port, receiver and transmitter that is not DISABLED fades out toward DISABLED, its EN unchanged (R456). -/
def State.portsLeave (s : State) : State :=
  let s := s.each (List.range 16) fun s p => if (s.port p).st = .faulted then s.tdmDisabled p else s.tdmFullStop p
  s.each (List.range 4) fun s n =>
    let s := s.rxLeave n
    if (s.tx n).st = .faulted then s.txDisabled n else s.txFullStop n

/-- A fade under way is at least as fast as one of `len` steps. -/
def Fade.hurry (f : Fade) (len : Nat) : Fade := { f with step := max f.step (stepOf len) }

/-- The fades under way of ports that leave end within the lengths that stand now (R464). -/
def State.portsHurry (s : State) : State :=
  let s := s.each (List.range 16) fun s p =>
    let x := s.port p
    s.setPort p { x with tx := x.tx.hurry (s.tdmFadeLen p), rx := x.rx.hurry (s.tdmFadeLen p) }
  s.each (List.range 4) fun s n =>
    let x := s.rx n
    let len := s.rxFadeLen n
    let s := s.setRx n { x with a := { x.a with fade := x.a.fade.hurry len }, b := { x.b with fade := x.b.fade.hurry len } }
    s.setTx n { s.tx n with fade := (s.tx n).fade.hurry (s.txFadeLen n) }

/-- A change to a mode begins: BUSY is 1 (R454). -/
def State.modeBegin (s : State) (m : PowerMode) : State := s.setPower { s.power with target := some m, exiting := false }

/-- Entry into sleep (R455). -/
def State.enterSleep (s : State) : State := (s.enginesSleep.modeBegin .sleep).evlPause

/-- Entry into deep-sleep: steps 1 to 3 (R456). -/
def State.enterDeep (s : State) : State :=
  let s := (s.enginesSleep.modeBegin .deepSleep).guardMute
  let s := if s.unitOn 17 then (s.evlPause).dmaStopAll else s.evlPause
  s.portsLeave

/-- Every switched domain but SW18 goes off (R456, R465). -/
def State.allOff (s : State) : State :=
  s.each ((List.range 20).map (· + 1)) fun s n => if n = 18 then s else s.domainOffNow n

/-- The control core saves its state and declares itself idle; one that is held in reset or halted, or that sleeps, stays as it is (R456,
R473). -/
def State.coreSleeps (s : State) : State :=
  let c := s.core
  if c.phase = .settling ∨ c.phase = .locking ∨ c.phase = .halted ∨ c.phase = .asleep then s.setCore { c with idle := true }
  else s.setCore { c with idle := true, saved := some c.phase, phase := .asleep }

/-- The control core resumes from its saved state (R458). -/
def State.coreWakes (s : State) : State :=
  s.setCore { s.core with idle := false, phase := s.core.saved.getD s.core.phase, saved := none }

/-- Steps 4 to 6 of deep-sleep entry: the core is idle, clocks move to XCLK, the DCO is off, and the domains go, all but SW18, on or
still coming on. What the core has in its RAM stays (R456). -/
def State.deepNow (s : State) : State :=
  let r := fun c => s.reg (clockReg c)
  let s := s.coreSleeps
  let ram := s.core
  let s := if s.clocks.saved.isNone then s.setClocks { s.clocks with saved := some (r .eclk, r .fclk, r .hclk) } else s
  let s := s.dcoStops.allOff
  let s := s.setCore { s.core with autoWait := ram.autoWait, replies := ram.replies }
  let s := s.setPower { s.power with mode := .deepSleep, target := none, exiting := false, rising := s.power.rising.filter (· == 18) }
  (s.auxBoth.openGates).tbClock

/-- The exit from sleep or deep-sleep begins (R457, R458). `to_` is the mode it leads to. -/
def State.exitBegin (s : State) (to_ : PowerMode) : State :=
  let deep := s.power.mode == .deepSleep
  let s := s.setPower { s.power with target := some to_, exiting := true, wakeLatched := none, therm := false }
  if deep then (s.each ((List.range 20).map (· + 1)) fun s n => if s.domainWanted n then s.domainRise n else s).auxBoth else s

/-- A wake: the first source to act is recorded, and the exit starts, or follows the entry in progress, into sleep from deep-sleep too
(R457, R460, R464). -/
def State.wakeBy (s : State) (cause : BitVec 3) : State :=
  let p := s.power
  if p.therm && !p.cool then s
  else
    match p.target with
    | some m =>
      if m = .run ∨ p.wakeLatched.isSome then s
      else s.setPower { p with wakeLatched := some cause }
    | none =>
      if p.mode = .run then s
      else ((s.setPower { p with wakeCause := cause }).raise 0x01 2).exitBegin .run

/-- A write of TARGET to PWR.MODE (R454 to R457, R464). -/
def State.writeMode (s : State) (m : PowerMode) : State :=
  let p := s.power
  let code := match m with | .run => 0 | .sleep => 1 | .deepSleep => 2
  if p.therm && !p.cool then s
  else if p.target.isSome then s.raise 0x01 3
  else if m = p.mode then s
  else
    let s := (s.setReg (blk 0x01 0x010) (BitVec.ofNat 32 code)).good (blk 0x01 0x010)
    match m with
    | .run => s.wakeBy 1
    | .sleep => if p.mode = .deepSleep then s.exitBegin .sleep else s.enterSleep
    | .deepSleep => s.enterDeep

/-- SLEEP: sleep written to PWR.MODE (R455). -/
def execSleep (t : Nat) (s : State) : Host.Outcome State Fault Refusal := .next ((s.upTo t).hostActs (.sleep t) fun s => s.writeMode .sleep)

/-- DEEP_SLEEP: deep-sleep written to PWR.MODE (R456). -/
def execDeepSleep (t : Nat) (s : State) : Host.Outcome State Fault Refusal :=
  .next ((s.upTo t).hostActs (.deepSleep t) fun s => s.writeMode .deepSleep)

/-- RUN: run written to PWR.MODE (R457). -/
def execRun (t : Nat) (s : State) : Host.Outcome State Fault Refusal := .next ((s.upTo t).hostActs (.run t) fun s => s.writeMode .run)

/-- An engine that still fades stops at its next Round end (R455). -/
def State.enginesCut (s : State) : State :=
  s.each (List.range 32) fun s e => if (s.eng e).st = .running then s.engFullStop e else s

/-- A wake that was latched during an entry starts the exit (R460). -/
def State.wakeAgain (s : State) : State :=
  match s.power.wakeLatched with
  | some c => (s.setPower { s.power with wakeLatched := none }).wakeBy c
  | none => s

/-- MODE_DONE: an entry into sleep or deep-sleep completes (R454 to R456, R460). -/
def execModeDone (t : Nat) (s : State) : Host.Outcome State Fault Refusal :=
  let s := s.upTo t
  .next (if s.power.exiting then s
    else match s.power.target with
      | some .sleep =>
        let s := s.enginesCut
        let s := s.setPower { s.power with mode := .sleep, target := none }
        ((s.auxBoth.openGates).raise 0x01 1).wakeAgain
      | some .deepSleep => ((s.portsGone.deepNow).raise 0x01 1).wakeAgain
      | _ => s)

/-- WAKE: a rising edge on WAKE has held for 10 microseconds (R457). -/
def execWake (t : Nat) (s : State) : Host.Outcome State Fault Refusal :=
  let s := s.upTo t
  .next (if bit (s.reg (blk 0x01 0x030)) 1 then s.wakeBy 3 else s)

/-- WAKE_GPIO: pin `i` has held a level for 10 microseconds; its active level wakes when MASK names it (R457). -/
def execWakeGpio (i : Fin 16) (level : Bool) (t : Nat) (s : State) : Host.Outcome State Fault Refusal :=
  let s := s.upTo t
  let w := s.reg (blk 0x01 0x034)
  .next (if bit (s.reg (blk 0x01 0x030)) 2 && bit w i && bit w (16 + i) != level then s.wakeBy 4 else s)

/-- RATE_MEASUREMENT: an input's rate; one that leaves ABSENT may wake the module (R331 to R334, R457). -/
def execRateMeasurement (i : Fin 20) (count : Nat) (clean : Bool) (t : Nat) (s : State) : Host.Outcome State Fault Refusal :=
  let s := s.upTo t
  let absent := s.rmClass i == 0
  let s := s.rateTaken i count clean
  .next (if absent && s.rmClass i != 0 && bit (s.reg (blk 0x01 0x030)) 3 && bit (s.reg (blk 0x01 0x038)) i then s.wakeBy 5 else s)

/-- RATE_ABSENT: an input shows no edge for 65,536 XCLK cycles (R331, R332). -/
def execRateAbsent (i : Fin 20) (t : Nat) (s : State) : Host.Outcome State Fault Refusal := .next ((s.upTo t).rateGone i)

/-- The domain clocks return to their sources and dividers of deep-sleep entry, where the DCO is there to take (R458). -/
def State.clocksReturn (s : State) : State :=
  match s.clocks.saved with
  | some (e, f, h) =>
    let s := s.setClocks { s.clocks with saved := none }
    s.each [(ClockName.eclk, e), (.fclk, f), (.hclk, h)] fun s c =>
      if selBits c.2 = s.reg (clockReg c.1) then s.clockChanged c.1
      else if s.targetReady c.2 then s.setClock c.1 c.2
      else s
  | none => s

/-- The engines recorded in SLEEP_RUN receive START, with CFG.RESUME 1 (R458). -/
def State.enginesResume (s : State) : State :=
  if bit (s.reg (blk 0x01 0x018)) 0 then
    let w := s.reg (blk 0x01 0x064)
    (s.each (List.range 32) fun s e => if bit w e then s.cmdStart e else s).setReg (blk 0x01 0x064) 0
  else s

/-- A load in progress keeps the event list paused (R58, R59). -/
def State.loadPauses (s : State) : Bool :=
  s.loader.st == .applying || s.fullLoad

/-- The event list resumes unless a load or a core reset holds it: what fell due while it was paused fires at the first tick of its
timebase after that (R58, R458, R459, R480). -/
def State.evlResume (s : State) : State :=
  let p := s.loadPauses || s.core.inReset || s.power.mode != .run
  let s := if s.core.paused && !p then s.each [0, 1, 2, 3] fun s n => s.mapTb n fun x => { x with evlAt := none, evlPrev := none } else s
  s.setCore { s.core with paused := p }

/-- WAKE_RESUME: steps 3 to 7 of the exit, once DCO_READY has risen where SW20 is enabled (R458). -/
def execWakeResume (t : Nat) (s : State) : Host.Outcome State Fault Refusal :=
  let s := s.upTo t
  let p := s.power
  .next (match p.target with
    | some m =>
      if p.exiting ∧ (p.mode = .sleep ∨ s.clocks.dco = .locked ∨ !(bit s.domainEn 20)) then
        let deep := p.mode == .deepSleep
        let s := s.setPower { p with mode := m, target := none, exiting := false }
        let s := if deep then (s.clocksReturn).tbClock.coreWakes else s
        let s := s.portsStart.evlResume
        let s := if m = .run then s.enginesResume else s
        ((((s.auxBoth.openGates).raise 0x01 1).guardResume).wakeAgain).gpioDrain
      else s
    | none => s)

/-! ## Telemetry and thermal protection (R461 to R465) -/

/-- VIN_WARN by a sample of VIN (R462). -/
def State.vinWarn (s : State) (vin : Nat) : State :=
  let limit := 10 * fld (s.reg (blk 0x01 0x040)) 9 0
  if limit = 0 then s
  else if vin < limit then (if s.power.vinWarned then s else (s.setPower { s.power with vinWarned := true }).raise 0x01 8)
  else if limit + 100 ≤ vin then s.setPower { s.power with vinWarned := false }
  else s

/-- THERM_WARN by a temperature sample (R463). -/
def State.thermWarn (s : State) (temp : Int) : State :=
  let limit := 10 * (fld (s.reg (blk 0x01 0x03C)) 7 0 : Int)
  if limit = 0 then s
  else if limit < temp then (if s.power.thermWarned then s else (s.setPower { s.power with thermWarned := true }).raise 0x01 9)
  else if temp ≤ limit - 100 then s.setPower { s.power with thermWarned := false }
  else s

/-- TEMP_MAX by a temperature sample (R466). -/
def State.tempMax (s : State) (temp : BitVec 16) : State :=
  let a := blk 0x01 0x058
  let old := BitVec.ofNat 16 (fld (s.reg a) 15 0)
  let s := if s.power.sampled ∧ temp.toInt ≤ old.toInt then s else s.setReg a (temp.zeroExtend 32)
  s.setPower { s.power with sampled := true }

/-- Two 16-bit fields as a word. -/
def pair16 (hi lo : BitVec 16) : Word := hi ++ lo

/-- POWER_IN: VIN in 10 mV times the input current in mA, in units of 10 mW (R461, R466). Between two units it is open which one it reads
(log entry 28), and so is what it shows of a power that is too wide for it (log entry 12). -/
def powerIn (vin iin : BitVec 16) : BitVec 16 :=
  let n := (codeOf ((vin.toNat * iin.toNat : Nat) / 1000)).toNat
  BitVec.ofNat 16 (if n < 2 ^ 16 then n else Config.wideField 16 n)

/-- TELEMETRY_UPDATE: every millisecond the registers take the means of the last one (R461 to R464). -/
def execTelemetryUpdate (m : Telemetry) (t : Nat) (s : State) : Host.Outcome State Fault Refusal :=
  let s := s.upTo t
  let put := fun (s : State) o w => s.setReg (blk 0x01 o) w
  let s := put (put (put (put s 0x044 (pair16 m.iin m.vin)) 0x048 (pair16 m.imem m.icore)) 0x04C (pair16 m.iio33 m.iio18)) 0x050
    (pair16 m.iaux33 m.iaux5)
  let s := (put (put s 0x054 (m.temp.zeroExtend 32)) 0x05C ((powerIn m.vin m.iin).zeroExtend 32)).tempMax m.temp
  let s := (s.vinWarn m.vin.toNat).thermWarn m.temp.toInt
  .next (if m.temp.toInt < 1100 then s.setPower { s.power with cool := true } else s)

/-- The module enters thermal shutdown: its flags, and both auxiliary outputs off (R464). -/
def State.thermEnter (s : State) : State :=
  let s := if s.power.therm then s else s.raise 0x01 10
  (s.setPower { s.power with therm := true, cool := false, wakeLatched := none }).auxBoth

/-- THERM_SHUT: the die has reached 125 degrees. A change in progress stops where it stands, and fades under way take at most 5 ms (R460,
R464). -/
def execThermShut (t : Nat) (s : State) : Host.Outcome State Fault Refusal :=
  let s := s.upTo t
  let asleep := s.power.mode = .deepSleep ∧ s.power.target = none
  let s := s.thermEnter
  let s := s.setPower { s.power with rising := s.power.rising.filter (· == 18) }
  .next (if asleep then s else s.enterDeep.portsHurry)

/-- THERMAL_CUTOFF: the die has reached 135 degrees; every switched domain but SW18 and both auxiliary outputs go off with no
fade (R464, R465). -/
def execThermalCutoff (temp : BitVec 16) (t : Nat) (s : State) : Host.Outcome State Fault Refusal :=
  let s := s.upTo t
  let changes := s.power.mode != .deepSleep || s.power.target.isSome
  let s := if changes then s.enginesSleep else s
  let s := (((s.thermEnter.tempMax temp).guardMute).evlPause).deepNow
  .next (if changes then s.raise 0x01 1 else s)

end Sys2Proof.Machine
end

