-- ==== Sys2Proof/Machine/LoaderCheck.lean ====
section
/-!
DEFINITION. What the loader checks before it applies an image: encodings (R54 step 11), the resource rules of R55 on the
configuration that would result, and the conflicts of R63; and how an image's words land (R39, R45, R60).
-/

namespace Sys2Proof.Machine

/-- The state with the loader replaced. -/
def State.setLoader (s : State) (l : Loader) : State := { s with loader := l }

/-! ## How words land -/

/-- No field of block `b` changes by a full image (R60). -/
def keptBlock (b : Nat) : Bool := [0x00, 0x04, 0x05, 0x06, 0x07, 0x0B, 0x80, 0x81, 0xF0].contains b

/-- The register at `a` is a drawer's ORIGIN (R166). -/
def isOrigin (a : Nat) : Bool :=
  let b := a / 0x1000
  let o := a % 0x1000
  (b == 0x38 && 0x900 ≤ o && o < 0xD00) || (0x60 ≤ b && b < 0x68 && 0x100 ≤ o && o < 0x500 && o % 16 == 8)

/-- The bits of the register at `a` that a full image returns to their Reset values (R60, R406); ORIGIN becomes 0 with its drawer's
LEN (R173). -/
def resetMask (a : Nat) : Word :=
  let b := a / 0x1000
  let r := rowAt a
  if keptBlock b then 0
  else if isOrigin a then 0xFFFFFFFF
  else if b = 0x01 ∨ b = 0x02 then r.img
  else if b = 0x08 ∨ b = 0x09 then 0xFFFFFFFF
  else r.rw ||| r.img

/-- The memories that a full image clears to zero, both banks of the router tables among them (R60). -/
def imgCleared : List (Nat × Nat) :=
  [(0x100000, 0x300000), (0x10100000, 0x10300000), (0x304000, 0x308000), (0x310000, 0x330000)]
    ++ (List.range 32).flatMap fun e => [(engBase e, engBase e + 0x8000), (engBase e + 0x10000, engBase e + 0x20000)]

/-- Control-block fields and control memories as a full image finds them (R60). -/
def State.fieldsReset (s : State) : State :=
  { s with
    regs := s.regs.filterMap fun c =>
      let m := resetMask c.1
      let w := (c.2 &&& ~~~ m) ||| (resetWord c.1 &&& m)
      if w = resetWord c.1 then none else some (c.1, w)
    mem := imgCleared.foldl (fun l r => delRange l r.1 r.2) s.mem
    parityBad := s.parityBad.filter fun c => c.1 < 0x100000 && keptBlock (c.1 / 0x1000) }

/-- A word that the loader puts into memory crosses clocks as R326 states; `exact` for the configuration that verification forms, which no
transfer has carried. -/
def State.landTo (s : State) (exact : Bool) (a : Nat) (w : Word) : State := if exact then s.setWord a w else s.fclkWrite a w

/-- A control word that the loader puts into memory, with its parity (R29, R326). -/
def State.landGood (s : State) (exact : Bool) (a : Nat) (w : Word) : State :=
  if exact then (s.setWord a w).good a else (s.fclkWrite a w).fclkGood a

/-- A word lands in the Table and in the Shelf of a lane, with its dirty bit clear (R39). -/
def State.landBoth (s : State) (exact : Bool) (l : LaneName) (a : Nat) (w : Word) : State :=
  let p := s.laneWord l a
  let s := (s.landGood exact p.1 w).landGood exact p.2 w
  s.setLane l { s.lane l with dirty := (s.lane l).dirty.filter (· != a) }

/-- One word of an image lands: in a control block in its IMG and RW fields alone (R45), in a memory in every bit that is not reserved
(R6). What lies in a domain that is off is held there (R43, R535). An HPF word is staged, and live at once unless its section goes to
the Shelf of a powered router (R39, R243). -/
def State.landWord (s : State) (exact shelf : Bool) (a : Nat) (w : Word) : State :=
  let toShelf := fun (s : State) l a w => if exact then s.writeShelf l a w else s.fclkShelf l a w
  match regionOf a with
  | some (.control _) =>
    let m := (rowAt a).rw ||| (rowAt a).img
    let s := (s.setReg a ((s.reg a &&& ~~~ m) ||| (w &&& m))).good a
    if isHpf a && (!shelf || !(s.domain 13)) then s.hpfTake ((a - hpfReg 0) / 4) else s
  | some (.program _) => (s.good (a / 8 * 8 + (4 - a % 8))).landGood exact a w
  | some (.xmem _) => s.landTo exact a w
  | some (.yshelf e) =>
    let l : LaneName := .engine (Fin.ofNat 32 e)
    if shelf then toShelf s l (yIndex a) w else s.landBoth exact l (yIndex a) w
  | some .xpt | some .tables =>
    match routerMask a with
    | some m => if shelf then toShelf s .router a (w &&& m) else s.landBoth exact .router a (w &&& m)
    | none => s
  | some .events => (s.setWord a (w &&& storedMask .events a)).good a
  | some .cmap => (s.setWord a w).good a
  | some .descs => (s.setWord a (w &&& storedMask .descs a)).good a
  | _ => s

/-- SHELF has a meaning for the section's type (R39). -/
def shelfType (type : Nat) : Bool := type == 9 || (13 ≤ type && type ≤ 16)

/-- Words land in order. -/
def State.landWords (s : State) (exact shelf : Bool) (l : List (Nat × Word)) : State :=
  s.each l fun s c => s.landWord exact shelf c.1 c.2

/-- The words of a section, by address, in file order. -/
def ImgSection.words (c : ImgSection) : List (Nat × Word) := c.recs.flatMap fun r => r.data.zipIdx.map fun d => (r.addr + 4 * d.2, d.1)

/-- A section's words land. -/
def State.landSection (exact : Bool) (s : State) (c : ImgSection) : State := s.landWords exact (c.shelf && shelfType c.type) c.words

/-- The order in which section types apply (R57). -/
def applyOrder : List Nat := [3, 1, 2, 6, 11, 12, 7, 8, 9, 10, 13, 14, 15, 16, 4, 5, 17, 20, 18, 19, 22]

/-- The sections of an image in the order they apply, file order within a type (R46, R57). -/
def applySections (l : List Word) : List ImgSection := applyOrder.flatMap fun t => (imgSects l).filter fun c => c.type == t

/-- The configuration that would stand after apply (R55): the present one, or for a full image that of R60, overlaid with the
image. -/
def State.wouldBe (s : State) (full : Bool) (l : List Word) : State :=
  (if full then s.fieldsReset else s).each (applySections l) (State.landSection true)

/-! ## Step 11: encodings -/

/-- One word of an image: its address and value, its section, and its byte offset in the image. -/
structure ImgPlace where
  addr : Nat
  word : Word
  sec : Nat
  offset : Nat
  deriving DecidableEq, Repr

/-- The words of a section with their places. -/
def ImgSection.places (c : ImgSection) : List ImgPlace :=
  c.recs.flatMap fun r => r.data.zipIdx.map fun d => ⟨r.addr + 4 * d.2, d.1, c.index, r.pos + 8 + 4 * d.2⟩

/-- All words of an image with their places. -/
def imgPlaces (l : List Word) : List ImgPlace := (imgSects l).flatMap ImgSection.places

/-- The drawer whose LOC register lies at a byte address (R166). -/
def drawerOfLoc (a : Nat) : Option DrawerName :=
  let b := a / 0x1000
  let o := a % 0x1000
  if b = 0x38 ∧ 0x100 ≤ o ∧ o < 0x500 then some ⟨true, 0, (o - 0x100) / 4⟩
  else if 0x60 ≤ b ∧ b < 0x68 ∧ 0x100 ≤ o ∧ o < 0x500 ∧ o % 16 = 0 then some ⟨false, b - 0x60, (o - 0x100) / 16⟩
  else none

/-- A word of an image puts a reserved encoding into a field it writes (R7, R171, R256 to R260, R272, R437). A drawer's LEN has none: one
above its memory crosses its end (R171). -/
def wordReserved (a : Nat) (w : Word) : Bool :=
  let m := (rowAt a).rw ||| (rowAt a).img
  match regionOf a with
  | some (.control b) =>
    (m != 0 && !(legalWrite a m w))
      || (match drawerOfLoc a with | some d => ownerBad d w | none => false)
      || (((0x10 ≤ b && b < 0x20 && a % 0x1000 == 0x010) || (b == 0x80 && (a % 0x1000 == 0x108 || a % 0x1000 == 0x10C)))
            && fld w 3 2 < 2 && fld w 20 16 != 1)
  | some .xpt | some .tables => !(routerLegal a w)
  | _ => false

/-- The program words of a section that hold an encoding the loader refuses (R109). -/
def programErrors : List ImgPlace → List ImgErr
  | lo :: hi :: r =>
    (if wordLegal (hi.word ++ lo.word) then [] else [⟨0x0E, 11, lo.sec, lo.offset⟩]) ++ programErrors r
  | _ => []

/-- The encoding errors of section `c` of image `l` by itself (R7, R47, R48, R109). -/
def ImgSection.errors (l : List Word) (c : ImgSection) : List ImgErr :=
  if c.type = 7 then programErrors c.places
  else if c.type = 21 then
    (startError (((startSections l).filter fun d => d.index < c.index).flatMap fun d => startEntries d.payload) c).toList
  else (c.places.filter fun p => wordReserved p.addr p.word).map fun p => ⟨0x0E, 11, p.sec, p.offset⟩

/-- CFG of receiver `n`: ROLE (R313). -/
def State.rxRole (s : State) (n : Nat) : Nat := fld (s.reg (rxReg n 0x010)) 3 2

/-- The address of word `k` of timebase `n`'s registers: 0 TBn_CFG, 4 TBn_NOM (R347). -/
def tbReg (n k : Nat) : Nat := blk 0x03 (0x040 + 32 * n + k)

/-- Timebase `n`'s settings hold what R348 refuses. -/
def State.tbReserved (s : State) (n : Nat) : Bool :=
  let w := s.reg (tbReg n 0)
  let nom := fld (s.reg (tbReg n 4)) 16 0
  let kind := fld w 5 4
  let xdiv := fld w 31 16
  (kind == 3 && xdiv < 40) || (kind != 3 && xdiv != 0) || (fld w 2 0 == 7 && nom == 0) || (fld w 2 0 != 7 && nom != 0)
    || ((kind == 0 || kind == 3) && fld w 11 8 != 0) || (kind == 2 && 3 < fld w 11 8)

/-- The pairs of distinct numbers below `n`, the lower first. -/
def pairsBelow (n : Nat) : List (Nat × Nat) := (List.range n).flatMap fun j => (List.range j).map fun i => (i, j)

/-- The groups of words, by address, that stand in a reserved encoding together, in the configuration that would result
(R254, R267, R272, R298, R348, R437). -/
def State.configReserved (s : State) : List (List Nat) :=
  let group := (List.range 16).filterMap fun p =>
    let a := tdmReg p 0x010
    let q := tdmReg (fld (s.reg a) 27 24) 0x010
    if bit (s.reg a) 28 && bit (s.reg q) 28 then some [a, q] else none
  let tbs := (List.range 4).filterMap fun n => if s.tbReserved n then some [tbReg n 0, tbReg n 4] else none
  let sources := (List.range 4).filterMap fun n =>
    if s.tbKind n = 2 ∧ s.rxRole (s.tbIndex n) = 0 then some [tbReg n 0] else none
  let src := fld s.disc 6 4
  let disc := if 4 ≤ src ∧ s.rxRole (src - 4) ≠ 2 then [[blk 0x02 0x01C]] else []
  let pair := fun (f : Nat → Nat) (sink : Word → Nat) n => (pairsBelow n).filterMap fun c =>
    let x := s.reg (f c.1)
    let y := s.reg (f c.2)
    if bit x 31 && bit y 31 && sink x == sink y then some [f c.1, f c.2] else none
  group ++ tbs ++ sources ++ disc ++ pair (fun n => blk 0x32 (0x100 + 4 * n)) (fun w => fld w 10 0) 16
    ++ pair (fun n => blk 0x80 (0x140 + 4 * n)) (fun w => fld w 8 0) 8

/-- The event-list and control-map entries, as four words each, that hold what R492 refuses. -/
def State.entriesReserved (s : State) : List (List Nat) :=
  let four := fun (f : Nat → Nat) => (List.range 4).map f
  ((List.range 1024).filterMap fun i =>
    let w := s.evlWord i 2
    let act := fld w 23 16
    if bit w 31 && (8 ≤ act || (act == 4 && fld (s.evlWord i 3) 9 8 == 3)) then some (four (evlAddr i)) else none)
  ++ (s.mapEntries 4096 0 0).filterMap fun i => if 2 ≤ fld (s.mapWord i 0) 30 29 then some (four (mapAddr i)) else none

/-- CTRL of a DMA descriptor puts a reserved increment into the configuration `c` that would result; a link-only descriptor's increments
are ignored (R7, R391, R392). -/
def State.descReserved (c : State) (p : ImgPlace) : Bool :=
  regionOf p.addr == some .descs && p.addr % 16 == 12 && fld (c.wordAt (p.addr - 4)) 23 0 != 0
    && (fld p.word 13 12 == 3 || fld p.word 15 14 == 3)

/-- The error of the first word of the image among some addresses; none where the image writes none of them. -/
def touchError (ps : List ImgPlace) (as : List Nat) : Option ImgErr :=
  (ps.find? fun p => as.contains p.addr).map fun p => ⟨0x0E, 11, p.sec, p.offset⟩

/-- The error at the lowest byte offset. -/
def firstError (l : List ImgErr) : Option ImgErr :=
  l.foldl (fun o e => match o with | some x => if e.offset < x.offset then some e else some x | none => some e) none

/-- Step 11 of R54, for the configuration `c` that would result. -/
def encodingError (c : State) (l : List Word) : Option ImgErr :=
  let ps := imgPlaces l
  firstError ((imgSects l).flatMap (ImgSection.errors l)
    ++ (ps.filter c.descReserved).map (fun p => ⟨0x0E, 11, p.sec, p.offset⟩)
    ++ (c.configReserved ++ c.entriesReserved).filterMap (touchError ps))

/-! ## Step 12: resource rules (R55) -/

/-- The engines that R55 applies to: those that are RUNNING, which a full load has stopped, or listed to start. -/
def State.loadEngines (s : State) (full : Bool) (l : List Word) : List Nat :=
  (List.range 32).filter fun e =>
    (!full && (s.eng e).st == .running) || (imgEntries l).any fun x => x.unit == 0 && x.inst == e

/-- An engine does not fit its tick (R16, R55, R74). -/
def State.budgetBad (c : State) (e : Nat) : Bool :=
  c.engBudget e == 0 || c.nominal (c.engTb e) - 64 < c.engPhi e + c.engK e * c.engBudget e

/-- The form of the words that a count of 0 skips, `n` of them from word `a` on, within blocks that end at `ends`, innermost first: no
FINAL among them, and every REP well formed and properly nested (R132, R133, R160). -/
def blockForm (prog : Nat → BitVec 64) : (n : Nat) → List Nat → (a : Nat) → Bool
  | 0, _, _ => true
  | n + 1, ends, a =>
    let ends := ends.filter (a ≤ ·)
    let w := prog a
    let op := if ctrlLegal w then ctrlOp w else 0
    if op = 2 then false
    else if op = 1 then
      let last := repEnd w
      !(4 ≤ ends.length || decide (last < a + 1) || wf w 63 56 != 0 || ends.any (fun b => b == a || decide (b < last)))
        && blockForm prog n (last :: ends) (a + 1)
    else blockForm prog n ends (a + 1)

/-- The walk of R162 over a program from word `a` on, with `fuel` words left of B: it reaches FINAL outside every block, with every
REP well formed and properly nested, no two far accesses in consecutive cycles, and no pass from 4,095 to 0 (R131 to R133, R160,
R161). A block with count 0 adds nothing, but its words are judged; words after FINAL are not (log entry 46). `far` when the word before
made a far access. -/
def walkRound (prog : Nat → BitVec 64) : (fuel : Nat) → List Block → Sparse (BitVec 16) → (a : Nat) → (far : Bool) → Bool
  | 0, _, _, _, _ => false
  | n + 1, blocks, lc, a, far =>
    let w := prog a
    let op := if ctrlLegal w then ctrlOp w else 0
    let isFar := op == 3 || op == 4
    if isFar && far then false
    else if op = 2 then blocks.isEmpty
    else if op = 1 then
      let last := repEnd w
      if 4 ≤ blocks.length ∨ last < a + 1 ∨ wf w 63 56 ≠ 0 then false
      else if blocks.any fun b => b.last == a || b.last < last then false
      else if repCount w ≠ 0 then
        walkRound prog n (⟨a + 1, last⟩ :: blocks) (put 0 lc blocks.length (BitVec.ofNat 16 (repCount w))) (a + 1) false
      else
        let q := afterWord blocks lc last
        blockForm prog (last - a) (last :: blocks.map (·.last)) (a + 1) && q.2.2 != 0 && walkRound prog n q.1 q.2.1 q.2.2 false
    else
      let q := afterWord blocks lc a
      q.2.2 != 0 && walkRound prog n q.1 q.2.1 q.2.2 isFar

/-- An enabled drawer crosses the end of its memory, or two overlap (R55, R171). -/
def State.drawersBad (c : State) : Bool :=
  let l := c.enabledDrawers
  l.any fun d => drawerMemWords d < locBase (c.loc d) + c.len d
    || l.any fun d' => d' != d && d'.sameMem d && overlaps (locBase (c.loc d)) (c.len d) (locBase (c.loc d')) (c.len d')

/-- A declared handoff between two of the engines breaks its rule (R55, R93). -/
def State.handoffBad (c : State) (es : List Nat) : Bool :=
  es.any fun e => (List.range (e % 4)).any fun p =>
    let w := e / 4 * 4 + p
    es.contains w && c.handoffDeclared e p
      && (c.engTb e != c.engTb w || c.engPhi e < c.engPhi w + c.engK w * c.engBudget w + 8)

/-- A Store drawer lies in, or one of the engines belongs to, a domain that the configuration powers off (R12, R55). -/
def State.domainBad (c : State) (es : List Nat) : Bool :=
  es.any (fun e => !(bit c.domainEn (e / 4 + 1)))
    || c.enabledDrawers.any fun d => d.store && (List.range 4).any fun q =>
      overlaps (locBase (c.loc d)) (c.len d) (q * 1048576) 1048576 && !(bit c.domainEn (9 + q))

/-- Step 12 of R54: the first failing code of R55 in table order, 0 when none fails. -/
def resourceCode (c : State) (es : List Nat) : Nat :=
  if es.any c.budgetBad then 0x10
  else if es.any fun e => !(walkRound (c.progWord e) (c.engBudget e) [] [] 0 false) then 0x11
  else if c.drawersBad then 0x12
  else if c.handoffBad es then 0x13
  else if c.domainBad es then 0x14
  else 0

/-! ## Step 13: conflicts with what runs (R63) -/

/-- The engine is OFF or STOPPED. -/
def State.engFree (s : State) (e : Nat) : Bool := (s.eng e).st == .off || (s.eng e).st == .stopped

/-- The TDM port is enabled: its state says so, whatever EN a full stop has left (R59, R63). -/
def State.portOn (s : State) (p : Nat) : Bool := (s.port p).st != .disabled

/-- A receiver or a transmitter of the biphase block is enabled. -/
def State.biphaseOn (s : State) (n : Nat) : Bool := (s.rx n).st != .disabled || (s.tx n).st != .disabled

/-- A unit of timebase `n` is enabled or RUNNING. -/
def State.tbInUse (s : State) (n : Nat) : Bool :=
  (List.range 32).any (fun e => s.engTb e == n && (s.eng e).st == .running)
    || (List.range 16).any (fun p => s.tdmTb p == n && s.portOn p)
    || (List.range 4).any fun m => (s.rxTb m == n && (s.rx m).st != .disabled) || (s.txTb m == n && (s.tx m).st != .disabled)

/-- Domain SW`n` holds a RUNNING engine, an enabled port, or a drawer owned by a RUNNING engine. -/
def State.domainInUse (s : State) (n : Nat) : Bool :=
  let owned := fun (d : DrawerName) =>
    let o := locOwner (s.loc d)
    o < 32 && (s.eng o).st == .running
      && (if d.store then 9 ≤ n && n ≤ 12 && overlaps (locBase (s.loc d)) (s.len d) ((n - 9) * 1048576) 1048576 else d.set + 1 == n)
  (1 ≤ n && n ≤ 8 && (List.range 4).any fun k => (s.eng (4 * (n - 1) + k)).st == .running)
    || ((n == 14 || n == 15) && (List.range 8).any fun p => s.portOn (8 * (n - 14) + p))
    || (n == 16 && (List.range 4).any s.biphaseOn) || s.enabledDrawers.any owned

/-- A stream source or sink uses the drawer. -/
def State.streamUses (s : State) (d : DrawerName) : Bool :=
  [false, true].any fun k => (List.range 64).any fun m => s.streamDrawer k m == some d

/-- The commit group of a unit holds an outstanding commit. -/
def State.memberOutstanding (s : State) (m : Member) : Bool :=
  (List.range 32).any fun g => (s.grp g).st != .idle && (s.members g).contains m

/-- A listed unit is stopped or disabled. -/
def State.unitStopped (s : State) (x : StartEntry) : Bool :=
  match x.unit with
  | 0 => s.engFree x.inst
  | 1 => (s.port x.inst).st == .disabled
  | 2 => (s.rx x.inst).st == .disabled
  | 3 => (s.tx x.inst).st == .disabled
  | 4 => (s.chan x.inst).st == .stopped
  | _ => !(bit (s.reg (blk 0x06 0x01C)) 0)

/-- A word of section `c` meets a condition of R63 that is not fulfilled; `after` is the configuration that would result. A written
drawer's owner is its present one as well as the one that the image gives it: both are to be OFF or STOPPED (DESIGN CHOICE: R63 does not
say which of them it means; log entry 85). -/
def State.wordConflict (s after : State) (c : ImgSection) (a : Nat) (w : Word) : Bool :=
  let b := a / 0x1000
  let o := a % 0x1000
  match c.type with
  | 2 => 0x040 ≤ o && o < 0x0C0 && o % 32 ≤ 4 && s.tbInUse ((o - 0x040) / 32)
  | 6 => if b < 0x60 then !(s.engFree (b - 0x40)) else (List.range 4).any fun k => !(s.engFree (4 * (b - 0x60) + k))
  | 7 | 8 | 10 => !(s.engFree c.target)
  | 9 => !c.shelf && !(s.engFree c.target)
  | 11 | 12 =>
    match (drawerOfLoc a).or (drawerOfLen a) with
    | some d =>
      s.streamUses d || [s, after].any fun s' => locOwner (s'.loc d) < 32 && !(s.engFree (locOwner (s'.loc d)))
    | none => false
  | 13 | 14 | 15 | 16 => s.domain 13 && (!c.shelf || (a < 0x100000 && (w ^^^ s.reg a) &&& (rowAt a).img != 0))
  | 17 => 0x100 ≤ o && o < 0x500 && (s.grp ((o - 0x100) / 32)).st != .idle
  | _ => false

/-- Section `c` meets a condition of R63 that is not fulfilled, whichever words it holds. -/
def State.sectionConflict (s after : State) (c : ImgSection) : Bool :=
  let member : Member := if c.type = 9 then .engine c.target else .router
  (c.shelf && shelfType c.type && s.memberOutstanding member) || (match c.type with
    | 1 => true
    | 3 => (List.range 20).any fun n => bit s.domainEn (n + 1) && !(bit after.domainEn (n + 1)) && s.domainInUse (n + 1)
    | 4 => (s.port c.target).st != .disabled
    | 5 => if c.target < 4 then (s.rx c.target).st != .disabled else (s.tx (c.target - 4)).st != .disabled
    | 20 => (List.range 16).any fun k => (s.chan k).st != .stopped
    | 21 => (startEntries c.payload).any fun x => !(s.unitStopped x)
    | _ => false)

/-- Step 13 of R54: the first section, in file order, that R63 does not permit. -/
def State.conflictError (s after : State) (l : List Word) : Option ImgErr :=
  (imgSects l).findSome? fun c =>
    if s.sectionConflict after c then some ⟨0x15, 13, c.index, c.pos⟩
    else (c.places.find? fun p => s.wordConflict after c p.addr p.word).map fun p => ⟨0x15, 13, c.index, p.offset⟩

/-- The first failure of R54 for the staged image; none when it passes. A failure at step 12 lies in no section and at no word, and
records offset 0 (DESIGN CHOICE: the manual names neither for it; log entry 75). -/
def State.verifyError (s : State) (full : Bool) (l : List Word) : Option ImgErr :=
  match formatError full (fld (s.reg (blk 0x00 0x010)) 15 8) l with
  | some e => some e
  | none =>
    let c := s.wouldBe full l
    match encodingError c l with
    | some e => some e
    | none =>
      let code := resourceCode c (s.loadEngines full l)
      if code ≠ 0 then some ⟨code, 12, noSection, 0⟩
      else if full then none
      else s.conflictError c l

end Sys2Proof.Machine
end

