-- ==== Sys2Proof/Machine/Loader.lean ====
section
/-!
DEFINITION. The image loader: how a load begins, receives, is verified, applies and starts its units (R48 to R69), and the reset of
the control core, which may end a load (R480).
-/

namespace Sys2Proof.Machine

/-- The address of an IMAGE register (R66). -/
def imageReg (o : Nat) : Nat := blk 0x07 o

/-- The code of a loader state (R68). -/
def LoadState.code : LoadState → Nat
  | .idle => 0
  | .stopping => 1
  | .receiving => 2
  | .verifying => 3
  | .applying => 4
  | .starting => 5
  | .failed => 6
  | .hold => 7

/-! ## Stopping (R59) -/

/-- Ports fade out, engines stop at their next Round end, ARMED engines return to STOPPED, and DMA channels and the event list stop (R59). -/
def State.fullStop (s : State) : State :=
  let s := s.each (List.range 32) State.engFullStop
  let s := s.each (List.range 16) State.tdmFullStop
  let s := s.each (List.range 4) fun s n => (s.rxFullStop n).txFullStop n
  let s := s.each (List.range 16) State.chanImage
  (s.setReg (blk 0x06 0x01C) 0).evlPause

/-- Every fade of STOPPING has completed (R59, R68). -/
def State.allStopped (s : State) : Bool :=
  (List.range 16).all (fun p => s.portRests p || ((s.port p).st == .stopping && (s.port p).tx.gain == 0 && (s.port p).rx.gain == 0))
    && (List.range 4).all fun n => ((s.rx n).st == .disabled || (s.rx n).st == .faulted)
        && ((s.tx n).st == .disabled || (s.tx n).st == .faulted || ((s.tx n).st == .stopping && (s.tx n).fade.gain == 0))

/-- The contents of Delay Store banks 8 to 15, where a full image is staged, become undefined (R52, R62). -/
def State.stageBanks (s : State) : State := if s.loader.full then (s.freeQuarter 2).freeQuarter 3 else s

/-! ## Outcomes -/

/-- A mailbox load's response follows its end, with IMAGE.ERROR and IMAGE.STATUS (R484, R485). -/
def State.loadReply (s : State) (failed : Bool) : State :=
  match s.loader.path with
  | .mailbox head _ =>
    (s.setLoader { s.loader with path := .host }).post
      [replyHead head (if failed then 0x03 else 0x00), s.reg (imageReg 0x018), BitVec.ofNat 32 s.loader.st.code]
  | _ => s

/-- IMAGE.ERROR and ERROR_OFFSET record a failure, and FAIL_COUNT counts it (R66, R69). -/
def State.loadError (s : State) (e : ImgErr) : State :=
  ((s.setReg (imageReg 0x018) (BitVec.ofNat 32 (e.code * 2 ^ 24 + e.step * 2 ^ 16 + e.sec))).setReg (imageReg 0x01C)
    (BitVec.ofNat 32 e.offset)).bump (imageReg 0x03C)

/-- A boot that fails: CAUSE, PHASE WAIT_HOST and BOOT_FAIL (R473). -/
def State.bootFail (s : State) (cause : BitVec 4) : State :=
  (s.setCore { s.core with cause := cause, phase := .waitHost }).raise 0x06 3

/-- The state with the host port replaced. -/
def State.setHost (s : State) (h : HostPort) : State := { s with host := h }

/-- A flash read is over: HOWN_N is released (R382, R473). -/
def State.flashOver (s : State) : State :=
  if s.loader.path = .flash then s.setHost { s.host with mastering := false, flashRest := [] } else s

/-- The load ends in failure, and a flash read with it (R62, R68, R473). `cause` is what BOOT_STATE records before any image has been applied, 0 for
nothing. -/
def State.loadFail (s : State) (e : ImgErr) (cause : BitVec 4) : State :=
  let l := s.loader
  let s := s.flashOver
  let s := (s.loadError e).raise 0x07 2
  let s := s.setLoader { l with st := if !l.full && l.begun == .idle then .idle else .failed, clockTodo := [] }
  let s := s.stageBanks
  let s := if l.full && !s.core.imageStands && cause != 0 then s.bootFail cause
    else if s.core.phase = .loading ∨ s.core.phase = .flash then
      s.setCore { s.core with phase := if s.core.imageStands then .running else .waitHost }
    else s
  (s.domainsFollow.evlResume).loadReply true

/-- A failure outside every section and every step of R54. -/
def plainErr (code : Nat) : ImgErr := ⟨code, 0, noSection, 0⟩

/-! ## Receiving -/

/-- The staged image is complete: VERIFYING, and PHASE LOADING for a full image; a flash read is over (R68, R382, R472). -/
def State.loadVerify (s : State) : State :=
  let s := s.flashOver.setLoader { s.loader with st := .verifying }
  if s.loader.full then s.setCore { s.core with phase := .loading } else s

/-- What BOOT_STATE records for a full image refused on reception (R473). -/
def State.refusalCause (s : State) : BitVec 4 := if s.loader.path = .flash then 4 else 5

/-- The kind of the load once KIND has arrived: where PARTIAL contradicts the command that began the load, the manual does not say which of the two
holds (R37, R51; log entry 47). -/
def State.kindOf (s : State) (kind : Word) : Bool :=
  if bit kind 0 = s.loader.full then (if Config.headerKind then !(bit kind 0) else s.loader.full) else s.loader.full

/-- One word appended to the image; KIND is taken as it arrives, a LENGTH that R52 refuses ends reception as it arrives, and the last word ends it in
VERIFYING (R37, R52, R53). -/
def State.loadWord (s : State) (w : Word) : State :=
  let l := s.loader
  if l.st ≠ .receiving then s
  else
    let staged := l.staged ++ [w]
    let full := if staged.length = 4 then s.kindOf w else l.full
    let s := (s.setLoader { l with staged := staged, full := full }).setReg (imageReg 0x020) (BitVec.ofNat 32 (4 * staged.length))
    let code := lengthCode full (imgLength staged)
    if staged.length = 5 ∧ code ≠ 0 then s.loadFail ⟨code, 0, noSection, 0x10⟩ s.refusalCause
    else if 5 ≤ staged.length ∧ imgLength staged ≤ 4 * staged.length then s.loadVerify
    else s

/-- Words appended while the loader receives. -/
def State.loadMany (s : State) : List Word → State
  | [] => s
  | w :: r => (s.loadWord w).loadMany r

/-- The words of a mailbox load's image, from its source (R51); none where the source does not answer. -/
def State.sourceWords (s : State) (a n : Nat) : Option (List Word) :=
  let at_ := fun k => a + 4 * k
  if (List.range n).all fun k => match regionOf (at_ k) with | some r => s.regionOn r (at_ k) | none => false then
    some ((List.range n).map fun k => s.wordAt (at_ k))
  else none

/-- The core's reads of `n` words of a mailbox load's source, with their waits at the Delay Store (R200, R508; log entry 92). -/
def State.sourceWaits (s : State) (a n : Nat) : State :=
  s.each (List.range n) fun s k => s.bankWaited 2 (a + 4 * k) (s.lowerHold 2)

/-- RECEIVING begins; a mailbox load reads its whole image (R51, R68, R69). -/
def State.loadReceive (s : State) : State :=
  let s := (s.setLoader { s.loader with st := .receiving, staged := [] }).setReg (imageReg 0x020) 0
  let s := s.stageBanks
  match s.loader.path with
  | .mailbox _ a =>
    match s.sourceWords a 5 with
    | none => s.loadFail (plainErr 0x19) 5
    | some h =>
      if lengthCode s.loader.full (imgLength h) ≠ 0 then (s.sourceWaits a 5).loadMany h
      else match s.sourceWords a (imgLength h / 4) with
        | some l => (s.sourceWaits a l.length).loadMany l
        | none => s.loadFail (plainErr 0x19) 5
  | _ => s

/-- A load may begin (R51). -/
def State.loadFree (s : State) : Bool := s.loader.st == .idle || s.loader.st == .failed

/-- A full load ends the wait of a queued boot (R383). -/
def State.queueEnds (s : State) : State := if s.core.phase = .queued then s.setCore { s.core with phase := .waitHost } else s

/-- A load begins on a path; one begun while another proceeds is refused with BUSY (R51, R59, R68, R69). -/
def State.loadBegin (s : State) (full : Bool) (path : LoadPath) : State :=
  if !s.loadFree then s.loadError (plainErr 0x16)
  else
    let s := if full then s.queueEnds else s
    let l := s.loader
    let s := s.setLoader { l with full := full, path := path, begun := l.st, staged := [], entries := [] }
    if !full then s.loadReceive
    else
      let s := ((s.setLoader { s.loader with st := .stopping }).fullStop).domainsFollow
      if s.allStopped then s.loadReceive else s

/-- ABORT (R67, R68). -/
def State.loadAbort (s : State) : State := if s.loader.st = .receiving then s.loadFail (plainErr 0x18) 0 else s

/-! ## The reset of the control core (R480) -/

/-- The control core restarts at step 5 of R472; a load in APPLYING completes first (R480). -/
def State.coreReset (s : State) : State :=
  if s.loader.st = .applying then s.setCore { s.core with resetPending := true }
  else
    let s := s.setCore { s.core with autoWait := [], replies := [], resetPending := false }
    let s := s.each (List.range 4) fun s k => s.setReg (mailReg k) 0
    let busy := s.loader.st = .stopping ∨ s.loader.st = .receiving ∨ s.loader.st = .verifying
    let s := s.flashOver.setLoader { s.loader with path := .host }
    let s := if busy then s.loadFail (plainErr 0x18) 0 else s
    let s := (s.setCore { s.core with phase := .romCheck }).evlPause
    (s.sideReset 12).crossReset 70 []

/-! ## Applying (R57 to R61) -/

/-- The words that the sections of one type write. -/
def imgTypeWords (l : List Word) (type : Nat) : List (Nat × Word) :=
  ((imgSects l).filter fun c => c.type == type).flatMap ImgSection.words

/-- A word of a POWER section: MODE and AUX_CFG act as written, and any other lands (R57, R448, R454). -/
def State.powerWord (s : State) (c : Nat × Word) : State :=
  if c.1 = blk 0x01 0x028 then s.writeAux c.2
  else if c.1 = blk 0x01 0x010 then
    (match fld c.2 1 0 with | 0 => s.writeMode .run | 1 => s.writeMode .sleep | 2 => s.writeMode .deepSleep | _ => s)
  else s.landWord false false c.1 c.2

/-- A POWER section acts, first of all sections. A DOMAIN_EN that would switch SW18 off while R432 forbids it, or SW19 off under the loader, leaves
that bit as it stands (R57, R449, R451). -/
def State.applyPower (s : State) : State :=
  let en := blk 0x01 0x01C
  let old := s.reg en
  let s := s.each (imgTypeWords s.loader.staged 3) State.powerWord
  let keep18 := bit old 18 && !(bit (s.reg en) 18) && s.isSealed && s.anyGslot
  let keep19 := bit old 19 && !(bit (s.reg en) 19)
  let s := if keep18 then (s.setReg en (setBit (s.reg en) 18 true)).meterLog 0x12 0 0 0 else s
  let s := if keep19 then s.setReg en (setBit (s.reg en) 19 true) else s
  (if keep18 || keep19 then s.raise 0x01 4 else s).domainsFollow

/-- What a full image does before its sections apply: pending commits are cancelled, fields and control memories return to their Reset values, and the
stopped units follow them (R60, R197, R406). -/
def State.fullReset (s : State) : State :=
  let s := ({ s with groups := [], stages := [], dma := { Dma.reset with wentOff := s.dma.wentOff } } : State).fieldsReset
  let s := s.each (List.range 32) fun s e => (s.setEng e { s.eng e with lane := Lane.reset, ramps := [] }).engConfigure e
  let s := s.routerRestart
  let s := s.setRouter { s.router with lane := Lane.reset, hpfLive := [], gens := [] }
  let s := s.setCore { s.core with autoWait := s.core.autoWait.map fun a => { a with groups := [], engines := [], chans := [] } }
  let s := s.each allLanes State.autoLanded
  let s := s.each (List.range 16) State.tdmDisabled
  let s := s.each (List.range 4) State.biphaseLost
  s.each [0, 1, 2, 3] State.tbAcquire

/-- VERIFICATION_END with every check passed: APPLYING begins, POWER first (R57, R60). -/
def State.loadApply (s : State) : State :=
  let s := (s.setLoader { s.loader with st := .applying }).evlPause
  if s.loader.full then
    let s := s.fullReset.applyPower
    (s.setLoader { s.loader with clockTodo := imgTypeWords s.loader.staged 1 }).loadClocks
  else s.applyPower

/-- CLEAR_DATA zeroes X memory, and the Set memory and the Delay Store of every domain the image powers (R60). -/
def State.clearData (s : State) : State :=
  let s := s.each (List.range 32) fun s e => s.clearMem (engBase e + 0x8000) (engBase e + 0x10000)
  let s := s.each (List.range 8) fun s n =>
    if bit s.domainEn (n + 1) then s.clearMem (0x1000000 + n * 0x200000) (0x1200000 + n * 0x200000) else s
  s.each (List.range 4) fun s q => if bit s.domainEn (9 + q) then s.clearStore q else s

/-- A SEALED section: landed while the meter is not sealed, and otherwise ignored; both are logged while SW18 is on (R65, R428, R535). A group whose
first guard slot it enables starts from then (R419), and shadow words that it rewrites are no longer in error (R433). -/
def State.applySealed (s : State) (c : ImgSection) (crc : Word) : State :=
  if s.isSealed then (s.raise 0x07 5).meterLog 0x07 0 crc.toNat 0
  else if s.domain 18 then
    let idle := [0, 1].filter fun g => !(s.groupOn g)
    let s := (s.landWords false false c.words).each idle State.guardFresh
    ((s.meterLog 0x05 0 s.sealCheck.toNat crc.toNat).meterParams).shadowRewritten c.words
  else s.landWords false false c.words

/-- A drawer whose descriptor was written starts at ORIGIN 0 (R173). -/
def State.originZero (s : State) (a : Nat) : State :=
  match (drawerOfLoc a).or (drawerOfLen a) with
  | some d => (s.setOrigin d 0).good (originAddr d)
  | none => s

/-- Image records on drawer descriptors refuse every READY stage entry with cause DROPPED (R194, R197). -/
def State.stagesDrop (s : State) : State :=
  s.each (List.range 16) fun s n => if (s.stage n).st = .ready then s.stageRefuse n 8 else s

/-- What follows the landing of one word at `a`: pointer words are live as well as staged, and a written stage entry is IDLE (R153, R195). A record
that sets CTRL.EN starts nothing: a unit that is not listed stays disabled (R48). -/
def State.landedAt (s : State) (a : Nat) : State :=
  let b := a / 0x1000
  let o := a % 0x1000
  if 0x40 ≤ b ∧ b < 0x60 ∧ 0x100 ≤ o ∧ o < 0x180 ∧ o % 16 < 12 then
    let e := b - 0x40
    (s.setEng e { s.eng e with ptrFresh := joinKeys (s.eng e).ptrFresh [ptrPlace a] }).ptrMakeLive e
  else if b = 0x38 ∧ 0xD00 ≤ o ∧ o < 0xE00 ∧ o % 16 < 12 then
    let n := (o - 0xD00) / 16
    s.setStage n { Stage.reset with appliedAt := (s.stage n).appliedAt }
  else s

/-- The register at `a` belongs to a drawer descriptor (R166). -/
def inDescriptor (a : Nat) : Bool := (drawerOfLoc a).isSome || (drawerOfLen a).isSome || isOrigin a

/-- The units follow what an image has written; the masks of a DISABLED port are live at once (R90, R98, R197, R241, R244, R261, R282, R338). -/
def State.applyUnits (s : State) (gens : List Word) : State :=
  let full := s.loader.full
  let cs := (imgSects s.loader.staged).filter fun c => c.words != []
  let ws := (applySections s.loader.staged).flatMap ImgSection.words
  let s := if full then { s with engines := s.engines.map fun c => (c.1, { c.2 with reload := false }) }
    else s.each (cs.filter fun c => c.type == 7) fun s c => s.setEng c.target { s.eng c.target with reload := false }
  let s := s.each (List.range 32) State.engConfigure
  let s := s.each [0, 1, 2, 3] fun s n =>
    if full || ws.any fun c => c.1 == tbReg n 0 || c.1 == tbReg n 4 then s.tbAcquire n else s
  let s := s.each ws fun s c => s.originZero c.1
  let s := if ws.any fun c => inDescriptor c.1 then s.stagesDrop else s
  let s := if full then s.routerRestart else s
  let s := s.each gens.zipIdx fun s g => s.genWritten g.2 g.1
  let s := s.each (List.range 16) fun s p => if (s.port p).st = .disabled then s.tdmDisabled p else s
  s.each ws fun s c => s.landedAt c.1

/-- S is resolved and the listed engines are armed; with no entries the start is done at once (R47 to R49, R68). -/
def State.loadStart (s : State) (entries : List StartEntry) (startAt : Nat) : State :=
  let n := startAt % 2 ^ 48
  let s := (s.setReg (imageReg 0x030) (BitVec.ofNat 32 (n % 2 ^ 32))).setReg (imageReg 0x034) (BitVec.ofNat 32 (n / 2 ^ 32))
  let s := s.setLoader { s.loader with st := .starting, startAt := n, entries := entries }
  let s := s.each (entries.filter fun x => x.unit == 0) fun s x => s.engArm x.inst (.atTb0 (n + x.offset))
  if entries = [] then (s.setLoader { s.loader with st := .idle }).raise 0x07 3 else s

/-- The first TB0 tick after now. -/
def State.firstTick (s : State) : Nat := s.tickCount.toNat + 1

/-- The START_LIST of the image that has been applied directs its start (R47, R49). -/
def State.loadDirect (s : State) : State :=
  let w := startHead s.loader.staged
  let es := imgEntries s.loader.staged
  match fld (w 0) 31 30 with
  | 1 =>
    let n := fld (w 2) 15 0 * 2 ^ 32 + (w 1).toNat
    if n ≤ s.firstTick then (s.raise 0x07 4).loadStart es s.firstTick else s.loadStart es n
  | 2 => s.setLoader { s.loader with st := .hold, entries := es }
  | _ => s.loadStart es (s.firstTick + fld (w 0) 15 0)

/-- APPLY_END: the sections land, the units follow, the loader reports and goes on to STARTING or HOLD (R57, R58, R66, R68, R472). The START_LIST that
RESTART runs is that of the last full image (DESIGN CHOICE: R62 does not say whether a partial image replaces it; log entry 75). -/
def State.loadDone (s : State) : State :=
  let l := s.loader.staged
  let full := s.loader.full
  let s := s.stageBanks
  let s := if full && bit (imgWord l 3) 1 then s.clearData else s
  let gens := (List.range 8).map s.genA
  let s := s.each ((applySections l).filter fun c => c.type != 1 && c.type != 3 && c.type != 22) (State.landSection false)
  let s := s.applyUnits gens
  let s := s.each ((imgSects l).filter fun c => c.type == 22 && !c.payload.isEmpty) fun s c => s.applySealed c (imgWord l (imgLength l / 4 - 1))
  let s := (s.raise 0x07 1).setReg (imageReg 0x038) (s.reg (imageReg 0x038) + 1)
  let s := (s.setReg (imageReg 0x024) (imgWord l (imgLength l / 4 - 1))).setReg (imageReg 0x028) (imgWord l 6)
  let s := s.setReg (imageReg 0x02C) (imgWord l 7)
  let s := s.setCore { s.core with imageStands := true, phase := if full then .running else s.core.phase }
  let s := if full then s.raise 0x06 2 else s
  let s := if full then s.setLoader { s.loader with previous := some (imgEntries l) } else s
  let s := s.loadDirect
  let s := ((s.domainsFollow).evlResume).loadReply false
  if s.core.resetPending then s.coreReset else s

/-! ## Commands of the loader -/

/-- A value written to IMAGE.CMD (R67). A reserved value has no effect (R7). -/
def State.imageCommand (s : State) (w : Word) : State :=
  match fld w 3 0 with
  | 1 => s.loadBegin true .host
  | 2 => s.loadBegin false .host
  | 3 => s.loadAbort
  | 4 => if s.loader.st = .failed then s.loadStart (s.loader.previous.getD []) s.firstTick else s
  | 5 => if s.loader.st = .hold then s.loadStart s.loader.entries s.firstTick else s
  | _ => s

/-- A host write of `cmd` to IMAGE.CMD; with SW19 off it faults (R11). -/
def State.hostImage (s : State) (cmd : Word) : State :=
  if s.unitOn 19 then s.imageCommand cmd else s.hostFault 0x02 (imageReg 0x010)

/-- A word written to LOAD_WINDOW (R53). During a flash or mailbox load it is no word of that image, and is discarded with WINDOW_DISCARD (DESIGN
CHOICE: R51 gives the window to the host path alone and R53 does not name the others; log entry 75). -/
def State.windowWrite (s : State) (w : Word) : State :=
  if s.loader.st = .receiving ∧ s.loader.path = .host then s.loadWord w else s.raise 0x07 6

/-- BEGIN_FULL (R59). -/
def execBeginFull (t : Nat) (s : State) : Host.Outcome State Fault Refusal :=
  .next ((s.upTo t).hostActs (.beginFull t) fun s => s.hostImage 1)

/-- BEGIN_PARTIAL (R68). -/
def execBeginPartial (t : Nat) (s : State) : Host.Outcome State Fault Refusal :=
  .next ((s.upTo t).hostActs (.beginPartial t) fun s => s.hostImage 2)

/-- ABORT (R67). -/
def execAbort (t : Nat) (s : State) : Host.Outcome State Fault Refusal := .next ((s.upTo t).hostActs (.abort t) fun s => s.hostImage 3)

/-- RESTART (R62). -/
def execRestart (t : Nat) (s : State) : Host.Outcome State Fault Refusal := .next ((s.upTo t).hostActs (.restart t) fun s => s.hostImage 4)

/-- IMAGE_START: START to IMAGE.CMD (R49). -/
def execImageStart (t : Nat) (s : State) : Host.Outcome State Fault Refusal :=
  .next ((s.upTo t).hostActs (.imageStart t) fun s => s.hostImage 5)

/-- STOPPING_END: every fade has completed, or 10 ms have passed (R59). -/
def execStoppingEnd (timeout : Bool) (t : Nat) (s : State) : Host.Outcome State Fault Refusal :=
  let s := s.upTo t
  .next (if s.loader.st = .stopping ∧ (timeout ∨ s.allStopped) then s.loadReceive else s)

/-- LOAD_WINDOW_WRITE (R53); with SW19 off it faults (R11). -/
def execLoadWindowWrite (w : Word) (t : Nat) (s : State) : Host.Outcome State Fault Refusal :=
  let s := s.upTo t
  .next (s.hostActs (.loadWindowWrite w t) fun s =>
    if s.unitOn 19 then s.windowWrite w else s.hostFault 0x02 (imageReg 0x100))

/-- RECEIVE_TIMEOUT: one second with no word (R68). -/
def execReceiveTimeout (t : Nat) (s : State) : Host.Outcome State Fault Refusal :=
  let s := s.upTo t
  .next (if s.loader.st = .receiving then s.loadFail (plainErr 0x17) 0 else s)

/-- VERIFICATION_END: the checks of R54 are done (R54, R68). -/
def execVerificationEnd (t : Nat) (s : State) : Host.Outcome State Fault Refusal :=
  let s := s.upTo t
  .next (if s.loader.st = .verifying ∧ s.clkRuns .fclk then
      match s.verifyError s.loader.full s.loader.staged with
      | some e => s.loadFail e 5
      | none => s.loadApply
    else s)

/-- The unit of entry `i` of the START_LIST has started, or starts now: its place is ticked off, and the last one ends STARTING (R48, R68). An engine
starts at its own tick; any other unit starts here, not before TB0 tick S + OFFSET. -/
def State.startUnit (s : State) (i : Nat) (x : StartEntry) : State :=
  let s := match x.unit with
    | 0 => s
    | 1 => s.tdmEnable x.inst
    | 2 => s.rxEnable x.inst
    | 3 => s.txEnable x.inst
    | 4 => s.coreDoes ⟨[], [], none, [], [x.inst]⟩
    | _ => s.setReg (blk 0x06 0x01C) 1
  let es := s.loader.entries.set i { x with started := true }
  if es.all (·.started) then (s.setLoader { s.loader with entries := es, st := .idle }).raise 0x07 3
  else s.setLoader { s.loader with entries := es }

/-- UNIT_START (R48). -/
def execUnitStart (i : Nat) (t : Nat) (s : State) : Host.Outcome State Fault Refusal :=
  let s := s.upTo t
  .next (match s.loader.entries[i]? with
    | some x =>
      let due := if x.unit = 0 then (s.eng x.inst).st != .armed else decide (s.loader.startAt + x.offset ≤ s.tickCount.toNat)
      if s.loader.st == .starting && !x.started && due then s.startUnit i x else s
    | none => s)

end Sys2Proof.Machine
end

