-- ==== Sys2Proof/Machine/CoreCmd.lean ====
section
/-!
DEFINITION. The mailbox of the control core: the doorbell and the commands it handles (R482 to R485, R493).
-/

namespace Sys2Proof.Machine

/-- A write of CMD_HEAD: the doorbell (R483). -/
def State.ring (s : State) (w : Word) : State :=
  if 64 < ringUsed (fld w 6 0) (s.mail 1) then s.raise 0x06 7 else s.setReg (mailReg 0) (w &&& 0x7F)

/-- A write of RSP_TAIL frees slots for the responses that wait (R483). -/
def State.freeReplies (s : State) (w : Word) : State := (s.setReg (mailReg 3) (w &&& 0x7F)).drainReplies

/-- DOORBELL (R483). -/
def execDoorbell (w : Word) (t : Nat) (s : State) : Host.Outcome State Fault Refusal :=
  .next ((s.upTo t).hostActs (.doorbell w t) fun s => s.ring w)

/-- A command is still to be answered: commands are handled one at a time (R483). -/
def State.mailBusy (s : State) : Bool :=
  s.core.replies != [] || s.core.autoWait.any (fun a => a.reply.isSome) || (match s.loader.path with | .mailbox _ _ => true | _ => false)

/-- The opcode of the command that the core may read now; none while no command waits, one is unanswered, or no slot is free for a
response (R483, R484). -/
def State.mailOp (s : State) : Option Nat :=
  if s.coreRuns && !s.mailBusy && !s.ringFull && s.mail 0 != s.mail 1 then some (fld (s.slotWord 0) 31 24) else none

/-- PING (R484). -/
def execPing (t : Nat) (s : State) : Host.Outcome State Fault Refusal :=
  let s := s.upTo t
  .next (if s.mailOp = some 0x01 then s.takeSlot.post [replyHead (s.slotWord 0) 0x00, s.reg (blk 0x06 0x014)] else s)

/-- The bounds of the permitted spaces around a byte address: an X memory, the bulk area, or the Set memories and the Delay Store, which
adjoin (R484, R485). -/
def sourceSpace (a : Nat) : Option (Nat × Nat) :=
  match regionOf a with
  | some (.xmem e) => some (engBase e + 0x8000, engBase e + 0x10000)
  | some (.setMem _) | some .store => some (0x1000000, 0x3000000)
  | some .mailbox => if 0x301000 ≤ a then some (0x301000, 0x302000) else none
  | _ => none

/-- The image at `a` lies wholly in the permitted spaces, and a full one clear of Delay Store banks 8 to 15 (R485). An image is at
least its header. -/
def State.sourceOk (s : State) (full : Bool) (a : Nat) : Bool :=
  let n := max 64 (match s.sourceWords a 5 with | some h => imgLength h | none => 0)
  match sourceSpace a with
  | some (_, hi) => a + n ≤ hi && !(full && a < 0x3000000 && 0x2800000 < a + n)
  | none => false

/-- IMAGE_LOAD: the response follows the end of the load (R484, R485). -/
def execImageLoad (t : Nat) (s : State) : Host.Outcome State Fault Refusal :=
  let s := s.upTo t
  .next (if s.mailOp = some 0x02 then
      let w := s.slotWord 0
      let a := wordOf (s.slotWord 1).toNat
      let full := !(bit (s.slotWord 2) 0)
      let s := s.takeSlot
      if !(s.sourceOk full a) then s.post [replyHead w 0x02]
      else if s.loadFree then s.loadBegin full (.mailbox w a)
      else
        let s := s.loadError (plainErr 0x16)
        s.post [replyHead w 0x03, s.reg (imageReg 0x018), BitVec.ofNat 32 s.loader.st.code]
    else s)

/-- SET_CONTROL: the response follows the last write and commit (R484, R493). -/
def execSetControl (t : Nat) (s : State) : Host.Outcome State Fault Refusal :=
  let s := s.upTo t
  .next (if s.mailOp = some 0x03 then
      s.takeSlot.setControl (fld (s.slotWord 1) 15 0) (fld (s.slotWord 2) 13 0) (some [replyHead (s.slotWord 0) 0x00])
    else s)

/-- EVENT_FIRE: the entry's action acts at once; while an image is being applied the core fires nothing (R29, R63, R484). -/
def execEventFire (t : Nat) (s : State) : Host.Outcome State Fault Refusal :=
  let s := s.upTo t
  .next (if s.mailOp = some 0x04 ∧ s.loader.st ≠ .applying then
      let i := fld (s.slotWord 1) 9 0
      let w := s.slotWord 0
      let s := s.takeSlot.parity 0x06 ((List.range 4).map (evlAddr i))
      if s.evlValid i then (s.evlAct i).post [replyHead w 0x00] else s.post [replyHead w 0x02]
    else s)

/-- BAD_OPCODE_COMMAND: a reserved opcode is answered with BAD_OPCODE (R484). -/
def execBadOpcodeCommand (t : Nat) (s : State) : Host.Outcome State Fault Refusal :=
  let s := s.upTo t
  .next (match s.mailOp with
    | some op => if op = 0 ∨ 4 < op then s.takeSlot.post [replyHead (s.slotWord 0) 0x01] else s
    | none => s)

end Sys2Proof.Machine
end

