-- ==== Sys2Proof/Machine/Views.lean ====
section
/-!
DEFINITION. What a read of a control block returns: the stored word of a register, or the view that the block computes from its
unit for a register that shows the unit's state.
-/

namespace Sys2Proof.Machine

/-- A number as a word. -/
def word (n : Nat) : Word := BitVec.ofNat 32 n

/-- The value of bit `i` as a flag shows it. -/
def flag (b : Bool) (i : Nat) : Nat := if b then 2 ^ i else 0

/-- The number whose bits below `n` are those at which `p` holds. -/
def bitsWhere (n : Nat) (p : Nat → Bool) : Nat := (List.range n).foldl (fun v i => v + flag (p i) i) 0

/-- A quantity that is not negative, as a register of whole units shows it: one that falls between two units is open. -/
def shown (q : Rat) : Nat := if q.den = 1 then q.num.toNat else q.floor.toNat + (if Config.roundUp q then 1 else 0)

/-! ## Engines and Sets (R101, R104, R152) -/

/-- The code of an engine state (R101). -/
def EngState.code : EngState → Nat
  | .off => 0
  | .stopped => 1
  | .armed => 2
  | .running => 3
  | .faulted => 4

/-- ENGINE.STATE (R101). -/
def State.viewEngState (s : State) (e : Nat) : Word :=
  let x := s.eng e
  word (flag x.reload 13 + flag (s.laneBusy (.engine (Fin.ofNat 32 e))) 12 + flag x.stopping 11 + flag (x.gain != 1) 10
    + flag (x.st == .running && s.holding (s.engTb e)) 9 + flag x.inRound 8 + (if x.inRound then x.ridx * 16 else 0) + x.st.code)

/-- PTRn_VIEW (R152). -/
def State.viewPtr (s : State) (e n : Nat) : Word :=
  let x := s.eng e
  let o := if x.st = .running then look 0 x.ptrView n else look 0 x.ptrOff n
  word (flag (s.ptrPending e n) 31 + o.toNat)

/-- REMAIN of glide slot `n`: the ticks of its running ramp still to come after the present one (R222, R224). -/
def Engine.remain (x : Engine) (n : Nat) : Nat :=
  match x.slotRamp n with
  | some r => r.len - 1 - r.j
  | none => 0

/-- A register of ENGINE block `e` (R99, R222). -/
def State.viewEngine (s : State) (e o : Nat) : Word :=
  let x := s.eng e
  if o = 0x01C then s.viewEngState e
  else if 0x060 ≤ o ∧ o < 0x0A0 then look 0 x.inp ((o - 0x060) / 4)
  else if 0x0A0 ≤ o ∧ o < 0x0E0 then look 0 x.pub ((o - 0x0A0) / 4)
  else if 0x100 ≤ o ∧ o < 0x180 ∧ o % 16 = 12 then s.viewPtr e ((o - 0x100) / 16)
  else if 0x400 ≤ o ∧ o < 0x600 ∧ o % 8 = 4 then s.reg (engReg e o) ||| word (x.remain ((o - 0x400) / 8) * 2 ^ 16)
  else s.reg (engReg e o)

/-- A register of SET block `k` (R104). -/
def State.viewSet (s : State) (k o : Nat) : Word :=
  let is := fun (st : EngState) w => (s.eng (4 * k + w)).st == st
  if o = 0x018 then word (bitsWhere 4 (is .running) + 16 * bitsWhere 4 (is .faulted)) else s.reg (blk (0x60 + k) o)

/-! ## Stage entries and commits (R200, R202, R226) -/

/-- The code of a stage entry's state (R202). -/
def StageState.code : StageState → Nat
  | .idle => 0
  | .checking => 1
  | .ready => 2
  | .refused => 3

/-- The code of a group's state (R219). -/
def GroupState.code : GroupState → Nat
  | .idle => 0
  | .pending => 1
  | .scheduled => 2
  | .deferred => 3

/-- A register of the STORE block (R200). -/
def State.viewStore (s : State) (o : Nat) : Word :=
  if o = 0x010 then word (bitsWhere 16 fun n => (s.stage n).st == .ready)
  else if 0xD00 ≤ o ∧ o < 0xE00 ∧ o % 16 = 12 then
    let x := s.stage ((o - 0xD00) / 16)
    word (x.cause.toNat * 2 ^ 12 + x.st.code * 2 ^ 8)
  else s.reg (blk 0x38 o)

/-- A register of the COMMIT block (R226). -/
def State.viewCommit (s : State) (o : Nat) : Word :=
  let lane := fun e => LaneName.engine (Fin.ofNat 32 e)
  if o = 0x01C then word (bitsWhere 32 fun n => (s.grp n).st != .idle)
  else if o = 0x024 then word (bitsWhere 32 fun e => s.laneBusy (lane e))
  else if o = 0x028 then word (bitsWhere 32 fun e => (s.lane (lane e)).dirty != [])
  else if o = 0x02C then word (flag (s.laneBusy .router) 0 + flag ((s.lane .router).dirty != []) 1)
  else if 0x100 ≤ o ∧ o < 0x500 ∧ o % 32 = 12 then word (s.grp ((o - 0x100) / 32)).st.code
  else s.reg (blk 0x0A o)

/-! ## Router (R262 to R266) -/

/-- A register of the ROUTER block (R262). CAPACITY shows R236's figure for TB0's class from reset on (DESIGN CHOICE: its Reset column says
0x0000_0000, and R236 gives 262,144 for TB0's reset class; log entry 86). -/
def State.viewRouter (s : State) (o : Nat) : Word :=
  if o = 0x010 then word s.activeXpts.length
  else if o = 0x014 then word (min 262144 (32 * (s.nominal 0 - 64)))
  else s.reg (blk 0x30 o)

/-- A register of the ROUTER_SNK block (R266). -/
def State.viewSink (s : State) (o : Nat) : Word :=
  if o = 0x010 then word (bitsWhere 16 fun n => (s.zcWait n).patch || (s.zcWait n).mute.isSome) else s.reg (blk 0x32 o)

/-! ## Ports (R290 to R292, R313, R314) -/

/-- The code of a port's or a transmitter's state (R278, R308). -/
def PortState.code : PortState → Nat
  | .disabled => 0
  | .starting => 1
  | .running => 2
  | .hold => 3
  | .stopping => 4
  | .faulted => 5

/-- The code of a receiver's state (R296). -/
def RxState.code : RxState → Nat
  | .disabled => 0
  | .searching => 1
  | .running => 2
  | .hold => 3
  | .faulted => 5

/-- A register of TDM port `p` (R290, R292). -/
def State.viewTdm (s : State) (p o : Nat) : Word :=
  let x := s.port p
  if o = 0x024 then x.rxLive
  else if o = 0x028 then x.txLive
  else if o = 0x030 then
    word (x.txFifo.length * 2 ^ 20 + x.rxs.fifo.length * 2 ^ 16 + flag (s.tdmSilenced p) 9 + flag (s.tdmAligned p) 8
      + flag (x.txOver || x.rxs.overrun) 7 + flag (x.txUnder || x.rxs.under || (x.st == .running && (s.cross (80 + p)).active)) 6
      + flag (x.seq.isSome || x.next.isSome) 5 + x.st.code)
  else if o = 0x050 then word x.stamps.length
  else s.reg (tdmReg p o)

/-- A register of receiver `n` (R313). -/
def State.viewRx (s : State) (n o : Nat) : Word :=
  let x := s.rx n
  if o = 0x01C then
    word (x.rxs.fifo.length * 2 ^ 16 + flag x.b.pro 7 + flag x.a.pro 6 + flag x.b.nonpcm 5 + flag x.a.nonpcm 4
      + flag (s.rxAligned n) 3 + x.st.code)
  else s.reg (rxReg n o)

/-- A register of transmitter `n` (R314). -/
def State.viewTx (s : State) (n o : Nat) : Word :=
  if o = 0x024 then word (flag (s.host.st != .normal) 5 + flag (s.tx n).swapAt.isSome 4 + (s.tx n).st.code)
  else s.reg (txReg n o)

/-! ## Clocks and time (R344 to R349) -/

/-- The code of a DCO state (R323). -/
def DcoState.code : DcoState → Nat
  | .off => 0
  | .settling => 1
  | .comparing => 2
  | .locked => 3
  | .holdover => 4

/-- The code of a timebase state (R338). -/
def TbState.code : TbState → Nat
  | .off => 0
  | .acquire => 1
  | .tracking => 2
  | .flywheel => 3
  | .hold => 4

/-- A register of the CLK block (R344 to R346). While a switch is in progress SRC and DIV read as they were last written (R5, R345). -/
def State.viewClk (s : State) (o : Nat) : Word :=
  let c := s.clocks
  let w := s.reg (blk 0x02 o)
  if o = 0x014 then
    word (c.dco.code * 2 ^ 8 + flag c.discClamp 4 + flag c.discLocked 3 + flag c.xclkOk 2 + flag (c.dco == .holdover) 1
      + flag (c.dco == .locked) 0)
  else match clockAt (blk 0x02 o) with
    | some k => match s.switching k with | some x => setBit x 16 true | none => w
    | none =>
      if 0x040 ≤ o ∧ o ≤ 0x078 then
        let n := (o - 0x040) / 4
        setBit w 4 (!(s.gateRuns n) && !(s.gateShut n) && !(s.gateRests n))
      else w

/-- P in TBn_PERIOD's 25 bits; one too wide for them is open (R347; log entry 12). -/
def periodBits (n : Nat) : Nat := if n < 2 ^ 25 then n else Config.wideField 25 n % 2 ^ 25

/-- A register of the TIME block (R347 to R349). -/
def State.viewTime (s : State) (o : Nat) : Word :=
  let x := s.tb ((o - 0x040) / 32)
  if o = 0x010 then word s.sysCount
  else if o = 0x014 then word (s.sysCount / 2 ^ 32)
  else if 0x040 ≤ o ∧ o < 0x0C0 ∧ o % 32 = 8 then word (x.fly * 2 ^ 8 + flag x.mismatch 3 + x.st.code)
  else if 0x040 ≤ o ∧ o < 0x0C0 ∧ o % 32 = 12 then word (periodBits (shown (x.period * 256)))
  else s.reg (blk 0x03 o)

/-! ## Identity, host port and interrupts (R384 to R389) -/

/-- SYS.SILENCE: T in milliseconds (R376). -/
def State.silenceMs (s : State) : Nat := fld (s.reg (blk 0x00 0x028)) 15 0

/-- The silence timer runs (R376): with T not 0, in NORMAL, and not while the module masters the bus or waits in a queued boot. -/
def State.silenceRuns (s : State) : Bool := s.silenceMs != 0 && s.host.st == .normal && !s.silenceStops

/-- Milliseconds that the silence timer has counted since it last restarted: its cycles by CLK.XCLK_FREQ (R376). -/
def State.silentFor (s : State) : Rat := s.silent * 1000 / s.xclkHz

/-- The code of a failover state (R384). -/
def SysState.code : SysState → Nat
  | .normal => 0
  | .quarantine => 1
  | .superseded => 2

/-- A register of the SYS block (R384). -/
def State.viewSys (s : State) (o : Nat) : Word :=
  let p := s.straps
  if o = 0x014 then s.uid.extractLsb' 0 32
  else if o = 0x018 then s.uid.extractLsb' 32 32
  else if o = 0x01C then word (p.devnum.toNat * 2 ^ 16 + s.host.active.toNat)
  else if o = 0x020 then word s.host.gen.toNat
  else if o = 0x024 then word s.host.st.code
  else if o = 0x02C then
    if s.silenceRuns then word (min 0xFFFF (shown (max 0 (s.silenceMs - s.silentFor)))) else 0
  else if o = 0x03C then
    word (flag p.testen 18 + flag p.iovB 17 + flag p.iovA 16 + p.xsettle.toNat * 2 ^ 12 + p.hmode.toNat * 2 ^ 10 + p.boot.toNat * 2 ^ 8
      + p.devnum.toNat)
  else s.reg (blk 0x00 o)

/-- A register of the HOST block (R385). -/
def State.viewHost (s : State) (o : Nat) : Word :=
  if o = 0x044 then word s.host.posted.length
  else if o = 0x058 then word (flag (s.core.phase == .queued) 16 + min s.host.edges 63)
  else s.reg (blk 0x04 o)

/-- Block `b` requests an interrupt; one whose domain is off does not (R10, R26). -/
def State.requests (s : State) (b : Nat) : Bool :=
  (blockKind b).isSome && (blockDomain b == 0 || s.domain (blockDomain b)) && s.reg (blk b 4) &&& s.reg (blk b 8) != 0

/-- Block `b` has PEND AND ENABLE set (R389). -/
def State.irqOf (s : State) (b : Nat) : Bool := s.requests b && bit (s.reg (blk 0x05 (0x040 + 4 * (b / 32)))) (b % 32)

/-- Some bit of PEND AND ENABLE is 1 (R389). -/
def State.irq (s : State) : Bool := (List.range 256).any s.irqOf

/-- A register of the IRQ block (R389). -/
def State.viewIrq (s : State) (o : Nat) : Word :=
  if o = 0x014 then word (bitsWhere 16 fun i => (List.range 16).any fun k => s.irqOf (16 * i + k))
  else if 0x020 ≤ o ∧ o < 0x040 then word (bitsWhere 32 fun i => s.requests ((o - 0x020) * 8 + i))
  else s.reg (blk 0x05 o)

/-- HIRQ_N is pulled low (R389). -/
def State.hirqLow (s : State) : Bool := bit (s.reg (blk 0x05 0x010)) 0 && s.host.st == .normal && s.irq

/-! ## Power, pins and the core (R466 to R469, R499 to R503, R512) -/

/-- The code of a power mode (R468). -/
def PowerMode.code : PowerMode → Nat
  | .run => 0
  | .sleep => 1
  | .deepSleep => 2

/-- A register of the PWR block (R466 to R469). -/
def State.viewPwr (s : State) (o : Nat) : Word :=
  let p := s.power
  let aux := fun (a : Aux) => flag a.fault 2 + flag a.on 1 + flag a.good 0
  if o = 0x014 then word (flag p.therm 16 + p.wakeCause.toNat * 2 ^ 8 + flag p.target.isSome 4 + p.mode.code)
  else if o = 0x020 then word (1 + bitsWhere 21 s.domain)
  else if o = 0x02C then word (aux p.aux33 * 2 ^ 8 + aux p.aux5)
  else s.reg (blk 0x01 o)

/-- What GPIO pin `i` drives: a GENERAL output OUT, a TICK_OUT its own level, and any other nothing (R495, R496). -/
def State.pinDrives (s : State) (i : Nat) : Option Bool :=
  let func := fld (s.gpioFunc i) 2 0
  if func = 0 ∧ bit (s.reg (blk 0x0B 0x010)) i then some (bit (s.reg (blk 0x0B 0x014)) i)
  else if func = 2 then some (s.gpio.tickOut.getLsbD i)
  else none

/-- What the module would drive at land `i`, numbered as in the boundary register: a frame in transit shows a level that the model leaves free; an
open-drain output drives low or nothing (R276, R308, R379, R389). -/
def State.outputDrives (s : State) (i : Nat) : Option Bool :=
  if i < 16 then s.pinDrives i
  else if i < 32 then
    let x := s.port (i - 16)
    if x.rest.isNone && x.sdo.all (·.isNone) then none
    else if x.sdo.all fun v => v.all (· == 0) then some false
    else some (Config.sentLevel s.drawn i)
  else if i < 36 then (match (s.tx (i - 32)).sent with | none => some false | some _ => some (Config.sentLevel s.drawn i))
  else if i = 36 then (if s.hirqLow then some false else none)
  else if s.host.mastering then some false else none

/-- What the module drives at land `i`: nothing without a supply, or under HIGHZ, and under EXTEST what was preloaded. PGOOD, land 38, is low without
a supply (R443, R447, R517, R530). -/
def State.landDrives (s : State) (i : Nat) : Option Bool :=
  if !s.power.vin && i < 38 then none
  else match s.tapInForce with
    | .highz => none
    | .extest => Config.preloaded s.tap.preload i
    | _ => if i < 38 then s.outputDrives i else if s.power.pgood then none else some false

/-- The level of GPIO pin `i`: what the module drives there, or what the board does (R495, R496, R517). -/
def State.pinLevel (s : State) (i : Nat) : Bool := (s.landDrives i).getD (s.gpio.level.getLsbD i)

/-- A register of the GPIO block (R499). -/
def State.viewGpio (s : State) (o : Nat) : Word :=
  if o = 0x018 then word (bitsWhere 16 s.pinLevel) else s.reg (blk 0x0B o)

/-- The code of a boot phase (R502). -/
def Phase.code : Phase → Nat
  | .settling => 0
  | .locking => 1
  | .romCheck => 2
  | .waitHost => 3
  | .flash => 4
  | .queued => 5
  | .loading => 6
  | .running => 7
  | .halted => 8
  | .asleep => 9

/-- A register of the CORE block (R501 to R503). -/
def State.viewCore (s : State) (o : Nat) : Word :=
  let c := s.core
  if o = 0x010 then word (flag (allClocks.all fun k => !(s.onXclk k)) 16 + c.cause.toNat * 2 ^ 8 + c.phase.code)
  else if o = 0x01C then setBit (s.reg (blk 0x06 o)) 8 c.paused
  else if o = 0x034 then s.crossPending
  else s.reg (blk 0x06 o)

/-- Some control of the PERTURB block is not zero (R512). -/
def State.perturbActive (s : State) : Bool := s.regs.any fun c => blk 0xF0 0x018 ≤ c.1 && c.1 < blk 0xF0 0x10C

/-- A register of the PERTURB block (R505, R512). -/
def State.viewPerturb (s : State) (o : Nat) : Word :=
  if o = 0x014 then word (flag s.perturbActive 2 + flag s.straps.testen 1 + flag s.perturbOpen 0)
  else if isControl o && !s.perturbOpen then 0
  else s.reg (blk 0xF0 o)

/-! ## DMA (R408, R409) -/

/-- The code of a channel's state (R405). -/
def ChanState.code : ChanState → Nat
  | .stopped => 0
  | .running => 1
  | .waiting => 2
  | .stopping => 3

/-- A register of the DMA block (R408). -/
def State.viewDma (s : State) (o : Nat) : Word :=
  if o = 0x014 then
    word (flag s.dma.halted 31 + s.dmaInFlight * 2 ^ 16 + bitsWhere 16 fun c => (s.chan c).st != .stopped)
  else s.reg (blk 0x08 o)

/-- A register of the DMA_CH block (R409). -/
def State.viewDmaCh (s : State) (o : Nat) : Word :=
  let x := s.chan ((o - 0x100) / 32)
  if 0x100 ≤ o ∧ o < 0x300 then
    if o % 32 = 12 then word (x.cause.toNat * 2 ^ 28 + x.st.code * 2 ^ 24 + x.index)
    else if o % 32 = 16 then word x.remain
    else if o % 32 = 20 then x.descs
    else s.reg (blk 0x09 o)
  else s.reg (blk 0x09 o)

/-! ## Sealed Meter (R437 to R441) -/

/-- The code of a seal state (R423). -/
def SealState.code : SealState → Nat
  | .never => 0
  | .unsealed => 1
  | .sealed => 2
  | .permanent => 3

/-- A register of the METER block (R437, R438). -/
def State.viewMeter (s : State) (o : Nat) : Word :=
  let m := s.meter
  if o = 0x014 then
    word (flag s.meterOkPin 11 + flag m.exhausted 10 + flag m.sealN 9 + flag m.disagree 8 + flag m.degraded 7 + flag (s.class1 1) 6
      + flag (s.class1 0) 5 + flag (s.chanValid 1) 4 + flag (s.chanValid 0) 3 + m.sealSt.code)
  else if o = 0x018 then s.sealCheck
  else if o = 0x01C then word (m.records.length * 2 ^ 16 + (match m.live with | some (n, _) => n | none => 0))
  else if o = 0x080 ∨ o = 0x084 then
    let g := s.guardOf ((o - 0x080) / 4)
    word (flag g.failsafe 31 + shown (-100 * g.gain))
  else s.reg (blk 0x80 o)

/-- LOG_INDEX (R441). -/
def State.logIndex (s : State) : Nat := fld (s.reg (blk 0x81 0x018)) 7 0

/-- A register of the METER_LOG block (R441). -/
def State.viewLog (s : State) (o : Nat) : Word :=
  if o = 0x010 then word s.auditNow
  else if o = 0x014 then word s.meter.log.length
  else if 0x020 ≤ o ∧ o < 0x040 then (look [] s.meter.log s.logIndex).getD ((o - 0x020) / 4) 0
  else s.reg (blk 0x81 o)

/-! ## Every block -/

/-- What the register at byte address `a` of the control blocks shows now, before the effect that a read of it may have. -/
def State.view (s : State) (a : Nat) : Word :=
  let b := a / 0x1000
  let o := a % 0x1000
  if b = 0x00 then s.viewSys o
  else if b = 0x01 then s.viewPwr o
  else if b = 0x02 then s.viewClk o
  else if b = 0x03 then s.viewTime o
  else if b = 0x04 then s.viewHost o
  else if b = 0x05 then s.viewIrq o
  else if b = 0x06 then s.viewCore o
  else if b = 0x07 then (if o = 0x014 then word s.loader.st.code else s.reg a)
  else if b = 0x08 then s.viewDma o
  else if b = 0x09 then s.viewDmaCh o
  else if b = 0x0A then s.viewCommit o
  else if b = 0x0B then s.viewGpio o
  else if 0x10 ≤ b ∧ b < 0x20 then s.viewTdm (b - 0x10) o
  else if 0x20 ≤ b ∧ b < 0x24 then s.viewRx (b - 0x20) o
  else if 0x24 ≤ b ∧ b < 0x28 then s.viewTx (b - 0x24) o
  else if b = 0x30 then s.viewRouter o
  else if b = 0x32 then s.viewSink o
  else if b = 0x38 then s.viewStore o
  else if 0x40 ≤ b ∧ b < 0x60 then s.viewEngine (b - 0x40) o
  else if 0x60 ≤ b ∧ b < 0x68 then s.viewSet (b - 0x60) o
  else if b = 0x80 then s.viewMeter o
  else if b = 0x81 then s.viewLog o
  else if b = 0xF0 then s.viewPerturb o
  else s.reg a

end Sys2Proof.Machine
end

