-- ==== Sys2Proof/Machine/Bus.lean ====
section
/-!
DEFINITION. Reads and writes on the address map, and what each does where it lands (R5 to R7, R11, R20 to R22, R30 to R35).
Whether a host write may reach an address at all is judged by its frame (Sys2Proof/Machine/Host.lean).
-/

namespace Sys2Proof.Machine

/-! ## Reach -/

/-- An access reaches the address: its domain is on, its clock runs, and a memory that was lost has been cleared (R10, R11, R330,
R452). -/
def State.reaches (s : State) (r : Region) (a : Nat) : Bool :=
  (regionDomain r a == 0 || s.unitOn (regionDomain r a))
    && (match r with | .setMem _ | .store => !(s.memOff a) | _ => true)

/-- A host access completes with FAULT; an access of the core has no status (R11, R21). -/
def State.accessFault (s : State) (by_ : Requester) (cause a : Nat) : State :=
  match by_ with
  | .host => s.hostFault cause a
  | .core => s

/-! ## Quantities wider than a word (R32, R34) -/

/-- The number of words above its lowest that a latching read at `a` captures; none where `a` is no latching word (R32). -/
def latchCount (a : Nat) : Nat :=
  let b := a / 0x1000
  let o := a % 0x1000
  if b = 0x00 ∧ o = 0x014 then 1
  else if b = 0x03 ∧ (o = 0x010 ∨ o = 0x018) then 1
  else if b = 0x07 ∧ o = 0x030 then 1
  else if b = 0x0A ∧ (o = 0x014 ∨ o = 0x038 ∨ (0x100 ≤ o ∧ o < 0x500 ∧ o % 32 = 16)) then 1
  else if b = 0x0B ∧ 0x080 ≤ o ∧ o < 0x100 ∧ o % 8 = 0 then 1
  else if 0x10 ≤ b ∧ b < 0x20 ∧ o = 0x058 then 2
  else if 0x40 ≤ b ∧ b < 0x60 ∧ o = 0x020 then 1
  else if 0x20 ≤ b ∧ b < 0x24 ∧ (o = 0x050 ∨ o = 0x090) then 12
  else if b = 0x80 ∧ (o = 0x040 ∨ o = 0x060) then 4
  else if b = 0x81 ∧ o = 0x020 then 7
  else 0

/-- The address is a higher word of a quantity that a latching read captures (R32). -/
def isLatched (a : Nat) : Bool := (List.range 12).any fun k => 4 * (k + 1) ≤ a && k < latchCount (a - 4 * (k + 1))

/-- The highest word of a quantity that is written whole: its lower word is the one before (R34). -/
def isWideHigh (a : Nat) : Bool :=
  a == blk 0x0A 0x018 || a == blk 0x03 0x01C || (0x40 ≤ a / 0x1000 && a / 0x1000 < 0x60 && a % 0x1000 == 0x024)

/-- A write of one word of a quantity that is written whole: a lower word is held, and the highest takes all of it into effect
(R34). -/
def State.writeWide (s : State) (a : Nat) (w : Word) : State :=
  if isWideHigh a then
    let s := match look none s.writeLatch (a - 4) with
      | some v => s.writeFields (a - 4) (rowAt (a - 4)).rw v
      | none => s
    let s := { s with writeLatch := put none s.writeLatch (a - 4) none }
    s.writeFields a (rowAt a).rw w
  else { s with writeLatch := put none s.writeLatch a (some w) }

/-! ## Raw transfers (R381) -/

/-- START to RAW_CTRL: ignored while a transfer waits or runs; RAW_LEN 0 completes at once, and any other transfer waits for the bus
(R379, R381, R385). -/
def State.rawAsk (s : State) : State :=
  let a := blk 0x04 0x054
  if s.host.rawWaiting || bit (s.reg a) 0 then s
  else if fld (s.reg (blk 0x04 0x04C)) 15 0 = 0 then (s.setReg a 0xA).raise 0x04 3
  else ({ s with host := { s.host with rawWaiting := true } }).setReg a 1

/-! ## Writes of registers -/

/-- A write of EVENT: the bits written 1 clear, but for STAMP of a port that still holds entries (R5, R286). -/
def State.clearEvents (s : State) (a : Nat) (w : Word) : State :=
  let b := a / 0x1000
  let keep := 0x10 ≤ b && b < 0x20 && (s.port (b - 0x10)).stamps != []
  let w := if keep then setBit w 9 false else w
  s.clearW1c a w

/-- A write to the METER block (R425, R434). -/
def State.writeMeter (s : State) (a : Nat) (w : Word) : State :=
  let o := a % 0x1000
  if o = 0x024 then
    let ok := Config.burnReads s.drawn
    let s' := { s with drawn := s.drawn + 1 }
    match fld w 3 0 with
    | 1 => s'.doSeal ok
    | 2 => s'.doUnseal ok
    | _ => s
  else if s.isSealed && o != 0x008 && o != 0x020 then s.meterReject a w
  else s.writeFields a (rowAt a).rw w

/-- A write to the PERTURB block (R504, R505). -/
def State.writePerturb (s : State) (a : Nat) (w : Word) : State :=
  let o := a % 0x1000
  if o = 0x010 then s.writeUnlock w
  else if isControl o then s.writeControl o w
  else (s.writeFields a (rowAt a).rw w).keyBreak

/-- A write to the PWR block (R448, R451, R454). -/
def State.writePwr (s : State) (a : Nat) (w : Word) : State :=
  let o := a % 0x1000
  if o = 0x010 then
    match fld w 1 0 with
    | 0 => s.writeMode .run
    | 1 => s.writeMode .sleep
    | 2 => s.writeMode .deepSleep
    | _ => s
  else if o = 0x01C then s.writeDomainEn w
  else if o = 0x028 then s.writeAux w
  else s.writeFields a (rowAt a).rw w

/-- A write to the CORE block (R483, R501). -/
def State.writeCore (s : State) (a : Nat) (w : Word) : State :=
  let o := a % 0x1000
  if o = 0x020 then s.ring w
  else if o = 0x02C then s.freeReplies w
  else if o = 0x030 then s.clearW1c a w
  else s.writeFields a (rowAt a).rw w

/-- A write to TDM port `p` (R278, R282). -/
def State.writeTdm (s : State) (p a : Nat) (w : Word) : State :=
  let o := a % 0x1000
  if o = 0x014 then (if bit w 0 then s.tdmEnable p else s.tdmDisable p)
  else if o = 0x01C then s.writeMask p .rx w
  else if o = 0x020 then s.writeMask p .tx w
  else s.writeFields a (rowAt a).rw w

/-- A write to receiver `n` (R296). -/
def State.writeRx (s : State) (n a : Nat) (w : Word) : State :=
  if a % 0x1000 = 0x014 then (if bit w 0 then s.rxEnable n else s.rxDisable n) else s.writeFields a (rowAt a).rw w

/-- A write to transmitter `n` (R308, R309). -/
def State.writeTx (s : State) (n a : Nat) (w : Word) : State :=
  let o := a % 0x1000
  if o = 0x014 then (if bit w 0 then s.txEnable n else s.txDisable n)
  else if o = 0x020 then (if bit w 0 then s.txArm n else s)
  else s.writeFields a (rowAt a).rw w

/-- A write to the ROUTER_SRC block (R243, R244). -/
def State.writeSource (s : State) (a : Nat) (w : Word) : State :=
  let o := a % 0x1000
  if 0x040 ≤ o ∧ o < 0x080 then
    let n := (o - 0x040) / 8
    if o % 8 = 0 then
      let old := s.genA n
      (s.writeFields a (rowAt a).rw w).genWritten n old
    else s.writeGenB n w
  else s.writeFields a (rowAt a).rw w

/-- A write to the STORE block (R193, R195). -/
def State.writeStore (s : State) (a : Nat) (w : Word) : State :=
  let o := a % 0x1000
  if 0xD00 ≤ o ∧ o < 0xE00 then
    let n := (o - 0xD00) / 16
    if o % 16 = 12 then s.stageCommand n (fld w 1 0) else s.writeStage n (o % 16 / 4) w
  else s.writeFields a (rowAt a).rw w

/-- A write to ENGINE block `e` (R89, R102, R153). -/
def State.writeEngine (s : State) (e a : Nat) (w : Word) : State :=
  let o := a % 0x1000
  if o = 0x018 then s.engCommand e w
  else if o = 0x020 ∨ o = 0x024 then s.writeWide a w
  else if 0x100 ≤ o ∧ o < 0x180 ∧ o % 16 < 12 then s.writePointer e a w
  else s.writeFields a (rowAt a).rw w

/-- A write to the TIME block (R334, R342). -/
def State.writeTime (s : State) (a : Nat) (w : Word) : State :=
  let o := a % 0x1000
  if o = 0x018 ∨ o = 0x01C then s.writeWide a w
  else if o = 0x020 then (if bit w 0 then s.askAlign else s)
  else if o = 0x1A0 ∨ o = 0x1A4 then s.clearW1c a w
  else s.writeFields a (rowAt a).rw w

/-- A write to the COMMIT block (R212, R226, R227). -/
def State.writeCommit (s : State) (a : Nat) (w : Word) : State :=
  let o := a % 0x1000
  if o = 0x010 then s.commitCmd w
  else if o = 0x014 ∨ o = 0x018 then s.writeWide a w
  else if o = 0x020 then s.clearW1c a w
  else s.writeFields a (rowAt a).rw w

/-- A write of the register at byte address `a`: the RW fields it can change take their values, or the register acts as its block
says; RO, IMG and RC fields and offsets that name no register ignore it (R5 to R7, R21). -/
def State.writeReg (s : State) (a : Nat) (w : Word) : State :=
  let b := a / 0x1000
  let o := a % 0x1000
  if o = 0x004 then (if b = 0xF0 then (s.clearEvents a w).keyBreak else s.clearEvents a w)
  else if b = 0x01 then s.writePwr a w
  else if b = 0x02 then s.writeClk a w
  else if b = 0x03 then s.writeTime a w
  else if b = 0x04 ∧ o = 0x048 then
    let s' := s.writeFields a (rowAt a).rw w
    if bit w 0 && legalWrite a (rowAt a).rw w then s'.rawAsk else s'
  else if b = 0x06 then s.writeCore a w
  else if b = 0x07 ∧ o = 0x010 then s.imageCommand w
  else if b = 0x07 ∧ 0x100 ≤ o ∧ o < 0x200 then s.windowWrite w
  else if b = 0x08 ∧ o = 0x010 then s.dmaCommand w
  else if b = 0x09 ∧ 0x100 ≤ o ∧ o < 0x300 ∧ o % 32 = 8 then s.chanCommand ((o - 0x100) / 32) w
  else if b = 0x0A then s.writeCommit a w
  else if 0x10 ≤ b ∧ b < 0x20 then s.writeTdm (b - 0x10) a w
  else if 0x20 ≤ b ∧ b < 0x24 then s.writeRx (b - 0x20) a w
  else if 0x24 ≤ b ∧ b < 0x28 then s.writeTx (b - 0x24) a w
  else if b = 0x0B ∧ 0x040 ≤ o ∧ o < 0x080 then s.writeFunc ((o - 0x040) / 4) w
  else if b = 0x31 then s.writeSource a w
  else if b = 0x38 then s.writeStore a w
  else if 0x40 ≤ b ∧ b < 0x60 then s.writeEngine (b - 0x40) a w
  else if b = 0x80 then s.writeMeter a w
  else if b = 0xF0 then s.writePerturb a w
  else s.writeFields a (rowAt a).rw w

/-! ## Reads of registers -/

/-- A read of the register at byte address `a`: the word it shows, with what the read does: a latching read captures the higher
words, a read-to-clear field clears, and a counter incremented in the same cycle becomes 1 (R5, R30 to R33, R286). -/
def State.readReg (s : State) (by_ : Requester) (a : Nat) (coincident : Bool) : State :=
  let b := a / 0x1000
  let o := a % 0x1000
  let s := if s.bad a then s.raise b 0 else s
  if 0x10 ≤ b ∧ b < 0x20 ∧ o = 0x058 then s.readStamp by_ (b - 0x10)
  else if isLatched a then s.answer (s.latched by_ a)
  else
    let v := s.view a
    let s := s.each (List.range (latchCount a)) fun t k => t.latch by_ (a + 4 * (k + 1)) (s.view (a + 4 * (k + 1)))
    let rc := (rowAt a).rc
    let s := if rc = 0 then s
      else s.setReg a ((s.reg a &&& ~~~rc) ||| (if coincident && rc == 0xFFFFFFFF then 1 else 0))
    let s := if a = blk 0x01 0x058 then s.setPower { s.power with sampled := false } else s
    let s := if a = blk 0x81 0x020 && (look [] s.meter.log s.logIndex).length != 0 then
        s.setMeter { s.meter with latched := s.logIndex :: s.meter.latched.filter (· != s.logIndex) }
      else s
    s.answer v

/-! ## The address map -/

/-- The place of the word a read of memory region `r` at address `a` returns, and the control block that answers for its
parity; none for data, which carries no check (R22, R28, R29). -/
def State.memPlace (s : State) (r : Region) (a : Nat) : Nat × Option Nat :=
  match r with
  | .ytable e => ((s.laneWord (.engine (Fin.ofNat 32 e)) (yIndex a)).2, some (0x40 + e))
  | .yshelf e => ((s.laneWord (.engine (Fin.ofNat 32 e)) (yIndex a)).1, some (0x40 + e))
  | .xpt | .tables => ((s.laneWord .router a).1, some 0x30)
  | .program e => (a, some (0x40 + e))
  | .events | .cmap => (a, some 0x06)
  | .descs => (a, some 0x08)
  | _ => (a, none)

/-- The words that carry one parity with the word at `a`: both halves of a program word, and otherwise that word alone (R29). -/
def checkedWith (r : Region) (a : Nat) : List Nat :=
  match r with
  | .program _ => [a / 8 * 8, a / 8 * 8 + 4]
  | _ => [a]

/-- What a host read of an FCLK unit returns with HCLK above FCLK: a word that may be stale (R326). -/
def State.stale (s : State) (by_ : Requester) (a : Nat) : State :=
  if by_ = .host && s.hostCrosses a then { s with drawn := s.drawn + 1, readData := Config.staleWord s.drawn s.readData } else s

/-- A read of one word by a requester (R3, R6, R11, R21, R30, R326). -/
def State.busRead (s : State) (by_ : Requester) (addr : Nat) (coincident : Bool) : State :=
  let a := wordOf addr
  match regionOf a with
  | none => (s.answer 0).accessFault by_ 0x01 a
  | some r =>
    if !(s.reaches r a) then s.domainOff by_ a
    else match r with
      | .control _ => (s.readReg by_ a coincident).stale by_ a
      | r =>
        let p := s.memPlace r a
        let s := match p.2 with
          | some b => s.parity b (checkedWith r p.1)
          | none => s
        (s.answer (match r with | .cmap => s.wordAt p.1 &&& s.mapMask a | _ => s.wordAt p.1)).stale by_ a

/-- A write of one word by a requester lands in region `r` (R3, R6, R21, R22, R70, R203, R326). -/
def State.landWrite (s : State) (by_ : Requester) (r : Region) (a : Nat) (w : Word) : State :=
  let c := fun (s : State) => match by_ with | .host => s.setWord a w | .core => s.fclkWrite a w
  match r with
  | .control _ => s.writeReg a w
  | .xpt | .tables => s.routerShelfBy by_ a w
  | .program e =>
    if s.programOpen e then
      (match by_ with
        | .host => s.writeProgram a w
        | .core => (s.drew.writeProgram a (s.crossed w)).fclkGood a)
    else s.accessFault by_ 0x03 a
  | .ytable _ => s.accessFault by_ 0x01 a
  | .yshelf e => s.yShelfBy by_ e (yIndex a) w
  | .mailbox | .xmem _ => c s
  | .setMem _ | .store => c s
  | .events | .descs =>
    let s := match by_ with | .host => s.dropWriteBack a | .core => s
    (s.setWord a (w &&& storedMask r a)).good a
  | .cmap => (s.setWord a w).good a

/-- A write of one word by a requester (R3, R11, R21). A host's posted write into an FCLK unit may be lost with HCLK above FCLK
(R326). -/
def State.busWrite (s : State) (by_ : Requester) (addr : Nat) (w : Word) : State :=
  let a := wordOf addr
  match regionOf a with
  | none => s.accessFault by_ 0x01 a
  | some r =>
    if !(s.reaches r a) then s.accessFault by_ 0x02 a
    else if by_ = .host && s.hostCrosses a then
      let s' := { s with drawn := s.drawn + 1 }
      if Config.postedLost s.drawn then s' else s'.landWrite by_ r a w
    else s.landWrite by_ r a w

/-- The class of a requester's accesses at the banks: 2 control core, 3 host bridge (R186, R512). -/
def bankClass : Requester → Nat
  | .host => 3
  | .core => 2

/-- A write of one word by a requester, which at a bank waits out the hold under which it arrives (R187, R508). -/
def State.busRequest (s : State) (by_ : Requester) (addr : Nat) (w : Word) : State :=
  let a := wordOf addr
  let h := s.lowerHold (bankClass by_)
  if atBank a && h != 0 && (match regionOf a with | some r => s.reaches r a | none => false) then
    { s with heldWrites := s.heldWrites ++ [⟨s.now + reqArrival a + bankCycles a h, a, w, bankClass by_, h⟩] }
  else
    let s' := s.busWrite by_ addr w
    if by_ = .core && atBank a && !(s.memOff a) then s'.bankWaited 2 a 0 else s'

/-- A read of one word by a requester; the core's at a bank returns once its hold and its wait are over, which is the cycle of the command
(R200, R508; log entry 92). -/
def State.busFetch (s : State) (by_ : Requester) (addr : Nat) (coincident : Bool) : State :=
  let a := wordOf addr
  let s := s.busRead by_ addr coincident
  if by_ = .core && atBank a && !(s.memOff a) then s.bankWaited 2 a (s.lowerHold 2) else s

/-! ## Commands -/

/-- REGISTER_WRITE (R5 to R7, R11, R21, R58). -/
def execRegisterWrite (by_ : Requester) (a : Addr) (w : Word) (t : Nat) (s : State) : Host.Outcome State Fault Refusal :=
  .next ((s.upTo t).actsBy by_ (.registerWrite by_ a w t) fun s => s.busRequest by_ a.toNat w)

/-- RC_READ: a read of a read-to-clear register (R5, R33, R58). -/
def execRcRead (by_ : Requester) (a : Addr) (coincident : Bool) (t : Nat) (s : State) : Host.Outcome State Fault Refusal :=
  .next ((s.upTo t).actsBy by_ (.rcRead by_ a coincident t) fun s => s.busFetch by_ a.toNat coincident)

/-- LATCHING_READ: a read of the lowest word of a quantity wider than 32 bits (R32, R58). -/
def execLatchingRead (by_ : Requester) (a : Addr) (t : Nat) (s : State) : Host.Outcome State Fault Refusal :=
  .next ((s.upTo t).actsBy by_ (.latchingRead by_ a t) fun s => s.busFetch by_ a.toNat false)

/-- WIDE_WRITE: a write of a word of a quantity wider than 32 bits (R34, R58). -/
def execWideWrite (by_ : Requester) (a : Addr) (w : Word) (t : Nat) (s : State) : Host.Outcome State Fault Refusal :=
  .next ((s.upTo t).actsBy by_ (.wideWrite by_ a w t) fun s => s.busWrite by_ a.toNat w)

end Sys2Proof.Machine
end

