-- ==== Sys2Proof/Machine/EngineArith.lean ====
section
/-!
DEFINITION. The ARITH slot's operations (R110 to R122).
-/

namespace Sys2Proof.Machine

/-- Leaves a result in accumulator An: at once for accumulating operations (R138), two cycles later for source reads
(R137); OVG where the operation overflowed (R116, R117). -/
def State.accWrite (s : State) (e n : Nat) (r : AccResult) : State :=
  let x := s.eng e
  let x := { x with acc := put 0 x.acc n r.val, mark := put false x.mark n r.mark }
  let s := s.setEng e (x.later 2 2 (.accSource n) r.val r.mark)
  if r.ovg then s.ovg e else s

/-- Leaves a result in data register Dn two cycles later (R137); SAT where it saturated (R119, R121). -/
def State.dWrite (s : State) (e n : Nat) (r : DResult) : State :=
  let s := s.setEng e ((s.eng e).later 2 2 (.d n) (r.val.setWidth 72))
  if r.sat then s.engRaise e 2 else s

/-- A multiply-accumulate of the exact product `p` into An: SET replaces, NEG negates (R112, R115 to R117). -/
def State.mulAcc (s : State) (e n : Nat) (w : BitVec 64) (p : Int) : State :=
  let p := if fNEG w then -p else p
  s.accWrite e n (if fSET w then accSet p else accAdd ((s.eng e).accReg n) ((s.eng e).accMark n) p)

/-- The exact product of two data registers, in the raw form of an accumulator (R114). -/
def dProd (x y : Word) : Int := x.toInt * y.toInt

/-- Dx of the ARITH slot. -/
def State.opX (s : State) (e : Nat) (w : BitVec 64) : Word := (s.eng e).dreg (fSX w)

/-- Dy of the ARITH slot. -/
def State.opY (s : State) (e : Nat) (w : BitVec 64) : Word := (s.eng e).dreg (fSY w)

/-- Im Cx of the ARITH slot. -/
def State.opXi (s : State) (e : Nat) (w : BitVec 64) : Word := (s.eng e).dreg (fSX w + 1)

/-- Im Cy of the ARITH slot. -/
def State.opYi (s : State) (e : Nat) (w : BitVec 64) : Word := (s.eng e).dreg (fSY w + 1)

/-- MAC's effect (R115). -/
def State.doMac (s : State) (e : Nat) (w : BitVec 64) : State := s.mulAcc e (fA w) w (dProd (s.opX e w) (s.opY e w))

/-- DMAC's effect (R115). -/
def State.doDmac (s : State) (e : Nat) (w : BitVec 64) : State :=
  (s.mulAcc e (fA w) w (dProd (s.opX e w) (s.opY e w))).mulAcc e (fA w + 1) w (dProd (s.opXi e w) (s.opYi e w))

/-- CMAC's effect (R115). -/
def State.doCmac (s : State) (e : Nat) (w : BitVec 64) : State :=
  let rr := dProd (s.opX e w) (s.opY e w)
  let ii := dProd (s.opXi e w) (s.opYi e w)
  let ri := dProd (s.opX e w) (s.opYi e w)
  let ir := dProd (s.opXi e w) (s.opY e w)
  let re := if fCONJ w then rr + ii else rr - ii
  let im := if fCONJ w then ir - ri else ri + ir
  (s.mulAcc e (fA w) w re).mulAcc e (fA w + 1) w im

/-- ADDA's effect (R111, R116). -/
def State.doAdda (s : State) (e : Nat) (w : BitVec 64) : State :=
  let b := ((s.eng e).accSrc (fB w)).toInt
  s.accWrite e (fA w) (accAdd ((s.eng e).accReg (fA w)) ((s.eng e).accMark (fA w)) (if fNEG w then -b else b))

/-- A setting operation on source Ab that stands for the exact value `v`; a marked source passes its mark on and sets no OVG, whatever
`v` is (R117; DESIGN CHOICE where `v` is outside the limits too: log entry 78). -/
def State.accFrom (s : State) (e : Nat) (w : BitVec 64) (negative : Bool) (v : Int) : State :=
  s.accWrite e (fA w) (if (s.eng e).accSrcMark (fB w) then accPass negative else accSet v)

/-- MOVA's effect (R117). -/
def State.doMova (s : State) (e : Nat) (w : BitVec 64) : State :=
  let b := ((s.eng e).accSrc (fB w)).toInt
  let v := if fNEG w then -b else b
  s.accFrom e w (v < 0) v

/-- ABSA's effect (R117). -/
def State.doAbsa (s : State) (e : Nat) (w : BitVec 64) : State :=
  s.accFrom e w false (((s.eng e).accSrc (fB w)).toInt.natAbs : Int)

/-- ASH's effect (R117, R120). -/
def State.doAsh (s : State) (e : Nat) (w : BitVec 64) : State :=
  let b := ((s.eng e).accSrc (fB w)).toInt
  s.accFrom e w (b < 0) (shiftBy b (fSH w))

/-- ADDD's or SUBD's effect: Dx times 2^SH added to or taken from An (R116, R120). -/
def State.doAddd (s : State) (e : Nat) (w : BitVec 64) (minus : Bool) : State :=
  let d := shiftBy (dRaw (s.opX e w)) (fSH w)
  s.accWrite e (fA w) (accAdd ((s.eng e).accReg (fA w)) ((s.eng e).accMark (fA w)) (if minus then -d else d))

/-- An as a source, rounded into Dz (R119). -/
def State.doRound (s : State) (e a z : Nat) (w : BitVec 64) : State :=
  s.dWrite e z (roundAcc ((s.eng e).accSrc a).toInt (fSH w))

/-- The condition flags of a compare, two cycles later (R122, R137). -/
def State.doFlags (s : State) (e : Nat) (x y : Int) : State :=
  s.setEng e ((s.eng e).later 2 2 .flags (BitVec.ofNat 72 (flagsOf x y)))

/-- ADD's or SUB's result (R121). -/
def addResult (wrap : Bool) (v : Int) : DResult :=
  if wrap then ⟨BitVec.ofInt 32 v, false⟩ else dSat v

/-- MAC: An ← An ± Dx × Dy, or set (R111, R115). -/
def execMac (e : Fin 32) (s : State) : Host.Outcome State Fault Refusal :=
  .next (s.runSlot e .arith 0x01 fun w s => s.doMac e w)

/-- DMAC: two real products, one for each part (R111, R115). -/
def execDmac (e : Fin 32) (s : State) : Host.Outcome State Fault Refusal :=
  .next (s.runSlot e .arith 0x02 fun w s => s.doDmac e w)

/-- CMAC: a complex product, or one with the conjugate (R111, R115). -/
def execCmac (e : Fin 32) (s : State) : Host.Outcome State Fault Refusal :=
  .next (s.runSlot e .arith 0x03 fun w s => s.doCmac e w)

/-- CLR: An ← 0, its mark clear (R117). -/
def execClr (e : Fin 32) (s : State) : Host.Outcome State Fault Refusal :=
  .next (s.runSlot e .arith 0x08 fun w s => s.accWrite e (fA w) ⟨0, false, false⟩)

/-- ADDA: An ← An ± Ab (R111, R116). -/
def execAdda (e : Fin 32) (s : State) : Host.Outcome State Fault Refusal :=
  .next (s.runSlot e .arith 0x09 fun w s => s.doAdda e w)

/-- MOVA: An ← ± Ab (R117). -/
def execMova (e : Fin 32) (s : State) : Host.Outcome State Fault Refusal :=
  .next (s.runSlot e .arith 0x0A fun w s => s.doMova e w)

/-- ABSA: An ← |Ab| (R117). -/
def execAbsa (e : Fin 32) (s : State) : Host.Outcome State Fault Refusal :=
  .next (s.runSlot e .arith 0x0B fun w s => s.doAbsa e w)

/-- ASH: An ← Ab × 2^SH (R117, R120). -/
def execAsh (e : Fin 32) (s : State) : Host.Outcome State Fault Refusal :=
  .next (s.runSlot e .arith 0x0C fun w s => s.doAsh e w)

/-- LDA: An ← Dx × 2^SH (R117, R120). -/
def execLda (e : Fin 32) (s : State) : Host.Outcome State Fault Refusal :=
  .next (s.runSlot e .arith 0x0D fun w s => s.accWrite e (fA w) (accSet (shiftBy (dRaw (s.opX e w)) (fSH w))))

/-- ADDD: An ← An + Dx × 2^SH (R116, R120). -/
def execAddd (e : Fin 32) (s : State) : Host.Outcome State Fault Refusal :=
  .next (s.runSlot e .arith 0x0E fun w s => s.doAddd e w false)

/-- SUBD: An ← An − Dx × 2^SH (R116, R120). -/
def execSubd (e : Fin 32) (s : State) : Host.Outcome State Fault Refusal :=
  .next (s.runSlot e .arith 0x0F fun w s => s.doAddd e w true)

/-- RND: Dz ← round(An × 2^SH) (R119). -/
def execRnd (e : Fin 32) (s : State) : Host.Outcome State Fault Refusal :=
  .next (s.runSlot e .arith 0x10 fun w s => s.doRound e (fA w) (fDZ w) w)

/-- RNDK: RND of both accumulators of Kk (R119). -/
def execRndk (e : Fin 32) (s : State) : Host.Outcome State Fault Refusal :=
  .next (s.runSlot e .arith 0x11 fun w s => (s.doRound e (fA w) (fDZ w) w).doRound e (fA w + 1) (fDZ w + 1) w)

/-- CMP: flags from Dx against Dy (R122). -/
def execCmp (e : Fin 32) (s : State) : Host.Outcome State Fault Refusal :=
  .next (s.runSlot e .arith 0x12 fun w s => s.doFlags e (s.opX e w).toInt (s.opY e w).toInt)

/-- CMPA: flags from An against zero (R122). -/
def execCmpa (e : Fin 32) (s : State) : Host.Outcome State Fault Refusal :=
  .next (s.runSlot e .arith 0x13 fun w s => s.doFlags e ((s.eng e).accSrc (fA w)).toInt 0)

/-- ADD: Dz ← Dx + Dy (R121). -/
def execAdd (e : Fin 32) (s : State) : Host.Outcome State Fault Refusal :=
  .next (s.runSlot e .arith 0x14 fun w s =>
    s.dWrite e (fDZ w) (addResult (fCONJ w) ((s.opX e w).toInt + (s.opY e w).toInt)))

/-- SUB: Dz ← Dx − Dy (R121). -/
def execSub (e : Fin 32) (s : State) : Host.Outcome State Fault Refusal :=
  .next (s.runSlot e .arith 0x15 fun w s =>
    s.dWrite e (fDZ w) (addResult (fCONJ w) ((s.opX e w).toInt - (s.opY e w).toInt)))

/-- MIN: the lesser of Dx and Dy (R121). -/
def execMin (e : Fin 32) (s : State) : Host.Outcome State Fault Refusal :=
  .next (s.runSlot e .arith 0x16 fun w s =>
    s.dWrite e (fDZ w) ⟨if (s.opX e w).toInt ≤ (s.opY e w).toInt then s.opX e w else s.opY e w, false⟩)

/-- MAX: the greater of Dx and Dy (R121). -/
def execMax (e : Fin 32) (s : State) : Host.Outcome State Fault Refusal :=
  .next (s.runSlot e .arith 0x17 fun w s =>
    s.dWrite e (fDZ w) ⟨if (s.opX e w).toInt ≤ (s.opY e w).toInt then s.opY e w else s.opX e w, false⟩)

/-- ABS: Dz ← |Dx| (R121). -/
def execAbs (e : Fin 32) (s : State) : Host.Outcome State Fault Refusal :=
  .next (s.runSlot e .arith 0x18 fun w s => s.dWrite e (fDZ w) (dSat ((s.opX e w).toInt.natAbs : Int)))

/-- NEG: Dz ← −Dx (R121). -/
def execNeg (e : Fin 32) (s : State) : Host.Outcome State Fault Refusal :=
  .next (s.runSlot e .arith 0x19 fun w s => s.dWrite e (fDZ w) (dSat (-(s.opX e w).toInt)))

/-- AND: Dz ← Dx AND Dy (R121). -/
def execAnd (e : Fin 32) (s : State) : Host.Outcome State Fault Refusal :=
  .next (s.runSlot e .arith 0x1A fun w s => s.dWrite e (fDZ w) ⟨s.opX e w &&& s.opY e w, false⟩)

/-- OR: Dz ← Dx OR Dy (R121). -/
def execOr (e : Fin 32) (s : State) : Host.Outcome State Fault Refusal :=
  .next (s.runSlot e .arith 0x1B fun w s => s.dWrite e (fDZ w) ⟨s.opX e w ||| s.opY e w, false⟩)

/-- XOR: Dz ← Dx XOR Dy (R121). -/
def execXor (e : Fin 32) (s : State) : Host.Outcome State Fault Refusal :=
  .next (s.runSlot e .arith 0x1C fun w s => s.dWrite e (fDZ w) ⟨s.opX e w ^^^ s.opY e w, false⟩)

/-- SHF: Dz ← Dx × 2^SH (R120). -/
def execShf (e : Fin 32) (s : State) : Host.Outcome State Fault Refusal :=
  .next (s.runSlot e .arith 0x1D fun w s => s.dWrite e (fDZ w) (dSat (shiftBy (s.opX e w).toInt (fSH w))))

/-- MPYD: Dz ← round(Dx × Dy) (R119). -/
def execMpyd (e : Fin 32) (s : State) : Host.Outcome State Fault Refusal :=
  .next (s.runSlot e .arith 0x1E fun w s =>
    s.dWrite e (fDZ w) (roundAcc (dProd (s.opX e w) (s.opY e w)) 0))

end Sys2Proof.Machine
end

