-- ==== Sys2Proof/Machine/EngineMove.lean ====
section
/-!
DEFINITION. The XMOVE and YMOVE slots' operations (R123 to R126, R143 to R147).
-/

namespace Sys2Proof.Machine

/-- A slot's rank where two writes meet (R139): YMOVE prevails over XMOVE. -/
def moveRank : MoveUnit → Nat
  | .x => 0
  | .y => 1

/-- What a load of word `a` through an address unit reads (R124, R126). -/
def State.moveRead (s : State) (e : Nat) (u : MoveUnit) (a : Nat) : Word :=
  match u with
  | .x => s.wordAt (xAddr e a)
  | .y => s.yRead e a

/-- CTRL_PARITY for a Y Table word under a parity error; a running ramp gives its value in the word's place (R27, R29, R126). -/
def State.moveParity (s : State) (e : Nat) (u : MoveUnit) (a : Nat) : State :=
  match u with
  | .x => s
  | .y => if ((s.eng e).rampOn a).isSome then s else s.parity (0x40 + e) [yAddr e (s.eng e).tableBank a]

/-- The update of the slot's pointer, when UPD is 1 (R144). -/
def State.moveUpdate (s : State) (e : Nat) (w : BitVec 64) (u : MoveUnit) : State :=
  if moveUpd w u then s.ptrUpdate e (movePtr w u) else s

/-- A word on its way to Dn from a move slot (R137). -/
def State.moveLater (s : State) (e : Nat) (u : MoveUnit) (n : Nat) (v : Word) : State :=
  s.setEng e ((s.eng e).later 2 (moveRank u) (.d n) (v.setWidth 72))

/-- The effective address of the slot's access (R143). -/
def State.moveEA (s : State) (e : Nat) (w : BitVec 64) (u : MoveUnit) : Nat := s.ptrEA e (movePtr w u)

/-- LD's effect (R124). -/
def State.doLd (s : State) (e : Nat) (u : MoveUnit) (w : BitVec 64) : State :=
  let a := s.moveEA e w u
  (((s.moveLater e u (moveReg w u) (s.moveRead e u a)).moveParity e u a).ptrParity e (movePtr w u) (moveUpd w u)).moveUpdate e w u

/-- LDC's effect: the pair at the even address and the odd one above it (R125, R147). -/
def State.doLdc (s : State) (e : Nat) (u : MoveUnit) (w : BitVec 64) : State :=
  let a := s.moveEA e w u / 2 * 2
  let s' := (s.moveLater e u (moveReg w u) (s.moveRead e u a)).moveLater e u (moveReg w u + 1) (s.moveRead e u (a + 1))
  (((s'.moveParity e u a).moveParity e u (a + 1)).ptrParity e (movePtr w u) (moveUpd w u)).moveUpdate e w u

/-- ST's effect (R124). -/
def State.doSt (s : State) (e : Nat) (w : BitVec 64) : State :=
  ((s.setWord (xAddr e (s.moveEA e w .x)) ((s.eng e).dreg (moveReg w .x))).ptrParity e (movePtr w .x) (moveUpd w .x)).moveUpdate e w .x

/-- STC's effect (R125, R147). -/
def State.doStc (s : State) (e : Nat) (w : BitVec 64) : State :=
  let a := s.moveEA e w .x / 2 * 2
  let s' := (s.setWord (xAddr e a) ((s.eng e).dreg (moveReg w .x))).setWord (xAddr e (a + 1))
    ((s.eng e).dreg (moveReg w .x + 1))
  (s'.ptrParity e (movePtr w .x) (moveUpd w .x)).moveUpdate e w .x

/-- SETP's effect: the offset changes two cycles later (R137, R145). -/
def State.doSetp (s : State) (e : Nat) (u : MoveUnit) (w : BitVec 64) : State :=
  let p := movePtr w u
  let o := reduceOff (((s.eng e).dreg (moveReg w u)).toNat % 8192 : Nat) (s.ptrLen e p)
  (s.setEng e ((s.eng e).later 2 (moveRank u) (.pointer p) (o.setWidth 72))).ptrParity e p false

/-- GETP's effect (R145). -/
def State.doGetp (s : State) (e : Nat) (u : MoveUnit) (w : BitVec 64) : State :=
  s.moveLater e u (moveReg w u) (BitVec.ofNat 32 ((s.eng e).off (movePtr w u)))

/-- LD: Dreg ← X or Y Table word (R124). -/
def execLd (e : Fin 32) (u : MoveUnit) (s : State) : Host.Outcome State Fault Refusal :=
  .next (s.runSlot e (unitSlot u) 1 fun w s => s.doLd e u w)

/-- ST: X word ← Dreg (R124). -/
def execSt (e : Fin 32) (s : State) : Host.Outcome State Fault Refusal :=
  .next (s.runSlot e .xmove 2 fun w s => s.doSt e w)

/-- LDC: Creg ← X or Y Table pair (R125). -/
def execLdc (e : Fin 32) (u : MoveUnit) (s : State) : Host.Outcome State Fault Refusal :=
  .next (s.runSlot e (unitSlot u) 3 fun w s => s.doLdc e u w)

/-- STC: X pair ← Creg (R125). -/
def execStc (e : Fin 32) (s : State) : Host.Outcome State Fault Refusal :=
  .next (s.runSlot e .xmove 4 fun w s => s.doStc e w)

/-- SETP: On ← Dreg (R145). -/
def execSetp (e : Fin 32) (u : MoveUnit) (s : State) : Host.Outcome State Fault Refusal :=
  .next (s.runSlot e (unitSlot u) 5 fun w s => s.doSetp e u w)

/-- GETP: Dreg ← On (R145). -/
def execGetp (e : Fin 32) (u : MoveUnit) (s : State) : Host.Outcome State Fault Refusal :=
  .next (s.runSlot e (unitSlot u) 6 fun w s => s.doGetp e u w)

end Sys2Proof.Machine
end

