-- ==== Sys2Proof/Machine/Reset.lean ====
section
/-!
DEFINITION. Start-up and reset: the straps, RESET_N and the RST scopes with their crossings (R470 to R480), the boot phases
(R472, R473), and the loss and return of the supply (R443, R444).
-/

namespace Sys2Proof.Machine

/-! ## The whole module (R475, R476) -/

/-- The state with RST_LAST naming a scope (R501). -/
def State.rstLast (s : State) (scope : Nat) : State := s.setReg (blk 0x06 0x018) (BitVec.ofNat 32 scope)

/-- The meter logs a reset, while SW18 is on (R428, R431). -/
def State.logReset (s : State) (scope : Nat) : State := s.meterLog 0x0E scope 0 0

/-- The registers that a reset of the module leaves as they are: those of the sealed domain, and with scope MODULE those of the HOST
and IRQ blocks and SYS.SILENCE (R431, R475, R476). -/
def resetKeeps (hostKept : Bool) (a : Nat) : Bool :=
  let b := a / 0x1000
  b == 0x80 || b == 0x81 || (hostKept && (b == 0x04 || b == 0x05 || a == blk 0x00 0x028))

/-- The memories that a reset of the module loses: those that were powered, retained, or already lost (R97, R452, R475). -/
def State.resetLoses (s : State) : List Nat :=
  ((List.range 12).map (· + 1)).filter fun n =>
    s.domain n || s.power.lost.contains n
      || (if n ≤ 8 then bit (s.reg (blk (0x5F + n) 0x010)) 0 else bit (s.reg (blk 0x01 0x024)) (n - 9))

/-- The power unit as a reset of the module leaves it: the rails stay, and SW18 stays as it was (R449, R475). -/
def State.resetPower (s : State) : Power :=
  { Power.reset with
    on := if s.domain 18 then [18, 19, 20] else [19, 20]
    rising := s.power.rising.filter (· == 18)
    lost := s.resetLoses }

/-- The host port as a reset of the module leaves it: in service with scope MODULE, where QUARANTINE ends and an abandoned flash read
releases the bus; afresh under its home number otherwise (R374, R375, R382, R475, R476). -/
def State.resetHost (s : State) (hostKept : Bool) (straps : Straps) : HostPort :=
  if hostKept then
    { s.host with
      st := if s.host.st = .superseded then .superseded else .normal
      mastering := s.host.mastering && s.loader.path != .flash
      flashRest := [] }
  else { HostPort.reset with active := straps.devnum }

/-- The straps as sampled at tR: IOV_A and IOV_B hold until the next power-up (R446, R470). -/
def State.sampled (s : State) (straps : Straps) : Straps := { straps with iovA := s.straps.iovA, iovB := s.straps.iovB }

/-- The control core as a reset of the module leaves it: held in reset, but where a failed ROM check has halted it and RST MODULE acts, for
only RESET_N or a power cycle leaves HALTED (R473, R475, R476). -/
def State.resetCore (s : State) (hostKept : Bool) : Core :=
  if hostKept ∧ (s.core.phase = .halted ∨ s.core.saved = some .halted) then
    { Core.reset with phase := .halted, cause := 2, inReset := false }
  else Core.reset

/-- The module starts again from step 1 of R472 (R475, R476): every register, state machine and memory but those named stands at its
Reset value. -/
def State.moduleReset (s : State) (straps : Straps) (hostKept : Bool) (scope : Nat) : State :=
  let s := s.logReset scope
  let keep := fun c : Nat × Word => resetKeeps hostKept c.1
  let en := s.domainEn
  let t : State := { State.reset with
    pending := s.pending
    now := s.now
    resetAt := s.now
    drawn := s.drawn
    readData := s.readData
    regs := s.regs.filter keep
    parityBad := s.parityBad.filter fun c => resetKeeps hostKept c.1
    straps := s.sampled straps
    clocks := { Clocks.reset with xclkOk := s.clocks.xclkOk, pinHz := s.clocks.pinHz }
    xcycles := s.xcycles
    silent := if hostKept ∧ s.host.st = .normal then s.silent else 0
    host := s.resetHost hostKept straps
    meter := s.meter
    power := s.resetPower
    core := s.resetCore hostKept
    gpio := { Gpio.reset with level := s.gpio.level }
    tap := s.tap
    uid := s.uid }
  let t := t.setReg (blk 0x01 0x01C) (setBit t.domainEn 18 (bit en 18))
  let t := if hostKept then t else t.setReg (blk 0x04 0x010) (BitVec.ofNat 32 straps.hmode.toNat)
  let t := t.rstLast scope
  let t := if straps.testen then t.meterLog 0x11 0x010 Config.testenData 0 else t
  t.guardResume

/-- RESET_N has been low for `lowNs` nanoseconds; a pulse between 100 ns and 1 microsecond may or may not reset (R475). -/
def execResetN (lowNs : Nat) (straps : Straps) (t : Nat) (s : State) : Host.Outcome State Fault Refusal :=
  let s := s.upTo t
  let s' := { s with drawn := s.drawn + 1 }
  .next (if lowNs < 100 || !s.power.vin then s
    else if 1000 ≤ lowNs then s.moduleReset straps false 0xFF
    else if Config.resetTaken s.drawn then s'.moduleReset straps false 0xFF
    else s')

/-! ## Start-up (R472, R473) -/

/-- The image is obtained as BOOT directs (R472 step 6, R473). -/
def State.bootFrom (s : State) : State :=
  let phase := fun p => s.setCore { s.core with phase := p }
  if s.core.cause = 1 then phase .waitHost
  else match s.straps.boot.toNat with
    | 1 => phase .flash
    | 2 => phase .queued
    | 3 => s.setCore { s.core with phase := .waitHost, cause := 3 }
    | _ => phase .waitHost

/-- Step 5 of start-up ends well: the image is obtained; after a reset of the core alone its crossing stands again and its services go
on (R472, R478, R480). -/
def State.romChecked (s : State) : State :=
  if (s.cross 70).active then
    let s := s.setCross 70 { Crossing.reset with epoch := (s.cross 70).epoch }
    (s.setCore { s.core with phase := if s.core.imageStands then .running else .waitHost }).evlResume
  else s.bootFrom

/-- The ROM check fails: the core halts, and what is left serves on from XCLK (R473). -/
def State.romFailed (s : State) : State :=
  ((s.setCore { s.core with phase := .halted, cause := 2 }).raise 0x06 3).clocksToXclk

/-- NO_LOCK: DCO_READY has not risen 100 ms after step 2; the core leaves reset with every clock on XCLK (R473). -/
def execNoLock (t : Nat) (s : State) : Host.Outcome State Fault Refusal :=
  let s := s.upTo t
  .next (if s.core.phase = .locking ∧ s.core.inReset then
      (s.setCore { s.core with cause := 1, inReset := false, phase := .romCheck }).raise 0x06 3
    else s)

/-! ## Scopes below the module (R476 to R480) -/

/-- Scope CORE: the control core restarts, unless it is held in reset, halted, asleep or unpowered (R480). -/
def State.rstCore (s : State) : State :=
  let p := s.core.phase
  if !(s.domain 19) || p == .halted || p == .settling || p == .locking || p == .asleep then s
  else s.coreReset

/-- A write in flight at a reset of the side that sent it lands whole or not at all (R476, R478). -/
def State.maybeLand (s : State) (reaches : Bool) (a : Nat) (w : Word) : State :=
  let s' := { s with drawn := s.drawn + 1 }
  if Config.writeLands s.drawn && reaches then s'.setWord a w else s'

/-- Scope DMA: STOP_ALL and CLEAR_HALT with no wait for transactions in flight (R476). -/
def State.rstDma (s : State) : State :=
  let s := s.each (List.range 16) fun s c =>
    let x := s.chan c
    if x.st = .stopped then s
    else (s.each x.flight fun s w => s.maybeLand (s.dmaAcks w.dst) w.dst w.val).chanStopped c (x.ending.getD 2)
  s.dmaClearHalt

/-- A RUNNING port whose router was reset takes it as a transmit underrun, counted once while it lasts (R281, R478). -/
def State.portStarves (s : State) (p : Nat) : State :=
  if (s.port p).st = .running ∧ !(s.port p).txUnder ∧ !((s.cross (80 + p)).active) then
    (s.raise (0x10 + p) 4).bump (tdmReg p 0x040)
  else s

/-- Scope ROUTER: its processing restarts, and what it fed holds and fades (R241, R476, R478). -/
def State.rstRouter (s : State) : State :=
  if !(s.domain 13) then s
  else
    let sinks := s.router.sink
    let s := s.sideReset 8
    let s := s.each [0, 1, 2, 3] fun s n =>
      if (List.range 32).any fun e => s.engTb e == n then
        s.crossReset (32 + n) (sinks.filter fun c => 584 ≤ c.1 && s.sinkTb c.1 == n)
      else s
    let s := s.each (List.range 4) fun s m => s.crossReset (36 + m) (valuesFrom sinks (512 + 2 * m) 2) (s.txFadeLen m)
    let s := s.each (List.range 16) fun s p =>
      (s.portStarves p).crossReset (80 + p) (valuesFrom sinks (32 * p) 32) (s.tdmFadeLen p)
    s.routerRestart

/-- Scope TDM_LOW or TDM_HIGH: ports `lo` to `lo + 7` go to DISABLED, and those with EN set start again (R476, R478). -/
def State.rstTdm (s : State) (lo : Nat) : State :=
  if !(s.domain (tdmDomain lo)) then s
  else
    (s.sideReset (crossBit (40 + lo))).each ((List.range 8).map (lo + ·)) fun s p =>
      let s := (s.crossReset (40 + p) (valuesFrom s.router.src (32 * p) 32)).tdmDisabled p
      if bit (s.reg (tdmReg p 0x014)) 0 && !s.portsHeld then s.tdmStarting p else s

/-- Scope BIPHASE, as TDM_LOW (R476, R478). -/
def State.rstBiphase (s : State) : State :=
  if !(s.domain 16) then s
  else
    (s.sideReset 11).each (List.range 4) fun s n =>
      let s := ((s.crossReset (60 + n) (valuesFrom s.router.src (512 + 2 * n) 2)).discDrop (4 + n)).setRx n BpRx.reset
      let s := if bit (s.reg (rxReg n 0x014)) 0 && !s.portsHeld then s.rxSearching n else s
      let s := s.txDisabled n
      if bit (s.reg (txReg n 0x014)) 0 && !s.portsHeld then s.txStarting n else s

/-- One engine of a Set that is reset: its Round is abandoned, its registers are cleared, its far reads are discarded and its far writes
land or not; with PRESENT 1 it enters STOPPED (R72, R476, R478). -/
def State.rstEngine (s : State) (e : Nat) : State :=
  let x := s.eng e
  let s := s.crossReset e (valuesFrom s.router.src (584 + 16 * e) 16)
  let s := s.each x.far fun s q =>
    match q.read, q.w0 with
    | false, some a => s.maybeLand (!(s.memOff a)) a q.data
    | _, _ => s
  let s := s.engOff e
  (s.setEng e { (s.eng e).cleared with far := [], fDrawer := [], fTap := [], fFrac := [], inp := [] }).engConfigure e

/-- Scope SET `k` (R476, R478). -/
def State.rstSet (s : State) (k : Nat) : State :=
  if !(s.domain (k + 1)) then s
  else (s.sideReset k).each (List.range 4) fun s i => s.rstEngine (4 * k + i)

/-- A scope of R476 is not reserved. -/
def scopeKnown (scope : Nat) : Bool := (1 ≤ scope && scope ≤ 7) || (0x10 ≤ scope && scope ≤ 0x17)

/-- A reset of a scope acts (R476). -/
def State.resetScope (s : State) (scope : Nat) : State :=
  if scope = 1 then s.moduleReset s.straps true 1
  else if !(scopeKnown scope) then s
  else
    let s := (s.logReset scope).rstLast scope
    match scope with
    | 2 => s.rstCore
    | 3 => s.rstDma
    | 4 => s.rstRouter
    | 5 => s.rstTdm 0
    | 6 => s.rstTdm 8
    | 7 => s.rstBiphase
    | n => s.rstSet (n - 0x10)

/-- RST_MODULE, with the straps sampled anew (R470, R476); with VIN absent there is nothing to reset (R443). -/
def execRstModule (straps : Straps) (t : Nat) (s : State) : Host.Outcome State Fault Refusal :=
  let s := s.upTo t
  .next (if s.power.vin then s.moduleReset straps true 1 else s)

/-- RST_CORE (R480). -/
def execRstCore (t : Nat) (s : State) : Host.Outcome State Fault Refusal := .next ((s.upTo t).resetScope 2)

/-- RST_DMA (R476). -/
def execRstDma (t : Nat) (s : State) : Host.Outcome State Fault Refusal := .next ((s.upTo t).resetScope 3)

/-- RST_ROUTER (R476). -/
def execRstRouter (t : Nat) (s : State) : Host.Outcome State Fault Refusal := .next ((s.upTo t).resetScope 4)

/-- RST_TDM_LOW (R476). -/
def execRstTdmLow (t : Nat) (s : State) : Host.Outcome State Fault Refusal := .next ((s.upTo t).resetScope 5)

/-- RST_TDM_HIGH (R476). -/
def execRstTdmHigh (t : Nat) (s : State) : Host.Outcome State Fault Refusal := .next ((s.upTo t).resetScope 6)

/-- RST_BIPHASE (R476). -/
def execRstBiphase (t : Nat) (s : State) : Host.Outcome State Fault Refusal := .next ((s.upTo t).resetScope 7)

/-- RST_SET (R476). -/
def execRstSet (set : Fin 8) (t : Nat) (s : State) : Host.Outcome State Fault Refusal := .next ((s.upTo t).resetScope (0x10 + set))

/-! ## Supply (R443, R444) -/

/-- What outlives every loss of the supply: the seal store, the factory UID, and what the board gives. -/
def State.unpowered (s : State) : State :=
  { State.reset with
    pending := s.pending
    now := s.now
    resetAt := s.now
    drawn := s.drawn
    readData := s.readData
    clocks := { Clocks.reset with pinHz := s.clocks.pinHz }
    meter := { Meter.reset with records := s.meter.records, epoch := s.meter.epoch, exhausted := s.meter.exhausted }
    gpio := { Gpio.reset with level := s.gpio.level }
    uid := s.uid }

/-- VIN_LOSS: the converter stops, every rail and domain is off, and all state is lost (R443). -/
def execVinLoss (overVoltage : Bool) (t : Nat) (s : State) : Host.Outcome State Fault Refusal :=
  let s := s.upTo t
  .next (if !s.power.vin then s
    else s.unpowered.setPower { Power.reset with vin := false, overVoltage := overVoltage, pgood := false, on := [] })

/-- The module powers up anew: at step 7 the AON reset releases, the straps are sampled, and SW18, SW19 and SW20 come on (R444, R446,
R470, R472). -/
def State.powersUp (s : State) (straps : Straps) : State :=
  let t := { s.unpowered with straps := straps, host := { HostPort.reset with active := straps.devnum } }
  t.setReg (blk 0x04 0x010) (BitVec.ofNat 32 straps.hmode.toNat)

/-- POWER_UP (R444). -/
def execPowerUp (straps : Straps) (t : Nat) (s : State) : Host.Outcome State Fault Refusal :=
  let s := s.upTo t
  .next (if s.power.vin then s else s.powersUp straps)

/-- RAIL_TIMEOUT: every rail is removed again and PGOOD stays low; the sequence repeats from step 2 (R444). -/
def execRailTimeout (t : Nat) (s : State) : Host.Outcome State Fault Refusal :=
  let s := s.upTo t
  .next (if s.power.vin then s else s.setPower { s.power with pgood := false, on := [] })

/-- OVER_VOLTAGE_RESTART: VIN has fallen back into the operating range (R443, R444). -/
def execOverVoltageRestart (straps : Straps) (t : Nat) (s : State) : Host.Outcome State Fault Refusal :=
  let s := s.upTo t
  .next (if !s.power.vin && s.power.overVoltage then s.powersUp straps else s)

end Sys2Proof.Machine
end

