-- ==== Sys2Proof/Machine/Host.lean ====
section
/-!
DEFINITION. The host port: frames and their checks (R350 to R373), failover (R374 to R378), bus mastering, raw transfers and flash
boot (R379 to R383). A frame command is a frame that arrives while HOWN_N is high (R364, R380).
-/

namespace Sys2Proof.Machine

/-! ## Checks (R361) -/

/-- A CRC-16 over bits, first bit first. -/
def crcOfBits (l : List Bool) : BitVec 16 := l.foldl crc16Bit 0xFFFF

/-- The bits of a field, most significant first (R351). -/
def msbFirst {n : Nat} (w : BitVec n) : List Bool := (List.range n).map fun i => w.getLsbD (n - 1 - i)

/-- A register with the posted writes that reach it, in their order: a reserved encoding changes nothing (R5, R7, R372). -/
def State.regSoon (s : State) (a : Nat) : Word :=
  let m := (rowAt a).rw
  let write := fun (w : Word) (c : Nat × Word) => if wordOf c.1 = a && legalWrite a m c.2 then (w &&& ~~~ m) ||| (c.2 &&& m) else w
  s.host.posted.foldl (fun w p => match p with | .write l => l.foldl write w | _ => w) (s.reg a)

/-- The profile in force: a write to PROFILE_SEL or to a profile takes effect for every frame after its own (R353, R354). -/
def State.profile (s : State) : Word := s.regSoon (blk 0x04 (0x014 + 4 * fld (s.regSoon (blk 0x04 0x010)) 1 0))

/-- The bits of an address phase (R358). -/
def State.addressBits (s : State) (a : Word) : List Bool :=
  if bit s.profile 8 then msbFirst a else msbFirst (a.setWidth 24)

/-- The bits of a command word (R357). -/
def commandBits (op : BitVec 5) (h : Head) : List Bool := msbFirst op ++ msbFirst h.device ++ msbFirst h.gen

/-- DCHK of a frame: over all that the host sent before it (R361). -/
def dchkOf (op : BitVec 5) (h : Head) (address : List Bool) (words : List Word) : BitVec 16 :=
  crcOfBits (commandBits op h ++ address ++ msbFirst (h.hchk.getD 0) ++ words.flatMap bitsOf)

/-! ## Faults of frames (R366, R385) -/

/-- What `f` does for one frame, which counts in FAULT_COUNT where it sets FAULT (R385). -/
def State.inFrame (s : State) (f : State → State) : State :=
  let t := f (s.setHost { s.host with fault := false })
  if t.host.fault then t.bump (blk 0x04 0x040) else t.setHost { t.host with fault := s.host.fault }

/-- A frame that faults with a cause at an address, 0 for a cause of the frame as a whole (R371, R387). -/
def State.frameFault (s : State) (cause addr : Nat) : State := s.inFrame fun s => s.hostFault cause addr

/-- CHECK_ERR collects, and its event sets (R362, R371). -/
def State.checkErr (s : State) : State := (s.setHost { s.host with chkErr := true }).raise 0x04 1

/-! ## Acceptance (R362 to R364, R375, R376) -/

/-- The forms in which a frame is accepted (R362). -/
inductive FrameForm where
  | directed
  | group
  | broadcast
  deriving DecidableEq, Repr

/-- The module belongs to group `g`, 64 to 126 (R385). -/
def State.inGroup (s : State) (g : Nat) : Bool :=
  if g < 96 then bit (s.reg (blk 0x04 0x028)) (g - 64) else bit (s.reg (blk 0x04 0x02C)) (g - 96)

/-- The silence timer restarts (R376). -/
def State.silenceRestart (s : State) : State := { s with silent := 0 }

/-- SUPERSEDED ends: a port or transmitter whose EN is set enters STARTING (R288, R312). -/
def State.portsRestart (s : State) : State :=
  if s.portsHeld then s
  else
    let s := s.each (List.range 16) fun s p => if bit (s.reg (tdmReg p 0x014)) 0 then s.tdmStarting p else s
    s.each (List.range 4) fun s n => if bit (s.reg (txReg n 0x014)) 0 then s.txStarting n else s

/-- QUARANTINE or SUPERSEDED ends; the ports ramp back, or start again (R288, R312, R374, R376). -/
def State.release (s : State) : State :=
  match s.host.st with
  | .normal => s
  | .quarantine => (s.silenceRestart.setHost { s.host with st := .normal }).raise 0x00 2
  | .superseded => ((s.silenceRestart.setHost { s.host with st := .normal }).raise 0x00 2).portsRestart

/-- SUPERSEDED silences the ports at once: every SDO undriven, every BPO low (R288, R312, R375). -/
def State.portsSilence (s : State) : State :=
  let s := s.each (List.range 16) State.sdoOff
  s.each (List.range 4) fun s n => s.setTx n { s.tx n with sent := none }

/-- A directed header with a generation that is neither G nor 15: the module is SUPERSEDED (R375, R378). -/
def State.supersede (s : State) : State :=
  let s := s.bump (blk 0x00 0x030)
  if s.host.st = .superseded then s
  else ((s.setHost { s.host with st := .superseded }).raise 0x00 4).portsSilence

/-- A directed frame is accepted: the silence timer restarts, QUARANTINE ends, and the module may wake (R362, R376, R457). -/
def State.directedSeen (s : State) : State :=
  if s.host.st = .superseded then s
  else
    let s := s.silenceRestart
    let s := if s.host.st = .quarantine then s.release else s
    if bit (s.reg (blk 0x01 0x030)) 0 then s.wakeBy 2 else s

/-- A frame whose header passed is judged by its DEVICE and GEN; none where it is ignored (R362). -/
def State.judge (s : State) (h : Head) : State × Option FrameForm :=
  let d := h.device.toNat
  let own := h.gen == s.host.gen
  let ignored := s.bump (blk 0x00 0x034)
  if d < 64 then
    if d ≠ s.host.active.toNat then (s, none)
    else if own then (s.directedSeen, some .directed)
    else if h.gen = 15 then (ignored, none)
    else (s.supersede, none)
  else if d < 127 then
    if !(s.inGroup d) then (s, none) else if own then (s, some .group) else (ignored, none)
  else if h.gen = 15 ∨ own then (s, some .broadcast)
  else (s, none)

/-- An opcode acts in a form (R357, R363). ADOPT acts when directed, or when broadcast with GEN 15. -/
def opActs (op : BitVec 5) (h : Head) (f : FrameForm) : Bool :=
  match op.toNat with
  | 1 | 2 | 6 | 7 => f == .directed
  | 3 | 4 | 5 | 9 | 10 => true
  | 8 => f == .directed || (f == .broadcast && h.gen == 15)
  | _ => false

/-- A frame arrives up to the end of its header: what the module makes of it, and the form in which its opcode is to act, none
where it does not act (R362 to R364, R371, R375). A read in progress ends with the frame before. While HOWN_N is low, or HCLK stands
still, nothing of a frame acts (R324, R364). -/
def State.frameHead (s : State) (op : BitVec 5) (address : List Bool) (h : Head) : State × Option FrameForm :=
  if s.host.mastering || h.ownLow || !s.power.vin || !(s.clkRuns .hclk) then (s, none)
  else
    let s := s.setHost { s.host with read := none }
    match h.hchk with
    | none => (s, none)
    | some c =>
      if c ≠ crcOfBits (commandBits op h ++ address) then (s.checkErr.bump (blk 0x04 0x038), none)
      else match s.judge h with
        | (s, none) => (s, none)
        | (s, some f) =>
          if s.host.st = .superseded ∧ (op ≠ 8 ∨ f ≠ .broadcast) then (s, none)
          else if opActs op h f then (s, some f)
          else if op = 7 then (s, none)
          else (s.frameFault 0x08 0, none)

/-! ## Addresses of frames (R358 to R360) -/

/-- The byte address of an address phase, and whether it is fixed; none for a reserved MODE (R358). -/
def State.addressOf (s : State) (a : Word) : Option (Nat × Bool) :=
  if bit s.profile 8 then
    match fld a 31 28 with
    | 0 => some (wordOf (fld a 27 0), false)
    | 1 => some (wordOf (fld a 27 0), true)
    | _ => none
  else some (4 * fld a 23 0, bit s.profile 9)

/-- The first byte address past the region that `a` lies in; a gap of the map counts as one (R359). -/
def regionEnd (a : Nat) : Nat :=
  if a < 0x100000 then (a / 0x1000 + 1) * 0x1000
  else match [0x200000, 0x300000, 0x302000, 0x304000, 0x308000, 0x310000, 0x320000, 0x330000, 0x400000].find? fun e => a < e with
    | some e => e
    | none =>
      if a < 0x800000 then (a / 0x8000 + 1) * 0x8000
      else if a < 0x1000000 then 0x1000000
      else if a < 0x2000000 then (a / 0x200000 + 1) * 0x200000
      else if a < 0x3000000 then 0x3000000
      else 0x10000000

/-- A range of class Control (R20, R22): an absent control block lies in one. -/
def controlClass (a : Nat) : Bool :=
  decide (a < 0x300000) || (match regionOf a with | some r => !r.isData | none => false)

/-- The address of word `n` of a data phase (R358). -/
def wordPlace (a : Nat) (fixed : Bool) (n : Nat) : Nat := if fixed then a else a + 4 * n

/-! ## Posted entries (R372) -/

/-- The requests of the entry or read now in turn arrive at their banks: a hold begins with their arrival (R508). -/
def State.hostTurn (s : State) : State := s.setHost { s.host with hold := s.lowerHold 3 }

/-- An entry is posted, or the frame meets QUEUE_FULL (R371, R372). -/
def State.postEntry (s : State) (p : Posted) : State :=
  if 16 ≤ s.host.posted.length then s.frameFault 0x05 0
  else
    let s := if s.host.posted = [] then s.hostTurn else s
    s.setHost { s.host with posted := s.host.posted ++ [p] }

/-- A write frame that passed its checks (R359, R360, R371). -/
def State.postWrite (s : State) (checked : Bool) (a : Word) (words : List Word) : State :=
  match s.addressOf a with
  | none => s.frameFault 0x09 0
  | some (b, fixed) =>
    if !checked && controlClass b then s.frameFault 0x04 b
    else if !fixed && regionEnd b < b + 4 * words.length then
      (s.setHost { s.host with range := true }).frameFault 0x0C b
    else if words.isEmpty then s
    else s.postEntry (.write (words.zipIdx.map fun c => (wordPlace b fixed c.2, c.1)))

/-- The data phase of a frame with a DCHK: `need` is the number of payload words, none for 1 to 64 (R371). Its words where the frame
is whole. -/
def State.checkedBody (s : State) (op : BitVec 5) (h : Head) (address : List Bool) (need : Option Nat) (b : Body) :
    State × Option (List Word) :=
  let n := b.words.length
  if 64 < n ∨ (n = 64 ∧ b.extraBits ≠ 0) then (s.frameFault 0x07 0, none)
  else if b.extraBits ≠ 0 || (match need with | some k => n != k | none => n == 0) then (s.frameFault 0x06 0, none)
  else if b.dchk ≠ dchkOf op h address b.words then (s.checkErr.bump (blk 0x04 0x03C), none)
  else (s, some b.words)

/-- WR (R360, R371). -/
def execWr (h : Head) (a : Word) (words : List Word) (extraBits : Nat) (t : Nat) (s : State) : Host.Outcome State Fault Refusal :=
  let s := s.upTo t
  .next (match s.frameHead 3 (s.addressBits a) h with
    | (s, none) => s
    | (s, some _) =>
      if 64 < words.length ∨ (words.length = 64 ∧ extraBits ≠ 0) then s.frameFault 0x07 0
      else if extraBits ≠ 0 then s.frameFault 0x06 0
      else s.postWrite false a words)

/-- WRC (R361, R371). -/
def execWrc (h : Head) (a : Word) (b : Body) (t : Nat) (s : State) : Host.Outcome State Fault Refusal :=
  let s := s.upTo t
  let address := s.addressBits a
  .next (match s.frameHead 4 address h with
    | (s, none) => s
    | (s, some _) =>
      match s.checkedBody 4 h address none b with
      | (s, none) => s
      | (s, some words) => s.postWrite true a words)

/-- A command frame: its header, its payload of `need` words, and what it then does (R356, R371). -/
def State.commandFrame (s : State) (op : BitVec 5) (h : Head) (need : Nat) (b : Body)
    (act : FrameForm → List Word → State → State) : State :=
  match s.frameHead op [] h with
  | (s, none) => s
  | (s, some f) =>
    match s.checkedBody op h [] (some need) b with
    | (s, none) => s
    | (s, some words) => act f words s

/-- CMT (R209, R227, R373). -/
def execCmt (h : Head) (b : Body) (t : Nat) (s : State) : Host.Outcome State Fault Refusal :=
  .next ((s.upTo t).commandFrame 5 h 3 b fun _ w s =>
    let cmd := w.getD 2 0
    if 4 < fld cmd 10 8 then s.frameFault 0x09 0 else s.postEntry (.commit (w.getD 0 0) (w.getD 1 0) cmd))

/-- An ADOPT that acts: it sets ACTIVE and G as its frame ends, and the module returns to NORMAL (R374). -/
def State.adopted (s : State) (w : Word) : State :=
  let s := s.release
  (s.setHost { s.host with active := BitVec.ofNat 6 (fld w 13 8), gen := BitVec.ofNat 4 (fld w 3 0) }).raise 0x00 3

/-- ADOPT (R371 to R375): every accepted one takes an entry, which completes with nothing left to do; a broadcast one acts only in the
module that its UID names, and in SUPERSEDED any other is no frame that acts. -/
def execAdopt (h : Head) (b : Body) (t : Nat) (s : State) : Host.Outcome State Fault Refusal :=
  .next ((s.upTo t).commandFrame 8 h 3 b fun f l s =>
    let uid : BitVec 64 := l.getD 0 0 ++ l.getD 1 0
    let w := l.getD 2 0
    let named := f = .directed ∨ uid = s.uid
    if s.host.st = .superseded ∧ ¬named then s
    else if fld w 3 0 = 15 ∨ (f = .directed ∧ uid ≠ 0) then s.frameFault 0x09 0
    else if 16 ≤ s.host.posted.length then s.frameFault 0x05 0
    else if named then (s.postEntry (.adopt w)).adopted w
    else s.postEntry (.adopt w))

/-- RST (R476). -/
def execRst (h : Head) (b : Body) (t : Nat) (s : State) : Host.Outcome State Fault Refusal :=
  .next ((s.upTo t).commandFrame 9 h 1 b fun _ w s =>
    let scope := fld (w.getD 0 0) 7 0
    if scopeKnown scope then s.postEntry (.reset (BitVec.ofNat 8 scope)) else s.frameFault 0x09 0)

/-- ALIGN (R342, R373). -/
def execAlignFrame (h : Head) (b : Body) (t : Nat) (s : State) : Host.Outcome State Fault Refusal :=
  .next ((s.upTo t).commandFrame 10 h 2 b fun _ w s => s.postEntry (.align (w.getD 0 0) (w.getD 1 0)))

/-- KEEP: a directed one restarts the silence timer, and that is all (R363). -/
def execKeep (h : Head) (t : Nat) (s : State) : Host.Outcome State Fault Refusal :=
  .next (((s.upTo t).frameHead 7 [] h).1)

/-- BAD_OPCODE_FRAME: a frame with a reserved opcode (R357, R363). -/
def execBadOpcodeFrame (opcode : BitVec 5) (h : Head) (t : Nat) (s : State) : Host.Outcome State Fault Refusal :=
  let s := s.upTo t
  .next (if opcode = 0 ∨ 0x0A < opcode.toNat then (s.frameHead opcode [] h).1 else s)

/-! ## Waits (R58, R206, R368, R478) -/

/-- The copy lane that stands in the way of a Shelf access at `a` (R206, R368). -/
def State.shelfBusy (s : State) (a : Nat) : Bool :=
  match regionOf a with
  | some (.yshelf e) => s.laneBusy (.engine (Fin.ofNat 32 e))
  | some .xpt | some .tables => s.laneBusy .router
  | _ => false

/-- The clock gate of the unit at `a` is closing: its bit for the present mode is 0 and its unit is at rest (R330, R368). -/
def State.gateCloses (s : State) (a : Nat) : Bool :=
  match (regionOf a).bind fun r => gateOf (regionDomain r a) with
  | some n => !(s.gateRuns n) && s.gateRests n && !(s.gateShut n)
  | none => false

/-- A host access at `a` waits (R58, R206, R368, R478). -/
def State.hostWaits (s : State) (a : Nat) : Bool :=
  s.loader.st == .applying || s.shelfBusy a || (inCore a && (s.cross 70).active) || s.gateCloses a

/-- The hold of the last of the requests at `l` at their banks, each bank's in its turn: one alone arrives as its turn begins, and of
several the last arrived `wait` bank cycles ago (R508). -/
def State.turnHold (s : State) (l : List Nat) (wait : Nat) : Nat :=
  match l.filter atBank with
  | [] => 0
  | [_] => s.host.hold
  | a :: r => s.holdAt 3 (s.now - bankCycles ((a :: r).getLastD a) wait)

/-- An entry's requests are held longer than `wait` bank cycles (R508). -/
def State.entryHeld (s : State) (p : Posted) (wait : Nat) : Bool :=
  match p with
  | .write l => wait < s.turnHold (l.map (·.1)) wait
  | _ => false

/-- LOWER_WAIT_MAX sees the wait of an entry's requests at the Delay Store (R200). -/
def State.entryWaited (s : State) (p : Posted) (wait : Nat) : State :=
  match p with
  | .write l => match l.find? fun c => decide (0x2000000 ≤ c.1) with
    | some c => s.lowerWait 3 c.1 wait
    | none => s
  | _ => s

/-- The entry at the head of the queue cannot complete yet. -/
def State.entryWaits (s : State) (p : Posted) : Bool :=
  match p with
  | .write l => l.any fun c => s.hostWaits c.1
  | .commit _ _ _ | .align _ _ => s.loader.st == .applying
  | _ => false

/-- What an entry does as it completes (R209, R342, R371, R372, R476). -/
def State.entryActs (s : State) (p : Posted) : State :=
  match p with
  | .write l => s.inFrame fun s => s.each l fun s c => s.busWrite .host c.1 c.2
  | .commit lo hi cmd =>
    let w := fun (s : State) (o : Nat) (w : Word) => s.writeFields (blk 0x0A o) (rowAt (blk 0x0A o)).rw w
    (w (w s 0x014 lo) 0x018 hi).commitCmd cmd
  | .adopt _ => s
  | .reset scope => s.resetScope scope.toNat
  | .align lo hi =>
    let w := fun (s : State) (o : Nat) (w : Word) => s.writeFields (blk 0x03 o) (rowAt (blk 0x03 o)).rw w
    (w (w s 0x018 lo) 0x01C hi).askAlign

/-- POSTED_COMPLETE: the oldest posted entry completes (R372), whose requests waited `wait` bank cycles at a bank; one still held there
is not yet eligible (R508). Nothing completes while HCLK stands still (R324). -/
def execPostedComplete (g : EntryGrant) (s : State) : Host.Outcome State Fault Refusal :=
  let s := s.upTo g.t
  .next (match s.host.posted with
    | [] => s
    | p :: r =>
      if s.entryWaits p || s.entryHeld p g.wait || !(s.clkRuns .hclk) then s
      else ((((s.setHost { s.host with posted := r }).hostTurn).entryActs p).entryWaited p g.wait))

/-! ## Replies (R365 to R370, R373) -/

/-- A status byte with its odd parity (R365). -/
def State.statusByte (s : State) (ready : Bool) : Byte :=
  let mode := if s.core.imageStands then s.power.mode.code else 3
  let n := flag ready 7 + flag s.host.chkErr 6 + flag s.host.range 5 + flag s.irq 4 + flag s.host.fault 3 + mode * 2
  let b := BitVec.ofNat 8 n
  if (msbFirst b).foldl (· != ·) false then b else b ||| 1

/-- A READY byte is sent: what has collected clears; the not-ready bytes before it showed it too (R366). -/
def State.sendReady (s : State) : State :=
  s.setHost { s.host with waitByte := s.statusByte false, status := s.statusByte true, chkErr := false, range := false, fault := false }

/-- The check after an RDC or an STS (R361). -/
def replyCheck (status : Byte) (words : List Word) : BitVec 16 := crcOfBits (msbFirst status ++ words.flatMap bitsOf)

/-- An accepted RD or RDC waits for READY; a reserved MODE is answered with nothing (R356, R367, R371, R507). -/
def State.readFrame (s : State) (op : BitVec 5) (h : Head) (a : Word) (words : Option Nat) : State :=
  match s.frameHead op (s.addressBits a) h with
  | (s, none) => s
  | (s, some _) =>
    match s.addressOf a with
    | none => s.frameFault 0x09 0
    | some (b, fixed) =>
      let s := if s.host.posted = [] then s.hostTurn else s
      s.setHost { s.host with read := some ⟨b, fixed, words⟩, notReady := fld (s.control 0x0F0) 7 0 }

/-- RD (R356). -/
def execRd (h : Head) (a : Word) (t : Nat) (s : State) : Host.Outcome State Fault Refusal :=
  .next ((s.upTo t).readFrame 1 h a none)

/-- RDC: RDC_LEN words, 64 for 0 (R356, R386). -/
def execRdc (h : Head) (a : Word) (t : Nat) (s : State) : Host.Outcome State Fault Refusal :=
  let s := s.upTo t
  let n := fld s.profile 29 24
  .next (s.readFrame 2 h a (some (if n = 0 then 64 else n)))

/-- STS: one READY byte, the STS word and its check (R356, R373). -/
def execSts (h : Head) (t : Nat) (s : State) : Host.Outcome State Fault Refusal :=
  .next (match (s.upTo t).frameHead 6 [] h with
    | (s, none) => s
    | (s, some _) =>
      let w := word ((16 - s.host.posted.length) * 2 ^ 27 + s.host.st.code * 2 ^ 25 + (s.viewIrq 0x014).toNat)
      let s := s.sendReady
      s.setHost { s.host with notReady := 0, reply := [w], check := some (replyCheck s.host.status [w]) })

/-- The words of a read from its first to the end of its region (R359). -/
def ReadJob.reach (j : ReadJob) : Option Nat := if j.fixed then none else some ((regionEnd j.addr - j.addr) / 4)

/-- `n`, or a bound where there is a lower one. -/
def atMost (n : Nat) (m : Option Nat) : Nat := match m with | some k => min n k | none => n

/-- P: the words that the module holds before READY, and never more than the read asks for (R367). -/
def State.prefetch (s : State) (j : ReadJob) : Nat :=
  let p := fld (s.reg (blk 0x04 0x024)) 5 0
  atMost (atMost (if p = 0 then 64 else p) j.reach) j.words

/-- Words `lo` up to but not including `hi` of a read are fetched: each read acts as it is fetched (R370). -/
def State.fetchWords (s : State) (j : ReadJob) (lo hi : Nat) : State × List Word :=
  ((List.range (hi - lo)).map (lo + ·)).foldl (fun o k =>
    let t := o.1.busRead .host (wordPlace j.addr j.fixed k) false
    (t, o.2 ++ [t.readData])) (s, [])

/-- The read in progress has to wait: for an earlier posted entry, as R368 states, or for HCLK (R324, R367, R372). -/
def State.readWaits (s : State) (j : ReadJob) : Bool := s.host.posted != [] || s.hostWaits j.addr || !(s.clkRuns .hclk)

/-- READ_READY: the first P words are fetched, READY is sent, and the frame goes on for `n` words; words past the region read zero,
and from word `late` on they are sent as zero (R359, R366, R367, R369, R370). At a bank the first request waited `wait` bank cycles; one
still held is not yet eligible (R200, R508). -/
def execReadReady (n : Nat) (pace : ReadPace) (t : Nat) (s : State) : Host.Outcome State Fault Refusal :=
  let s := s.upTo t
  .next (match s.host.read with
    | none => s
    | some j =>
      if s.readWaits j || pace.wait < s.turnHold ((List.range (s.prefetch j)).map (wordPlace j.addr j.fixed)) pace.wait then s
      else
        let s := s.lowerWait 3 j.addr pace.wait
        let n := atMost n j.words
        let p := s.prefetch j
        let late := pace.late.map (max p)
        let stop := max p (atMost (atMost n j.reach) late)
        let old := s.host.fault
        let a := (s.setHost { s.host with fault := false }).fetchWords j 0 p
        let early := a.1.host.fault
        let s := (a.1.setHost { a.1.host with fault := old || early }).sendReady
        let status := s.host.status
        let b := s.fetchWords j p stop
        let under := late.any fun k => decide (k < n)
        let s := if under then b.1.hostFault 0x0A (wordPlace j.addr j.fixed (late.getD 0)) else b.1
        let s := if early || s.host.fault then s.bump (blk 0x04 0x040) else s
        let words := ((a.2 ++ b.2) ++ List.replicate n 0).take n
        let range := match j.reach with | some k => decide (k < n) | none => false
        s.setHost { s.host with
          range := s.host.range || range, read := none, reply := words,
          check := if j.words = some n then some (replyCheck status words) else none })

/-- READ_ABANDONED: HSEL_N rises before READY; what has been fetched has acted (R368, R370). -/
def execReadAbandoned (fetched : Nat) (t : Nat) (s : State) : Host.Outcome State Fault Refusal :=
  let s := s.upTo t
  .next (match s.host.read with
    | none => s
    | some j =>
      let n := if s.readWaits j then 0 else min fetched (s.prefetch j)
      let s := s.setHost { s.host with read := none }
      s.inFrame fun s => (s.fetchWords j 0 n).1)

/-! ## Silence (R376) -/

/-- QUARANTINE: the silence timer has reached T milliseconds; a read in progress is no longer answered (R376, R378). A frame whose header
passes in the same cycle is given first, restarts the timer, and so prevails (log entry 77). -/
def execQuarantine (t : Nat) (s : State) : Host.Outcome State Fault Refusal :=
  let s := s.upTo t
  .next (if s.silenceRuns && s.power.vin && decide ((s.silenceMs : Rat) ≤ s.silentFor) then
      (((s.setHost { s.host with st := .quarantine, read := none }).each (List.range 16) State.tdmQuiet).bump (blk 0x00 0x038)).raise 0x00 1
    else s)

/-! ## Raw transfers (R379 to R381, R388) -/

/-- RAW_CTRL (R388). -/
def State.rawCtrl (s : State) : Word := s.reg (blk 0x04 0x048)

/-- RAW_LEN in bits. -/
def State.rawLen (s : State) : Nat := fld (s.reg (blk 0x04 0x04C)) 15 0

/-- A raw transfer uses one lane, and so sends and receives at once (R381). -/
def State.rawOneLane (s : State) : Bool := fld s.rawCtrl 5 4 == 0

/-- The transfer sends bits from the buffers (R381). -/
def State.rawSends (s : State) : Bool := s.rawOneLane || !(bit s.rawCtrl 3)

/-- The transfer's received bits go to the buffers (R381). -/
def State.rawReceives (s : State) : Bool := s.rawOneLane || bit s.rawCtrl 3

/-- A one-lane transfer under LOOP bit 24 stays inside the module (R510). -/
def State.rawLoops (s : State) : Bool := s.rawOneLane && bit (s.control 0x108) 24

/-- The address of word `k` of a buffer that starts at byte offset `base` (R381). -/
def rawPlace (base k : Nat) : Nat := 0x300000 + (wordOf base + 4 * k) % 0x2000

/-- Word `k` of a transfer of `len` bits: `w` in the bits it covers, from bit 31 down, `z` in the others. -/
def rawMerge (len k : Nat) (w z : Word) : Word :=
  let n := len - 32 * k
  if 32 ≤ n then w else
    let m : Word := maskOf 31 (32 - n)
    if n = 0 then z else (w &&& m) ||| (z &&& ~~~ m)

/-- The words a transfer sends: bits beyond RAW_LEN are zero (R381). Buffers without power send zero. -/
def State.rawSent (s : State) : List Word :=
  if !s.rawSends then []
  else
    let base := fld (s.reg (blk 0x04 0x050)) 12 0
    (List.range ((s.rawLen + 31) / 32)).map fun k =>
      rawMerge s.rawLen k (if s.unitOn 19 then s.wordAt (rawPlace base k) else 0) 0

/-- The words received fill the buffer from RXBUF on, bit 31 first (R381). -/
def State.rawFill (s : State) (l : List Word) : State :=
  if !s.rawReceives || !(s.unitOn 19) then s
  else
    let base := fld (s.reg (blk 0x04 0x050)) 28 16
    s.each ((l.take ((s.rawLen + 31) / 32)).zipIdx) fun s c =>
      s.setWord (rawPlace base c.2) (rawMerge s.rawLen c.2 c.1 (s.wordAt (rawPlace base c.2)))

/-- HOWN_N is pulled low, or released (R379). -/
def State.master (s : State) (on : Bool) : State := s.setHost { s.host with mastering := on }

/-- The module may take the bus (R324, R375, R376, R378, R379). -/
def State.mayMaster (s : State) : Bool := s.power.vin && s.host.st == .normal && s.clkRuns .hclk

/-- HSCK of the transfer that the module masters, in Hz: HCLK / DIV, and HCLK / 8 for a flash read (R381, R382). -/
def State.hsckHz (s : State) : Rat := s.clockHz .hclk / s.host.driven.2

/-- RAW_START: HOWN_N has been high for 16 microseconds, or is still held from the transfer before; under LOOP no pin is driven
(R379, R381, R510). -/
def execRawStart (t : Nat) (s : State) : Host.Outcome State Fault Refusal :=
  let s := s.upTo t
  .next (if s.host.rawWaiting && (s.rawLoops || s.mayMaster) then
      let s := s.setHost { s.host with
        rawWaiting := false, rawLoop := s.rawLoops, rawOut := s.rawSent, driven := (2 ^ fld s.rawCtrl 5 4, fld s.rawCtrl 15 8) }
      if s.rawLoops then s else s.master true
    else s)

/-- A raw transfer runs. -/
def State.rawRuns (s : State) : Bool := bit (s.reg (blk 0x04 0x054)) 0 && !s.host.rawWaiting

/-- RAW_DONE: the transfer ends; with KEEP_SEL 0 the bus is released (R381, R510). -/
def execRawDone (received : List Word) (t : Nat) (s : State) : Host.Outcome State Fault Refusal :=
  let s := s.upTo t
  .next (if s.rawRuns && s.clkRuns .hclk then
      let s := s.rawFill (if s.host.rawLoop then s.host.rawOut else received)
      let s := (s.setReg (blk 0x04 0x054) 0x2).raise 0x04 3
      if bit s.rawCtrl 2 then s else s.master false
    else s)

/-! ## Flash boot (R382, R383) -/

/-- A flash boot has the bus: its full load stops the module, or reads the image. -/
def State.flashHolds (s : State) : Bool :=
  s.host.mastering && s.loader.path == .flash && (s.loader.st == .stopping || s.loader.st == .receiving)

/-- MODE_FAULT: HSEL_N is low while the module masters and does not drive it; the module releases the bus, and the transfer or the flash
read ends (R379, R473). -/
def execModeFault (t : Nat) (s : State) : Host.Outcome State Fault Refusal :=
  let s := s.upTo t
  .next (if s.host.mastering then
      let flash := s.flashHolds
      let a := blk 0x04 0x054
      let busy := s.rawRuns
      let s := ((s.master false).setReg a (setBit (if busy then setBit (s.reg a) 0 false else s.reg a) 2 true)).raise 0x04 4
      let s := s.hostFault 0x0B 0
      if flash then s.loadFail (plainErr 0x19) 4 else s
    else s)

/-- HOWN_RISE: a rising edge of HOWN_N (R383). -/
def execHownRise (t : Nat) (s : State) : Host.Outcome State Fault Refusal :=
  let s := s.upTo t
  .next (s.setHost { s.host with edges := s.host.edges + 1 })

/-- The read command byte 0x03 and the 24-bit flash address 0, as a flash boot sends them (R382). -/
def flashCommand : Word := 0x03000000

/-- FLASH_BOOT: HOWN_N has been high for 16 microseconds and, in a queued boot, the module's turn has come; it takes the bus, sends the
read command on one lane at HCLK / 8, and begins a full load (R382, R383, R472). One that finds the loader busy is refused (R51). -/
def execFlashBoot (t : Nat) (s : State) : Host.Outcome State Fault Refusal :=
  let s := s.upTo t
  let turn := s.core.phase == .flash || (s.core.phase == .queued && decide (s.straps.devnum.toNat ≤ s.host.edges))
  .next (if turn && s.mayMaster && !s.host.mastering then
      if s.loadFree then
        let s := (s.setHost { s.host with mastering := true, rawOut := [flashCommand], driven := (1, 8), flashRest := [] }).setCore
          { s.core with phase := .flash }
        s.loadBegin true .flash
      else s.loadBegin true .flash
    else s)

/-- The words that bytes form, first byte in bits 7 to 0, and the bytes left over (R4, R382). -/
def wordsOf : List Byte → List Word × List Byte
  | a :: b :: c :: d :: r => ((d ++ c ++ b ++ a : BitVec 32) :: (wordsOf r).1, (wordsOf r).2)
  | r => ([], r)

/-- FLASH_READ_END: the bytes read from flash form image words, which are staged; with the last of LENGTH bytes, or a LENGTH that fails
R52, the selection ends and HOWN_N is released (R382, R473). -/
def execFlashReadEnd (bytes : List Byte) (t : Nat) (s : State) : Host.Outcome State Fault Refusal :=
  let s := s.upTo t
  .next (if s.flashHolds && s.loader.st == .receiving && s.clkRuns .hclk then
      let l := wordsOf (s.host.flashRest ++ bytes)
      (s.setHost { s.host with flashRest := l.2 }).loadMany l.1
    else s)

end Sys2Proof.Machine
end

