-- ==== Sys2Proof/Machine/Tap.lean ====
section
/-!
DEFINITION. The test access port (R530). What its instruction does to METER_OK is in Sys2Proof/Machine/Meter.lean, and what it does to the
other lands in Sys2Proof/Machine/Views.lean.
-/

namespace Sys2Proof.Machine

/-- The levels that the boundary register captures, of every land in its order. -/
def State.capture (s : State) : List (Option Bool) :=
  (List.range 39).map fun i => if i < 16 then some (s.pinLevel i) else s.landDrives i

/-- TEST_ACCESS_PORT: an instruction is loaded, and its scan follows: SAMPLE/PRELOAD captures the lands and takes new values to drive,
EXTEST captures the lands, and the bypass register captures 0 (R530; log entry 98). -/
def execTestAccessPort (k : TapInstr) (t : Nat) (s : State) : Host.Outcome State Fault Refusal :=
  let s := s.upTo t
  let u := { s with tap := { s.tap with instr := k } }
  .next (match u.tapInForce with
    | .samplePreload => { u with drawn := u.drawn + 1, tap := { u.tap with boundary := u.capture, preload := u.drawn } }
    | .extest => { u with drawn := u.drawn + 1, tap := { u.tap with boundary := u.capture } }
    | .bypass | .highz => { u with tap := { u.tap with bypass := false } })

end Sys2Proof.Machine
end

