-- ==== Sys2Proof/Machine/Waiting.lean ====
section
/-!
DEFINITION. The ends of APPLYING and of the core's ROM check, and the host accesses that waited for them (R57, R58, R61, R478).
-/

namespace Sys2Proof.Machine

/-- What a host access that has waited does when its turn comes (R58). Only these commands are host accesses. -/
def State.resumes (s : State) (i : Instr) : Host.Outcome State Fault Refusal :=
  match i with
  | .registerWrite by_ a w _ => execRegisterWrite by_ a w s.now s
  | .rcRead by_ a coincident _ => execRcRead by_ a coincident s.now s
  | .latchingRead by_ a _ => execLatchingRead by_ a s.now s
  | .wideWrite by_ a w _ => execWideWrite by_ a w s.now s
  | .programWrite e n hi w _ => execProgramWrite e n hi w s.now s
  | .pointerConfigWrite by_ e p f w _ => execPointerConfigWrite by_ e p f w s.now s
  | .engineStart e _ => execEngineStart e s.now s
  | .engineArm e _ => execEngineArm e s.now s
  | .engineStop e _ => execEngineStop e s.now s
  | .recover e _ => execRecover e s.now s
  | .stageEntryWrite n field w _ => execStageEntryWrite n field w s.now s
  | .stageArm n _ => execStageArm n s.now s
  | .stageCancel n _ => execStageCancel n s.now s
  | .shelfWrite by_ a w _ => execShelfWrite by_ a w s.now s
  | .commitNow g _ => execCommitNow g s.now s
  | .schedule g _ => execSchedule g s.now s
  | .cancel g _ => execCancel g s.now s
  | .revert g _ => execRevert g s.now s
  | .muteWrite n w _ => execMuteWrite n w s.now s
  | .fire n w _ => execFire n w s.now s
  | .tdmEnable p _ => execTdmEnable p s.now s
  | .tdmDisable p _ => execTdmDisable p s.now s
  | .maskWrite p m w _ => execMaskWrite p m w s.now s
  | .stampRead by_ p _ => execStampRead by_ p s.now s
  | .bprxEnable n _ => execBprxEnable n s.now s
  | .bprxDisable n _ => execBprxDisable n s.now s
  | .bptxEnable n _ => execBptxEnable n s.now s
  | .bptxDisable n _ => execBptxDisable n s.now s
  | .swap n _ => execSwap n s.now s
  | .dcoCfgWrite w _ => execDcoCfgWrite w s.now s
  | .clockSelectWrite c w _ => execClockSelectWrite c w s.now s
  | .align _ => execAlign s.now s
  | .beginFull _ => execBeginFull s.now s
  | .beginPartial _ => execBeginPartial s.now s
  | .abort _ => execAbort s.now s
  | .restart _ => execRestart s.now s
  | .imageStart _ => execImageStart s.now s
  | .loadWindowWrite w _ => execLoadWindowWrite w s.now s
  | .channelStart c _ => execChannelStart c s.now s
  | .channelStop c _ => execChannelStop c s.now s
  | .stopAll _ => execStopAll s.now s
  | .clearHalt _ => execClearHalt s.now s
  | .seal burnOk _ => execSeal burnOk s.now s
  | .unseal burnOk _ => execUnseal burnOk s.now s
  | .domainEnWrite w _ => execDomainEnWrite w s.now s
  | .sleep _ => execSleep s.now s
  | .deepSleep _ => execDeepSleep s.now s
  | .run _ => execRun s.now s
  | .doorbell w _ => execDoorbell w s.now s
  | .unlock w _ => execUnlock w s.now s
  | .arbEng w _ => execArbEng w s.now s
  | .arbLower w _ => execArbLower w s.now s
  | .farLat n w _ => execFarLat n w s.now s
  | .bp i w _ => execBp i w s.now s
  | .hostNotready w _ => execHostNotready w s.now s
  | .tickShift w _ => execTickShift w s.now s
  | .tickSuppress w _ => execTickSuppress w s.now s
  | .dcoOffset w _ => execDcoOffset w s.now s
  | .dmaErr w _ => execDmaErr w s.now s
  | .slip w _ => execSlip w s.now s
  | .loop w _ => execLoop w s.now s
  | _ => .next s

/-- The state in which an outcome leaves the module; no host access stops it. -/
def State.resume (s : State) (i : Instr) : State :=
  match s.resumes i with
  | .next t => t
  | _ => s

/-- The host accesses that waited act in their order; one that has more to wait for waits on (R57, R58, R478). -/
def State.waitEnds (s : State) : State := ({ s with waiting := [] } : State).each s.waiting State.resume

/-- ROM_CHECK_END: step 5 of start-up ends, and the host accesses that waited for the core act (R472, R473, R478, R480). -/
def execRomCheckEnd (ok : Bool) (t : Nat) (s : State) : Host.Outcome State Fault Refusal :=
  let s := s.upTo t
  .next (if s.core.phase ≠ .romCheck then s else if ok then s.romChecked.waitEnds.gpioDrain else s.romFailed)

/-- APPLY_END: what stands between the loader and the end of apply is over, be it the work of its sections or the 100 ms for DCO_READY
after a DCO_CFG record; CLOCK records that remain act first, and one that starts another such wait keeps the loader in APPLYING
(R57, R61). Otherwise apply ends and the waiting host accesses act. -/
def execApplyEnd (t : Nat) (s : State) : Host.Outcome State Fault Refusal :=
  let s := s.upTo t
  .next (if s.loader.st = .applying ∧ s.domainsDone ∧ s.clkRuns .fclk then
      let s := s.clockWords s.loader.clockTodo
      if s.loader.clockTodo = [] then s.loadDone.waitEnds.gpioDrain else s
    else s)

end Sys2Proof.Machine
end

