-- ==== Sys2Proof/Machine/Dispatch.lean ====
section
/-!
DEFINITION. One arm for each command: its meaning, in the file of its family.
-/

namespace Sys2Proof.Machine

/-- The effect of a command on everything but the queue. -/
def exec (i : Instr) (s : State) : Host.Outcome State Fault Refusal :=
  match i with
  | .registerWrite by_ a w t => Sys2Proof.Machine.execRegisterWrite by_ a w t s
  | .rcRead by_ a coincident t => Sys2Proof.Machine.execRcRead by_ a coincident t s
  | .latchingRead by_ a t => Sys2Proof.Machine.execLatchingRead by_ a t s
  | .wideWrite by_ a w t => Sys2Proof.Machine.execWideWrite by_ a w t s
  | .frameMark tb t => Sys2Proof.Machine.execFrameMark tb t s
  | .flywheelStart tb t => Sys2Proof.Machine.execFlywheelStart tb t s
  | .flywheelTick tb t => Sys2Proof.Machine.execFlywheelTick tb t s
  | .sinkDelivery tb t => Sys2Proof.Machine.execSinkDelivery tb t s
  | .inputLatch e t => Sys2Proof.Machine.execInputLatch e t s
  | .roundStart e t => Sys2Proof.Machine.execRoundStart e t s
  | .matrixCompute t => Sys2Proof.Machine.execMatrixCompute t s
  | .publication e t => Sys2Proof.Machine.execPublication e t s
  | .budgetEnd e => Sys2Proof.Machine.execBudgetEnd e s
  | .nop e slot => Sys2Proof.Machine.execNop e slot s
  | .mac e => Sys2Proof.Machine.execMac e s
  | .dmac e => Sys2Proof.Machine.execDmac e s
  | .cmac e => Sys2Proof.Machine.execCmac e s
  | .clr e => Sys2Proof.Machine.execClr e s
  | .adda e => Sys2Proof.Machine.execAdda e s
  | .mova e => Sys2Proof.Machine.execMova e s
  | .absa e => Sys2Proof.Machine.execAbsa e s
  | .ash e => Sys2Proof.Machine.execAsh e s
  | .lda e => Sys2Proof.Machine.execLda e s
  | .addd e => Sys2Proof.Machine.execAddd e s
  | .subd e => Sys2Proof.Machine.execSubd e s
  | .rnd e => Sys2Proof.Machine.execRnd e s
  | .rndk e => Sys2Proof.Machine.execRndk e s
  | .cmp e => Sys2Proof.Machine.execCmp e s
  | .cmpa e => Sys2Proof.Machine.execCmpa e s
  | .add e => Sys2Proof.Machine.execAdd e s
  | .sub e => Sys2Proof.Machine.execSub e s
  | .min e => Sys2Proof.Machine.execMin e s
  | .max e => Sys2Proof.Machine.execMax e s
  | .abs e => Sys2Proof.Machine.execAbs e s
  | .neg e => Sys2Proof.Machine.execNeg e s
  | .and e => Sys2Proof.Machine.execAnd e s
  | .or e => Sys2Proof.Machine.execOr e s
  | .xor e => Sys2Proof.Machine.execXor e s
  | .shf e => Sys2Proof.Machine.execShf e s
  | .mpyd e => Sys2Proof.Machine.execMpyd e s
  | .ld e u => Sys2Proof.Machine.execLd e u s
  | .st e => Sys2Proof.Machine.execSt e s
  | .ldc e u => Sys2Proof.Machine.execLdc e u s
  | .stc e => Sys2Proof.Machine.execStc e s
  | .setp e u => Sys2Proof.Machine.execSetp e u s
  | .getp e u => Sys2Proof.Machine.execGetp e u s
  | .rep e => Sys2Proof.Machine.execRep e s
  | .final e => Sys2Proof.Machine.execFinal e s
  | .frd e => Sys2Proof.Machine.execFrd e s
  | .fwr e => Sys2Proof.Machine.execFwr e s
  | .movf e => Sys2Proof.Machine.execMovf e s
  | .movg e => Sys2Proof.Machine.execMovg e s
  | .mvi e => Sys2Proof.Machine.execMvi e s
  | .out e => Sys2Proof.Machine.execOut e s
  | .hin e => Sys2Proof.Machine.execHin e s
  | .sel e => Sys2Proof.Machine.execSel e s
  | .ldi e => Sys2Proof.Machine.execLdi e s
  | .ldih e => Sys2Proof.Machine.execLdih e s
  | .glp e => Sys2Proof.Machine.execGlp e s
  | .farReturn e k t => Sys2Proof.Machine.execFarReturn e k t s
  | .farStall e => Sys2Proof.Machine.execFarStall e s
  | .farWriteLand e k t => Sys2Proof.Machine.execFarWriteLand e k t s
  | .programWrite e n hi w t => Sys2Proof.Machine.execProgramWrite e n hi w t s
  | .pointerConfigWrite by_ e p f w t => Sys2Proof.Machine.execPointerConfigWrite by_ e p f w t s
  | .engineStart e t => Sys2Proof.Machine.execEngineStart e t s
  | .engineArm e t => Sys2Proof.Machine.execEngineArm e t s
  | .engineStop e t => Sys2Proof.Machine.execEngineStop e t s
  | .recover e t => Sys2Proof.Machine.execRecover e t s
  | .retentionLost set t => Sys2Proof.Machine.execRetentionLost set t s
  | .stageEntryWrite n field w t => Sys2Proof.Machine.execStageEntryWrite n field w t s
  | .stageArm n t => Sys2Proof.Machine.execStageArm n t s
  | .stageCancel n t => Sys2Proof.Machine.execStageCancel n t s
  | .stageCheckEnd n t => Sys2Proof.Machine.execStageCheckEnd n t s
  | .shelfWrite by_ a w t => Sys2Proof.Machine.execShelfWrite by_ a w t s
  | .commitNow g t => Sys2Proof.Machine.execCommitNow g t s
  | .schedule g t => Sys2Proof.Machine.execSchedule g t s
  | .cancel g t => Sys2Proof.Machine.execCancel g t s
  | .revert g t => Sys2Proof.Machine.execRevert g t s
  | .commitDue g tb t => Sys2Proof.Machine.execCommitDue g tb t s
  | .reshelveEnd lane t => Sys2Proof.Machine.execReshelveEnd lane t s
  | .revertDone lane t => Sys2Proof.Machine.execRevertDone lane t s
  | .muteWrite n w t => Sys2Proof.Machine.execMuteWrite n w t s
  | .zcTimeout n t => Sys2Proof.Machine.execZcTimeout n t s
  | .fire n w t => Sys2Proof.Machine.execFire n w t s
  | .streamPrefetch m t => Sys2Proof.Machine.execStreamPrefetch m t s
  | .streamArrival m late t => Sys2Proof.Machine.execStreamArrival m late t s
  | .tdmEnable p t => Sys2Proof.Machine.execTdmEnable p t s
  | .tdmDisable p t => Sys2Proof.Machine.execTdmDisable p t s
  | .maskWrite p m w t => Sys2Proof.Machine.execMaskWrite p m w t s
  | .tdmFrameMark p bits half slots t => Sys2Proof.Machine.execTdmFrameMark p bits half slots t s
  | .tdmMarkTimeout p t => Sys2Proof.Machine.execTdmMarkTimeout p t s
  | .tdmStopTimeout p t => Sys2Proof.Machine.execTdmStopTimeout p t s
  | .stampRead by_ p t => Sys2Proof.Machine.execStampRead by_ p t s
  | .bprxEnable n t => Sys2Proof.Machine.execBprxEnable n t s
  | .bprxDisable n t => Sys2Proof.Machine.execBprxDisable n t s
  | .biphaseFrame n f t => Sys2Proof.Machine.execBiphaseFrame n f t s
  | .preambleTimeout n t => Sys2Proof.Machine.execPreambleTimeout n t s
  | .bptxEnable n t => Sys2Proof.Machine.execBptxEnable n t s
  | .bptxDisable n t => Sys2Proof.Machine.execBptxDisable n t s
  | .swap n t => Sys2Proof.Machine.execSwap n t s
  | .xclkLost t => Sys2Proof.Machine.execXclkLost t s
  | .xclkBack t => Sys2Proof.Machine.execXclkBack t s
  | .dcoCfgWrite w t => Sys2Proof.Machine.execDcoCfgWrite w t s
  | .xsettleEnd t => Sys2Proof.Machine.execXsettleEnd t s
  | .lockWindow count t => Sys2Proof.Machine.execLockWindow count t s
  | .clockSelectWrite c w t => Sys2Proof.Machine.execClockSelectWrite c w t s
  | .clockSwitchDone c forced t => Sys2Proof.Machine.execClockSwitchDone c forced t s
  | .gateClose n t => Sys2Proof.Machine.execGateClose n t s
  | .rateMeasurement k count clean t => Sys2Proof.Machine.execRateMeasurement k count clean t s
  | .rateAbsent k t => Sys2Proof.Machine.execRateAbsent k t s
  | .align t => Sys2Proof.Machine.execAlign t s
  | .alignLoad t => Sys2Proof.Machine.execAlignLoad t s
  | .rd h a t => Sys2Proof.Machine.execRd h a t s
  | .rdc h a t => Sys2Proof.Machine.execRdc h a t s
  | .wr h a words extraBits t => Sys2Proof.Machine.execWr h a words extraBits t s
  | .wrc h a b t => Sys2Proof.Machine.execWrc h a b t s
  | .cmt h b t => Sys2Proof.Machine.execCmt h b t s
  | .sts h t => Sys2Proof.Machine.execSts h t s
  | .keep h t => Sys2Proof.Machine.execKeep h t s
  | .adopt h b t => Sys2Proof.Machine.execAdopt h b t s
  | .rst h b t => Sys2Proof.Machine.execRst h b t s
  | .alignFrame h b t => Sys2Proof.Machine.execAlignFrame h b t s
  | .readReady n pace t => Sys2Proof.Machine.execReadReady n pace t s
  | .readAbandoned fetched t => Sys2Proof.Machine.execReadAbandoned fetched t s
  | .postedComplete g => Sys2Proof.Machine.execPostedComplete g s
  | .quarantine t => Sys2Proof.Machine.execQuarantine t s
  | .rawStart t => Sys2Proof.Machine.execRawStart t s
  | .rawDone received t => Sys2Proof.Machine.execRawDone received t s
  | .modeFault t => Sys2Proof.Machine.execModeFault t s
  | .hownRise t => Sys2Proof.Machine.execHownRise t s
  | .flashBoot t => Sys2Proof.Machine.execFlashBoot t s
  | .flashReadEnd bytes t => Sys2Proof.Machine.execFlashReadEnd bytes t s
  | .beginFull t => Sys2Proof.Machine.execBeginFull t s
  | .beginPartial t => Sys2Proof.Machine.execBeginPartial t s
  | .abort t => Sys2Proof.Machine.execAbort t s
  | .restart t => Sys2Proof.Machine.execRestart t s
  | .imageStart t => Sys2Proof.Machine.execImageStart t s
  | .stoppingEnd timeout t => Sys2Proof.Machine.execStoppingEnd timeout t s
  | .loadWindowWrite w t => Sys2Proof.Machine.execLoadWindowWrite w t s
  | .receiveTimeout t => Sys2Proof.Machine.execReceiveTimeout t s
  | .verificationEnd t => Sys2Proof.Machine.execVerificationEnd t s
  | .applyEnd t => Sys2Proof.Machine.execApplyEnd t s
  | .unitStart k t => Sys2Proof.Machine.execUnitStart k t s
  | .channelStart c t => Sys2Proof.Machine.execChannelStart c t s
  | .channelStop c t => Sys2Proof.Machine.execChannelStop c t s
  | .stopAll t => Sys2Proof.Machine.execStopAll t s
  | .clearHalt t => Sys2Proof.Machine.execClearHalt t s
  | .descriptorFetch c t => Sys2Proof.Machine.execDescriptorFetch c t s
  | .paceTick c t => Sys2Proof.Machine.execPaceTick c t s
  | .transactionComplete c g t => Sys2Proof.Machine.execTransactionComplete c g t s
  | .busError c q t => Sys2Proof.Machine.execBusError c q t s
  | .meterPowerUp t => Sys2Proof.Machine.execMeterPowerUp t s
  | .seal burnOk t => Sys2Proof.Machine.execSeal burnOk t s
  | .unseal burnOk t => Sys2Proof.Machine.execUnseal burnOk t s
  | .sealNChange level t => Sys2Proof.Machine.execSealNChange level t s
  | .meterSecond dco xclk t => Sys2Proof.Machine.execMeterSecond dco xclk t s
  | .ltUpdate t => Sys2Proof.Machine.execLtUpdate t s
  | .tapFrame m bits half slots cls t => Sys2Proof.Machine.execTapFrame m bits half slots cls t s
  | .tapTimeout m t => Sys2Proof.Machine.execTapTimeout m t s
  | .clockDegraded t => Sys2Proof.Machine.execClockDegraded t s
  | .paramReload n t => Sys2Proof.Machine.execParamReload n t s
  | .vinLoss overVoltage t => Sys2Proof.Machine.execVinLoss overVoltage t s
  | .powerUp straps t => Sys2Proof.Machine.execPowerUp straps t s
  | .railTimeout t => Sys2Proof.Machine.execRailTimeout t s
  | .domainEnWrite w t => Sys2Proof.Machine.execDomainEnWrite w t s
  | .domainDone n t => Sys2Proof.Machine.execDomainDone n t s
  | .storeLost q t => Sys2Proof.Machine.execStoreLost q t s
  | .sleep t => Sys2Proof.Machine.execSleep t s
  | .deepSleep t => Sys2Proof.Machine.execDeepSleep t s
  | .run t => Sys2Proof.Machine.execRun t s
  | .modeDone t => Sys2Proof.Machine.execModeDone t s
  | .wake t => Sys2Proof.Machine.execWake t s
  | .wakeGpio k level t => Sys2Proof.Machine.execWakeGpio k level t s
  | .wakeResume t => Sys2Proof.Machine.execWakeResume t s
  | .auxFault o t => Sys2Proof.Machine.execAuxFault o t s
  | .auxRetry o t => Sys2Proof.Machine.execAuxRetry o t s
  | .telemetryUpdate m t => Sys2Proof.Machine.execTelemetryUpdate m t s
  | .thermShut t => Sys2Proof.Machine.execThermShut t s
  | .thermalCutoff temp t => Sys2Proof.Machine.execThermalCutoff temp t s
  | .resetN lowNs straps t => Sys2Proof.Machine.execResetN lowNs straps t s
  | .romCheckEnd ok t => Sys2Proof.Machine.execRomCheckEnd ok t s
  | .noLock t => Sys2Proof.Machine.execNoLock t s
  | .rstModule straps t => Sys2Proof.Machine.execRstModule straps t s
  | .rstCore t => Sys2Proof.Machine.execRstCore t s
  | .rstDma t => Sys2Proof.Machine.execRstDma t s
  | .rstRouter t => Sys2Proof.Machine.execRstRouter t s
  | .rstTdmLow t => Sys2Proof.Machine.execRstTdmLow t s
  | .rstTdmHigh t => Sys2Proof.Machine.execRstTdmHigh t s
  | .rstBiphase t => Sys2Proof.Machine.execRstBiphase t s
  | .rstSet set t => Sys2Proof.Machine.execRstSet set t s
  | .doorbell w t => Sys2Proof.Machine.execDoorbell w t s
  | .ping t => Sys2Proof.Machine.execPing t s
  | .imageLoad t => Sys2Proof.Machine.execImageLoad t s
  | .setControl t => Sys2Proof.Machine.execSetControl t s
  | .eventFire t => Sys2Proof.Machine.execEventFire t s
  | .eventListFire k late t => Sys2Proof.Machine.execEventListFire k late t s
  | .gpioEvent k level busy t => Sys2Proof.Machine.execGpioEvent k level busy t s
  | .tickOutEnd k t => Sys2Proof.Machine.execTickOutEnd k t s
  | .unlock w t => Sys2Proof.Machine.execUnlock w t s
  | .arbEng w t => Sys2Proof.Machine.execArbEng w t s
  | .arbLower w t => Sys2Proof.Machine.execArbLower w t s
  | .farLat n w t => Sys2Proof.Machine.execFarLat n w t s
  | .bp k w t => Sys2Proof.Machine.execBp k w t s
  | .bpExpiry k t => Sys2Proof.Machine.execBpExpiry k t s
  | .hostNotready w t => Sys2Proof.Machine.execHostNotready w t s
  | .tickShift w t => Sys2Proof.Machine.execTickShift w t s
  | .tickSuppress w t => Sys2Proof.Machine.execTickSuppress w t s
  | .dcoOffset w t => Sys2Proof.Machine.execDcoOffset w t s
  | .dmaErr w t => Sys2Proof.Machine.execDmaErr w t s
  | .slip w t => Sys2Proof.Machine.execSlip w t s
  | .loop w t => Sys2Proof.Machine.execLoop w t s
  | .badOpcodeFrame opcode h t => Sys2Proof.Machine.execBadOpcodeFrame opcode h t s
  | .badOpcodeCommand t => Sys2Proof.Machine.execBadOpcodeCommand t s
  | .overVoltageRestart straps t => Sys2Proof.Machine.execOverVoltageRestart straps t s
  | .auxPowerGood o inWindow t => Sys2Proof.Machine.execAuxPowerGood o inWindow t s
  | .testAccessPort k t => Sys2Proof.Machine.execTestAccessPort k t s

end Sys2Proof.Machine
end

