-- ==== Sys2Proof/Machine/Lanes.lean ====
section
/-!
DEFINITION. The phases of a frame on the lanes HD0 to HD7, one HSCK cycle after another (R351, R352, R356). `none` is a lane that
the phase does not use, or that a side leaves undriven.
-/

namespace Sys2Proof.Machine

/-- The levels of HD0 to HD7 in one HSCK cycle. -/
abbrev LaneCycle := List (Option Bool)

/-- A cycle in which nobody drives a lane. -/
def idleCycle : LaneCycle := List.replicate 8 none

/-- One cycle of a phase on `n` lanes from lane `base` on: the lane of highest number carries the most significant bit (R351). -/
def laneCycle (base n : Nat) (l : List Bool) : LaneCycle :=
  (List.range 8).map fun k => if base ≤ k ∧ k < base + n then l[base + n - 1 - k]? else none

/-- The `k` cycles in which a phase on `n` lanes carries its bits, most significant first (R351). -/
def laneCycles (base n : Nat) : Nat → List Bool → List LaneCycle
  | 0, _ => []
  | m + 1, l => laneCycle base n (l.take n) :: laneCycles base n m (l.drop n)

/-- Bits as a phase on `n` lanes carries them. -/
def onLanes (base n : Nat) (l : List Bool) : List LaneCycle := laneCycles base n ((l.length + n - 1) / n) l

/-- The bits that one cycle carries to a receiver; an undriven lane reads 1 by its pull-up (R350, R351). -/
def cycleBits (base n : Nat) (c : LaneCycle) : List Bool :=
  (List.range n).map fun k => (c.getD (base + n - 1 - k) none).getD true

/-- The bits that a phase carries to a receiver. -/
def offLanes (base n : Nat) (l : List LaneCycle) : List Bool := l.flatMap (cycleBits base n)

/-! ## The profile's lanes (R352, R386) -/

/-- The lanes of the command phase. -/
def State.cmdLanes (s : State) : Nat := 2 ^ fld s.profile 1 0

/-- The lanes of the address phase and HCHK. -/
def State.addrLanes (s : State) : Nat := 2 ^ fld s.profile 3 2

/-- The lanes of DUMMY, the data phase and its check. -/
def State.dataLanes (s : State) : Nat := 2 ^ fld s.profile 5 4

/-- Single mode: the data phase uses one lane, and the port is full duplex (R352). -/
def State.singleMode (s : State) : Bool := s.dataLanes == 1

/-- The first lane of what the module sends: HD1 in single mode, HD0 in half duplex (R352). -/
def State.replyLane (s : State) : Nat := if s.singleMode then 1 else 0

/-! ## Frames on the lanes (R356) -/

/-- The header of a frame: the command phase on the command lanes, the address phase and HCHK on the address lanes. -/
def State.headCycles (s : State) (op : BitVec 5) (address : List Bool) (h : Head) : List LaneCycle :=
  onLanes 0 s.cmdLanes (commandBits op h)
    ++ onLanes 0 s.addrLanes (address ++ (match h.hchk with | some c => msbFirst c | none => []))

/-- The data phase that the host sends, with DCHK where the opcode has one, on the data lanes. -/
def State.bodyCycles (s : State) (words : List Word) (dchk : Option (BitVec 16)) : List LaneCycle :=
  onLanes 0 s.dataLanes (words.flatMap bitsOf ++ (match dchk with | some c => msbFirst c | none => []))

/-- The DUMMY cycles, in which neither side drives a lane. -/
def State.dummyCycles (s : State) : List LaneCycle := List.replicate (fld s.profile 20 16) idleCycle

/-- What follows the header of a read-type frame: DUMMY, the not-ready bytes that HOST_NOTREADY adds, the READY byte, and the words and
the check that the module last sent (R356, R367, R507). -/
def State.replyCycles (s : State) : List LaneCycle :=
  let h := s.host
  s.dummyCycles ++ onLanes s.replyLane s.dataLanes
    ((List.replicate h.notReady (msbFirst h.waitByte)).flatten ++ msbFirst h.status ++ h.reply.flatMap bitsOf
      ++ (match h.check with | some c => msbFirst c | none => []))

end Sys2Proof.Machine
end

