-- ==== Sys2Proof/Safety.lean ====
section
/-!
DEFINITION. What claims about the block mean: how one state stands to a later one, and the forms a state keeps.
-/

namespace Sys2Proof

open Machine

/-- How the state after a command stands to the state before it: the waiting commands are the same, the model's clock has not gone back, the factory
UID stands (R384), and memory that was canonical still is. -/
structure Safety.Follows (s t : State) : Prop where
  pending : t.pending = s.pending
  now : s.now ≤ t.now
  uid : t.uid = s.uid
  mem : Memory.wf s.mem → Memory.wf t.mem

/-- The invariant of every run: memory is in its one canonical form. -/
def Safety.Inv (s : State) : Prop := Memory.wf s.mem

/-! ## What statements name -/

/-- A value held to the range of a data register, [-2^31, 2^31) (R119, R121). -/
def Safety.clamp (v : Int) : Word := BitVec.ofInt 32 (max (-2 ^ 31) (min (2 ^ 31 - 1) v))

/-- The value lies outside the range of a data register. -/
def Safety.outside (v : Int) : Bool := decide (v < -2 ^ 31 ∨ 2 ^ 31 ≤ v)

/-- `n` is the integer nearest to `q`, the even one of two that are as near (R119). -/
def Safety.NearestEven (q : Rat) (n : Int) : Prop := |q - n| ≤ 1 / 2 ∧ (|q - n| = 1 / 2 → n % 2 = 0)

/-- Slot ARITH leaves `v` on its way to Dn, there two cycles later (R137); SAT sets where the result was saturated (R119, R121); the slot is done.
Nothing else changes. -/
def Safety.toD (s : State) (e n : Nat) (v : Word) (sat : Bool) : State :=
  let t := s.setEng e ((s.eng e).later 2 2 (.d n) (v.setWidth 72))
  if sat then t.engRaise e 2 else t

/-- Slot ARITH leaves accumulator An at `v` with mark `m`: at once for accumulation (R138), two cycles later for source reads (R137). Nothing else
changes. -/
def Safety.toA (s : State) (e n : Nat) (v : Acc) (m : Bool) : State :=
  s.setEng e ({ s.eng e with acc := put 0 (s.eng e).acc n v, mark := put false (s.eng e).mark n m }.later 2 2 (.accSource n) v m)

/-- An exact value in raw Q10.62 written to An by a setting operation: itself, or the limit of its sign with mark and OVG where it falls outside
[-512, 512) (R116, R117). -/
def Safety.setA (s : State) (e n : Nat) (v : Int) : State :=
  if -2 ^ 71 ≤ v ∧ v < 2 ^ 71 then Safety.toA s e n (BitVec.ofInt 72 v) false
  else (Safety.toA s e n (if v < 0 then 0x800000000000000000 else 0x7FFFFFFFFFFFFFFFFF) true).ovg e

/-- An exact value in raw Q10.62 added to An: a marked accumulator stays as it is, marked (R116). -/
def Safety.addA (s : State) (e n : Nat) (v : Int) : State :=
  if (s.eng e).accMark n then Safety.toA s e n ((s.eng e).accReg n) true
  else Safety.setA s e n (((s.eng e).accReg n).toInt + v)

/-- A multiply-accumulate of the exact product `p` into An: NEG negates it, SET replaces instead of adding (R112, R115). -/
def Safety.macA (s : State) (e n : Nat) (w : BitVec 64) (p : Int) : State :=
  let v := if fNEG w then -p else p
  if fSET w then Safety.setA s e n v else Safety.addA s e n v

/-- The effective address of an access through Pn (R143). -/
def Safety.ea (s : State) (e n : Nat) : Nat := (s.ptrBase e n + (s.eng e).off n) % 8192

/-- What an access through a move slot does to its pointer: CTRL_PARITY for configuration under a parity error (R154), and the update that UPD asks
for (R144). -/
def Safety.pointerAfter (s : State) (e : Nat) (w : BitVec 64) (u : MoveUnit) : State :=
  (s.ptrParity e (movePtr w u) (moveUpd w u)).moveUpdate e w u

/-- A word on its way from a slot to Dn: there `n` cycles later, behind the writes of the slots of higher rank (R137, R139). -/
def Safety.fly (s : State) (e cycles rank n : Nat) (v : Word) : State :=
  s.setEng e ((s.eng e).later cycles rank (.d n) (v.setWidth 72))

/-- The commands of an engine's slots that store nothing in memory. -/
def Safety.storesNothing (c : Instr) (e : Fin 32) : Prop :=
  c ∈ [.mac e, .dmac e, .cmac e, .clr e, .adda e, .mova e, .absa e, .ash e, .lda e, .addd e, .subd e, .rnd e, .rndk e, .cmp e,
    .cmpa e, .add e, .sub e, .min e, .max e, .abs e, .neg e, .and e, .or e, .xor e, .shf e, .mpyd e, .ld e .x, .ld e .y, .ldc e .x,
    .ldc e .y, .setp e .x, .setp e .y, .getp e .x, .getp e .y, .rep e, .final e, .frd e, .fwr e, .movf e, .movg e, .mvi e, .out e,
    .hin e, .sel e, .ldi e, .ldih e, .glp e, .nop e .arith, .nop e .xmove, .nop e .ymove, .nop e .ctrl]

/-- The header of a frame with opcode `op` and address phase `addr` is accepted as a directed one (R362): HCLK runs, HOWN_N is high (R364), the module
is NORMAL, the check passes, DEVICE is its active number and GEN its generation; and the frame wakes nothing, for it is no wake source or the module
is in run and changes no mode (R457). -/
def Safety.Accepted (s : State) (op : BitVec 5) (addr : List Bool) (h : Head) : Prop :=
  s.host.mastering = false ∧ h.ownLow = false ∧ s.clkRuns .hclk = true ∧ s.power.vin = true ∧ s.host.st = .normal ∧
    h.device.toNat = s.host.active.toNat ∧ h.gen = s.host.gen ∧
    h.hchk = some (crcOfBits (commandBits op h ++ addr)) ∧
    (bit (s.reg (blk 1 0x030)) 0 = false ∨ s.power.mode = .run ∧ s.power.target = none)

/-- The state once such a header has been accepted: the silence timer has restarted, and a read in progress is over (R376). -/
def Safety.heard (s : State) : State := { s with host := { s.host with read := none }, silent := 0 }

/-- The frame was rejected whole with FAULT and a cause (R371, R385): nothing is posted, and the first cause since FAULT_CAUSE was last read is
captured with its address. -/
def Safety.Rejected (s u : State) (cause addr : Nat) : Prop :=
  u.host.posted = s.host.posted ∧ u.host.fault = true ∧ u.event 4 2 = true ∧ u.mem = s.mem ∧
    (s.reg (blk 4 0x030) = 0 → u.reg (blk 4 0x030) = BitVec.ofNat 32 cause ∧ u.reg (blk 4 0x034) = BitVec.ofNat 32 addr) ∧
    (s.reg (blk 4 0x030) ≠ 0 → u.reg (blk 4 0x030) = s.reg (blk 4 0x030) ∧ u.reg (blk 4 0x034) = s.reg (blk 4 0x034))

/-- The state with an entry posted behind the others; the hold of one that is at once in turn begins (R508). -/
def Safety.posted (s : State) (p : Posted) : State :=
  { s with host := { s.host with
      posted := s.host.posted ++ [p], hold := if s.host.posted = [] then s.lowerHold 3 else s.host.hold } }

/-- The audit log has taken one entry, at the next AUDIT value: its TYPE, DETAIL and data, and the check that chains it to the one before (R427 to
R429). -/
def Safety.Logged (s u : State) (type detail d0 d1 : Nat) : Prop :=
  let audit := s.auditNow + 1
  let words := [BitVec.ofNat 32 audit, BitVec.ofNat 32 (type * 2 ^ 24 + detail), BitVec.ofNat 32 (s.tickCount.toNat % 2 ^ 32),
    BitVec.ofNat 32 (s.tickCount.toNat / 2 ^ 32), BitVec.ofNat 32 s.meter.seconds, BitVec.ofNat 32 d0, BitVec.ofNat 32 d1]
  u.auditNow = audit ∧ u.meter.chain = crc32 (bytesOf (s.meter.chain :: words)) ∧
    look [] u.meter.log (audit % 256) = words ++ [crc32 (bytesOf (s.meter.chain :: words))]

/-- The command is an access of the host at cycle `t`: a write or a read, or what a host's write of a command register is (R57, R58). -/
def Safety.HostAccess (t : Nat) (c : Instr) : Prop :=
  match c with
  | .registerWrite .host _ _ u | .rcRead .host _ _ u | .latchingRead .host _ u | .wideWrite .host _ _ u | .programWrite _ _ _ _ u
  | .pointerConfigWrite .host _ _ _ _ u | .engineStart _ u | .engineArm _ u | .engineStop _ u | .recover _ u | .stageEntryWrite _ _ _ u
  | .stageArm _ u | .stageCancel _ u | .shelfWrite .host _ _ u | .commitNow _ u | .schedule _ u | .cancel _ u | .revert _ u
  | .muteWrite _ _ u | .fire _ _ u | .tdmEnable _ u | .tdmDisable _ u | .maskWrite _ _ _ u | .stampRead .host _ u | .bprxEnable _ u
  | .bprxDisable _ u | .bptxEnable _ u | .bptxDisable _ u | .swap _ u | .dcoCfgWrite _ u | .clockSelectWrite _ _ u | .align u
  | .beginFull u | .beginPartial u | .abort u | .restart u | .imageStart u | .loadWindowWrite _ u | .channelStart _ u | .channelStop _ u
  | .stopAll u | .clearHalt u | .seal _ u | .unseal _ u | .domainEnWrite _ u | .sleep u | .deepSleep u | .run u | .doorbell _ u
  | .unlock _ u | .arbEng _ u | .arbLower _ u | .farLat _ _ u | .bp _ _ u | .hostNotready _ u | .tickShift _ u | .tickSuppress _ u
  | .dcoOffset _ u | .dmaErr _ u | .slip _ u | .loop _ u => u = t
  | _ => False

end Sys2Proof
end

