-- ==== Sys2Proof/Certificates/Slice0/Obligations.lean ====
section
/-!
DEFINITION. The statements about the block that the provers are asked for.
-/

open Sys2Proof Sys2Proof.Machine

/-- MAC, DMAC, CMAC (R112, R115, R116): the exact products of the data registers, in raw Q10.62, added to the accumulators or set into them. -/
def Obligations.MultiplyAccumulate : Prop :=
  ∀ (e : Fin 32) (s : State),
    let w := s.engWord e
    let d := fun n => ((s.eng e).dreg n).toInt
    let xr := d (fSX w)
    let xi := d (fSX w + 1)
    let yr := d (fSY w)
    let yi := d (fSY w + 1)
    let a := fA w
    (s.issues e .arith 0x01 = true → exec (.mac e) s = .next ((Safety.macA s e a w (xr * yr)).slotDone e [.arith])) ∧
    (s.issues e .arith 0x02 = true →
      exec (.dmac e) s = .next ((Safety.macA (Safety.macA s e a w (xr * yr)) e (a + 1) w (xi * yi)).slotDone e [.arith])) ∧
    (s.issues e .arith 0x03 = true → fCONJ w = false →
      exec (.cmac e) s =
        .next ((Safety.macA (Safety.macA s e a w (xr * yr - xi * yi)) e (a + 1) w (xr * yi + xi * yr)).slotDone e [.arith])) ∧
    (s.issues e .arith 0x03 = true → fCONJ w = true →
      exec (.cmac e) s =
        .next ((Safety.macA (Safety.macA s e a w (xr * yr + xi * yi)) e (a + 1) w (xi * yr - xr * yi)).slotDone e [.arith]))

/-- CLR, ADDA, MOVA, ABSA, ASH, LDA, ADDD, SUBD (R111, R116, R117, R120): what each leaves in accumulator An. A marked source gives the limit of the
sign of what the operation stands for, marked, without OVG: that last is the model's choice (log entry 78). -/
def Obligations.AccumulatorOperations : Prop :=
  ∀ (e : Fin 32) (s : State),
    let w := s.engWord e
    let a := fA w
    let b := ((s.eng e).accSrc (fB w)).toInt
    let marked := (s.eng e).accSrcMark (fB w)
    let x := ((s.eng e).dreg (fSX w)).toInt
    let limit := fun (neg : Bool) => Safety.toA s e a (if neg then 0x800000000000000000 else 0x7FFFFFFFFFFFFFFFFF) true
    let shifted := ⌊(x : Rat) * 2 ^ 31 * (2 : Rat) ^ fSH w⌋
    (s.issues e .arith 0x08 = true → exec (.clr e) s = .next ((Safety.toA s e a 0 false).slotDone e [.arith])) ∧
    (s.issues e .arith 0x09 = true →
      exec (.adda e) s = .next ((Safety.addA s e a (if fNEG w then -b else b)).slotDone e [.arith])) ∧
    (s.issues e .arith 0x0A = true → exec (.mova e) s =
      .next ((if marked then limit (decide ((if fNEG w then -b else b) < 0))
        else Safety.setA s e a (if fNEG w then -b else b)).slotDone e [.arith])) ∧
    (s.issues e .arith 0x0B = true →
      exec (.absa e) s = .next ((if marked then limit false else Safety.setA s e a |b|).slotDone e [.arith])) ∧
    (s.issues e .arith 0x0C = true →
      exec (.ash e) s =
        .next ((if marked then limit (decide (b < 0)) else Safety.setA s e a ⌊(b : Rat) * (2 : Rat) ^ fSH w⌋).slotDone e [.arith])) ∧
    (s.issues e .arith 0x0D = true → exec (.lda e) s = .next ((Safety.setA s e a shifted).slotDone e [.arith])) ∧
    (s.issues e .arith 0x0E = true → exec (.addd e) s = .next ((Safety.addA s e a shifted).slotDone e [.arith])) ∧
    (s.issues e .arith 0x0F = true → exec (.subd e) s = .next ((Safety.addA s e a (-shifted)).slotDone e [.arith]))

/-- RND, RNDK, MPYD (R119): the accumulator times 2^SH, or the product of two data registers, to the nearest multiple of 2^-31, a tie to even,
saturating with SAT; the accumulators keep their values and marks. -/
def Obligations.RoundingToNearestEven : Prop :=
  ∀ (e : Fin 32) (s : State),
    let w := s.engWord e
    let q := fun n => (((s.eng e).accSrc n).toInt : Rat) * (2 : Rat) ^ fSH w / 2 ^ 31
    let p := (((s.eng e).dreg (fSX w)).toInt * ((s.eng e).dreg (fSY w)).toInt : Rat) / 2 ^ 31
    (s.issues e .arith 0x10 = true → ∃ n, Safety.NearestEven (q (fA w)) n ∧
      exec (.rnd e) s = .next ((Safety.toD s e (fDZ w) (Safety.clamp n) (Safety.outside n)).slotDone e [.arith])) ∧
    (s.issues e .arith 0x11 = true → ∃ n m, Safety.NearestEven (q (fA w)) n ∧ Safety.NearestEven (q (fA w + 1)) m ∧
      exec (.rndk e) s = .next ((Safety.toD (Safety.toD s e (fDZ w) (Safety.clamp n) (Safety.outside n)) e (fDZ w + 1)
        (Safety.clamp m) (Safety.outside m)).slotDone e [.arith])) ∧
    (s.issues e .arith 0x1E = true → ∃ n, Safety.NearestEven p n ∧
      exec (.mpyd e) s = .next ((Safety.toD s e (fDZ w) (Safety.clamp n) (Safety.outside n)).slotDone e [.arith]))

/-- ADD, SUB, MIN, MAX, ABS, NEG, AND, OR, XOR, SHF (R120, R121): the value each leaves for Dz; WRAP takes a sum modulo 2^32 without SAT. CMP and CMPA
(R122): LT and EQ from the exact signed comparison, on their way for two cycles (R137). -/
def Obligations.DataRegisterResultsAndCompareFlags : Prop :=
  (∀ (e : Fin 32) (s : State),
      let w := s.engWord e
      let x := (s.eng e).dreg (fSX w)
      let y := (s.eng e).dreg (fSY w)
      let z := fDZ w
      let sat := fun (v : Int) => (Safety.toD s e z (Safety.clamp v) (Safety.outside v)).slotDone e [.arith]
      let plain := fun (v : Word) => (Safety.toD s e z v false).slotDone e [.arith]
      (s.issues e .arith 0x14 = true → exec (.add e) s = .next (if fCONJ w then plain (x + y) else sat (x.toInt + y.toInt))) ∧
      (s.issues e .arith 0x15 = true → exec (.sub e) s = .next (if fCONJ w then plain (x - y) else sat (x.toInt - y.toInt))) ∧
      (s.issues e .arith 0x16 = true → exec (.min e) s = .next (plain (BitVec.ofInt 32 (min x.toInt y.toInt)))) ∧
      (s.issues e .arith 0x17 = true → exec (.max e) s = .next (plain (BitVec.ofInt 32 (max x.toInt y.toInt)))) ∧
      (s.issues e .arith 0x18 = true → exec (.abs e) s = .next (sat |x.toInt|)) ∧
      (s.issues e .arith 0x19 = true → exec (.neg e) s = .next (sat (-x.toInt))) ∧
      (s.issues e .arith 0x1A = true → exec (.and e) s = .next (plain (x &&& y))) ∧
      (s.issues e .arith 0x1B = true → exec (.or e) s = .next (plain (x ||| y))) ∧
      (s.issues e .arith 0x1C = true → exec (.xor e) s = .next (plain (x ^^^ y))) ∧
      (s.issues e .arith 0x1D = true → exec (.shf e) s = .next (sat ⌊(x.toInt : Rat) * (2 : Rat) ^ fSH w⌋))) ∧
  (∀ (e : Fin 32) (s : State),
      let w := s.engWord e
      let flags := fun (x y : Int) =>
        (s.setEng e ((s.eng e).later 2 2 .flags (if x < y then 1 else if x = y then 2 else 0))).slotDone e [.arith]
      (s.issues e .arith 0x12 = true →
        exec (.cmp e) s = .next (flags ((s.eng e).dreg (fSX w)).toInt ((s.eng e).dreg (fSY w)).toInt)) ∧
      (s.issues e .arith 0x13 = true → exec (.cmpa e) s = .next (flags ((s.eng e).accSrc (fA w)).toInt 0)))

/-- LD, LDC (R124 to R126, R143, R147): the X word or Y Table word at the effective address, for a pair the even address and the odd one above it, on
its way to the D registers; a Y word under a parity error sets CTRL_PARITY (R27) where no glide ramp runs on it (R126, R225); that under a ramp it
does not, and that the ramp's value is read, is the model's choice (log entry 67). ST, STC (R124, R125, R143, R147): Dreg stored at the effective
address, a pair at the even address and the odd one above it. -/
def Obligations.LoadsAndStoresAtTheEffectiveAddress : Prop :=
  (∀ (e : Fin 32) (s : State),
      let w := s.engWord e
      let r := fun u => moveReg w u
      let a := fun u => Safety.ea s e (movePtr w u)
      let pair := fun u => a u / 2 * 2
      let yp := fun (t : State) n =>
        if ((s.eng e).rampOn n).isSome = true then t else t.parity (0x40 + e) [yAddr e (s.eng e).tableBank n]
      (s.issues e .xmove 1 = true → exec (.ld e .x) s =
        .next ((Safety.pointerAfter (Safety.fly s e 2 0 (r .x) (s.wordAt (xAddr e (a .x)))) e w .x).slotDone e [.xmove])) ∧
      (s.issues e .ymove 1 = true → exec (.ld e .y) s =
        .next ((Safety.pointerAfter (yp (Safety.fly s e 2 1 (r .y) (s.yRead e (a .y))) (a .y)) e w .y).slotDone e [.ymove])) ∧
      (s.issues e .xmove 3 = true → exec (.ldc e .x) s =
        .next ((Safety.pointerAfter (Safety.fly (Safety.fly s e 2 0 (r .x) (s.wordAt (xAddr e (pair .x)))) e 2 0 (r .x + 1)
          (s.wordAt (xAddr e (pair .x + 1)))) e w .x).slotDone e [.xmove])) ∧
      (s.issues e .ymove 3 = true → exec (.ldc e .y) s =
        .next ((Safety.pointerAfter (yp (yp (Safety.fly (Safety.fly s e 2 1 (r .y) (s.yRead e (pair .y))) e 2 1 (r .y + 1)
          (s.yRead e (pair .y + 1))) (pair .y)) (pair .y + 1)) e w .y).slotDone e [.ymove]))) ∧
  (∀ (e : Fin 32) (s : State),
      let w := s.engWord e
      let a := Safety.ea s e (movePtr w .x)
      let pair := a / 2 * 2
      let d := fun n => (s.eng e).dreg n
      (s.issues e .xmove 2 = true → exec (.st e) s =
        .next ((Safety.pointerAfter (s.setWord (xAddr e a) (d (moveReg w .x))) e w .x).slotDone e [.xmove])) ∧
      (s.issues e .xmove 4 = true → exec (.stc e) s =
        .next ((Safety.pointerAfter ((s.setWord (xAddr e pair) (d (moveReg w .x))).setWord (xAddr e (pair + 1)) (d (moveReg w .x + 1)))
          e w .x).slotDone e [.xmove])))

/-- The bytes a slot command stores (R124, R125): none, but for ST the four of its word and for STC the eight of its pair, whatever else the word that
it may end does. -/
def Obligations.OnlyStoresChangeMemory : Prop :=
  ∀ (e : Fin 32) (s t : State),
    let a := Safety.ea s e (movePtr (s.engWord e) .x)
    (∀ c, Safety.storesNothing c e → exec c s = .next t → ∀ k, t.byteAt k = s.byteAt k) ∧
    (exec (.st e) s = .next t → ∀ k, (k < xAddr e a ∨ xAddr e a + 4 ≤ k) → t.byteAt k = s.byteAt k) ∧
    (exec (.stc e) s = .next t → ∀ k, (k < xAddr e (a / 2 * 2) ∨ xAddr e (a / 2 * 2) + 8 ≤ k) → t.byteAt k = s.byteAt k)

/-- SETP, GETP (R137, R145): bits [12:0] of a D register on their way to On, modulo Ln where Ln is not 0; On on its way to a D register. -/
def Obligations.PointerOffsetsMove : Prop :=
  ∀ (e : Fin 32) (u : MoveUnit) (s : State),
    let w := s.engWord e
    let p := movePtr w u
    let rank := match u with | .x => 0 | .y => 1
    let slot := match u with | .x => SlotName.xmove | .y => SlotName.ymove
    let v := ((s.eng e).dreg (moveReg w u)).toNat % 8192
    let o := if s.ptrLen e p = 0 then v else v % s.ptrLen e p
    (s.issues e slot 5 = true → exec (.setp e u) s =
      .next (((s.setEng e ((s.eng e).later 2 rank (.pointer p) ((BitVec.ofNat 13 o).setWidth 72))).ptrParity e p false).slotDone e [slot])) ∧
    (s.issues e slot 6 = true → exec (.getp e u) s =
      .next ((Safety.fly s e 2 rank (moveReg w u) (BitVec.ofNat 32 ((s.eng e).off p))).slotDone e [slot]))

/-- An offset stays within its pointer's circle (R144, R145): an update of Pn moves On by Mn modulo Ln, below a length from 1 to 8,192, or modulo
8,192 where Ln is 0; it is discarded where a SETP of the pointer lands at the next cycle (R137). -/
def Obligations.PointerUpdateStaysInCircle : Prop :=
  ∀ (e n : Nat) (s : State),
    let o := ((s.ptrUpdate e n).eng e).off n
    let moved := ((s.eng e).off n : Int) + s.ptrMod e n
    let discarded := ∃ l ∈ (s.eng e).landings, l.dest = .pointer n ∧ l.due = (s.eng e).cyc + 1
    (discarded → o = (s.eng e).off n) ∧
    (¬discarded → s.ptrLen e n = 0 → (o : Int) = moved % 8192) ∧
    (¬discarded → 1 ≤ s.ptrLen e n → s.ptrLen e n ≤ 8192 → (o : Int) = moved % s.ptrLen e n ∧ o < s.ptrLen e n)

/-- MOVG, MVI, LDI, LDIH, GLP, SEL (R127, R128, R134 to R136): the value each leaves on its way to its D register, there one cycle later (R137). -/
def Obligations.ControlSlotValues : Prop :=
  ∀ (e : Fin 32) (s : State),
    let w := s.engWord e
    let x := s.eng e
    let f := wf w
    let into := fun (n : Nat) (v : Word) => (Safety.fly s e 1 3 n v).slotDone e [.ctrl]
    let odd := (s.reg (engReg e 0x030)).toNat % 2 = 1
    let holds : Nat → Prop := fun c =>
      (c = 0 ∧ x.lt = true) ∨ (c = 1 ∧ x.lt = false) ∨ (c = 2 ∧ x.eq = true) ∨ (c = 3 ∧ x.eq = false) ∨
      (c = 4 ∧ x.lt = false ∧ x.eq = false) ∨ (c = 5 ∧ (x.lt = true ∨ x.eq = true)) ∨ (c = 6 ∧ x.ridx = 0) ∨ (c = 7 ∧ x.ridx ≠ 0) ∨
      (c = 8 ∧ x.ridx + 1 = s.engK e) ∨ (c = 9 ∧ x.ridx + 1 ≠ s.engK e) ∨ (c = 10 ∧ odd) ∨ (c = 11 ∧ ¬odd)
    (s.issues e .ctrl 6 = true → exec (.movg e) s = .next (into (f 15 12) (look 0 x.g (f 11 9)))) ∧
    (s.issues e .ctrl 7 = true → f 11 10 = 0 → exec (.mvi e) s = .next (into (f 15 12) (look 0 x.inp (f 9 6)))) ∧
    (s.issues e .ctrl 7 = true → f 11 10 = 1 → exec (.mvi e) s = .next (into (f 15 12) (look 0 x.outw (f 9 6)))) ∧
    (s.issues e .ctrl 7 = true → f 11 10 = 2 → exec (.mvi e) s = .next (into (f 15 12) (BitVec.ofNat 32 x.ridx))) ∧
    (s.issues e .ctrl 0xA = true → holds (f 15 12) → exec (.sel e) s = .next (into (f 11 8) (x.dreg (f 7 4)))) ∧
    (s.issues e .ctrl 0xA = true → ¬holds (f 15 12) → exec (.sel e) s = .next (into (f 11 8) (x.dreg (f 3 0)))) ∧
    (s.issues e .ctrl 0xB = true →
      exec (.ldi e) s = .next (into (f 15 12) (BitVec.ofInt 32 (if f 11 0 < 2048 then (f 11 0 : Int) else f 11 0 - 4096)))) ∧
    (s.issues e .ctrl 0xC = true → exec (.ldih e) s = .next (into (f 15 12) (BitVec.ofNat 32 (f 11 0 * 2 ^ 20)))) ∧
    (s.issues e .ctrl 0xD = true → x.slotRamp (f 11 6) = none → exec (.glp e) s = .next (into (f 15 12) 0x7FFFFFFF)) ∧
    (∀ r, s.issues e .ctrl 0xD = true → x.slotRamp (f 11 6) = some r → 1 < r.len →
      ∃ n, Safety.NearestEven ((0x7FFFFFFF * r.j : Rat) / (r.len - 1)) n ∧
        exec (.glp e) s = .next (into (f 15 12) (BitVec.ofInt 32 n)))

/-- OUT, MOVF, FINAL, REP (R76, R81, R127, R129, R132, R174): a working output, a part of a far descriptor, the end of the sub-Round with this word,
and the count and END that the block repeat begins with. NOP, and what executes as one (R27, R109, R141): a slot with a legal NOP changes nothing but
its own slot; a reserved encoding, or a word that executes whole as no operation, sets CTRL_FAULT, and a word under a parity error sets CTRL_PARITY
too. Rests on the model's readings and choices of log entry 36. -/
def Obligations.ControlSlotEffectsAndNoOperations : Prop :=
  (∀ (e : Fin 32) (s : State),
      let w := s.engWord e
      let x := s.eng e
      let f := wf w
      let v := x.dreg (f 11 8)
      let out := { x with outw := put 0 x.outw (f 11 8) (x.dreg (f 15 12)) }
      (s.issues e .ctrl 8 = true → exec (.out e) s = .next ((s.setEng e out).slotDone e [.ctrl])) ∧
      (s.issues e .ctrl 5 = true → f 13 12 = 0 →
        exec (.movf e) s = .next ((s.setEng e { x with fDrawer := put 0 x.fDrawer (f 15 14) (v &&& 0x800000FF) }).slotDone e [.ctrl])) ∧
      (s.issues e .ctrl 5 = true → f 13 12 = 1 →
        exec (.movf e) s = .next ((s.setEng e { x with fTap := put 0 x.fTap (f 15 14) (v &&& 0x7FFFFF) }).slotDone e [.ctrl])) ∧
      (s.issues e .ctrl 5 = true → f 13 12 = 2 →
        exec (.movf e) s = .next ((s.setEng e { x with fFrac := put 0 x.fFrac (f 15 14) (v &&& 0xFFFF) }).slotDone e [.ctrl])) ∧
      (s.issues e .ctrl 2 = true → f 7 7 = 0 →
        exec (.final e) s = .next ((s.setEng e { x with finalSeen := true }).slotDone e [.ctrl])) ∧
      (s.issues e .ctrl 2 = true → f 7 7 = 1 →
        exec (.final e) s = .next (((s.setEng e out).setEng e { out with finalSeen := true }).slotDone e [.ctrl])) ∧
      (s.issues e .ctrl 1 = true →
        exec (.rep e) s = .next ((s.setEng e { x with repeatTo := some (f 55 40, f 11 0) }).slotDone e [.arith, .ctrl]))) ∧
  (∀ (e : Fin 32) (slot : SlotName) (s : State), s.ready e slot = true →
      (s.wordFault e = false → slotLegal (s.engWord e) slot = true → slotOp (s.engWord e) slot = 0 → s.engWordBad e = false →
        exec (.nop e slot) s = .next (s.slotDone e [slot])) ∧
      (s.engWordBad e = false → (s.wordFault e = true ∨ slotLegal (s.engWord e) slot = false) →
        exec (.nop e slot) s = .next ((s.engRaise e 6).slotDone e [slot])) ∧
      (s.engWordBad e = true → exec (.nop e slot) s = .next (((s.engRaise e 0).engRaise e 6).slotDone e [slot])))

/-- HIN (R91, R92): an undeclared read returns zero and counts as late; a fresh publication, or any of a writer that is not RUNNING or whose timebase
holds, is returned as it is; a stale one gives the value of the writer's source and counts as late. -/
def Obligations.HandoffReads : Prop :=
  ∀ (e : Fin 32) (s : State), s.issues e .ctrl 9 = true →
    let w := s.engWord e
    let p := wf w 11 10
    let c := wf w 9 6
    let writer := e / 4 * 4 + p
    let y := s.eng writer
    let declared := bit (s.reg (blk (0x60 + e / 4) 0x014)) (4 * (e % 4) + p)
    let live := y.st = .running ∧ s.holding (s.engTb writer) = false
    let fresh := y.pubTag = some (s.tb (s.engTb e)).tickNo
    let late := (((s.engRaise e 5).raise (0x60 + e / 4) 1).bump (engReg e 0x044)).bump (blk (0x60 + e / 4) 0x01C)
    let into := fun (s : State) (v : Word) => (Safety.fly s e 1 3 (wf w 15 12) v).slotDone e [.ctrl]
    (declared = false → exec (.hin e) s = .next (into late 0)) ∧
    (declared = true → (¬live ∨ fresh) → exec (.hin e) s = .next (into s (look 0 y.pub c))) ∧
    (declared = true → live → ¬fresh → exec (.hin e) s = .next (into late (look 0 s.router.src (584 + 16 * writer + c))))

/-- INPUT_LATCH (R80): in a tick in which the engine starts a Round, and once in it, IN0 to IN15 take the values of its sinks; nothing else changes.
ROUND_START (R17, R74, R76, R99): the first sub-Round is before the engine at word 0, its first word issues at cycle 64 + Φ of the tick, and
ROUND_COUNT has counted the Round; a Round that a tick overtook before it started keeps the cycle it had, but none starts in cycles 0 to 63 of a tick
(R14; log entry 90). -/
def Obligations.RoundStartsWithItsInputs : Prop :=
  (∀ (e : Fin 32) (t : Nat) (s0 : State),
      let s := s0.upTo t
      s.roundDue e = true → (s.eng e).skipTick ≠ some (s.engTickNo e) → (s.eng e).latched ≠ some (s.engTickNo e) →
      ∃ u, exec (.inputLatch e t) s0 = .next u ∧ u = { s with engines := u.engines } ∧
        u.eng e = { s.eng e with inp := (u.eng e).inp, latched := some (s.engTickNo e) } ∧
        (∀ c, c < 16 → look 0 (u.eng e).inp c = look 0 s.router.sink (584 + 16 * e + c)) ∧ ∀ k, k ≠ e.val → u.eng k = s.eng k) ∧
  (∀ (e : Fin 32) (t : Nat) (s0 : State),
      let s := s0.upTo t
      s.roundDue e = true →
      ∃ u, exec (.roundStart e t) s0 = .next u ∧ (u.eng e).inRound = true ∧ (u.eng e).ridx = 0 ∧ (u.eng e).pc = 0 ∧
        (u.eng e).issued = 0 ∧ (u.eng e).blocks = [] ∧ (u.eng e).roundTick = some (s.engTickNo e) ∧
        (u.eng e).firstCyc = max ((s.eng e).dueAt.getD ((s.tb (s.engTb e)).lastTick + 64 + s.engPhi e)) ((s.tb (s.engTb e)).lastTick + 64) ∧
        u.reg (engReg e 0x030) = s.reg (engReg e 0x030) + 1 ∧ ∀ k, k ≠ e.val → u.eng k = s.eng k)

/-- PUBLICATION (R77, R81 to R83, R92): the working outputs become what is published, tagged with the Round's tick, results due by then have landed,
and the output fade gain takes its step toward 1, or toward 0 after CTRL_FAULT or in a hold; each published word is its working value times that gain,
to the nearest, ties to even. Rests on the model's readings and choices of log entry 36. -/
def Obligations.PublicationScalesOutputs : Prop :=
  ∀ (e : Fin 32) (t : Nat) (s0 : State),
    let s := s0.upTo t
    let target : Rat := if s.event (0x40 + e) 6 = true ∨ s.holding (s.engTb e) = true then 0 else 1
    (s.eng e).awaits = true → s.lateGroups e = [] → (s.eng e).stopping = false → (s.eng e).stopAtEnd = false →
    ∃ u, exec (.publication e t) s0 = .next u ∧ (u.eng e).pubWork = (s.eng e).outw ∧ (u.eng e).pubTag = (s.eng e).roundTick ∧
      (u.eng e).published = true ∧
      (u.eng e).gain = gainStep (s.eng e).gain target (fld (s.reg (engReg e 0x02C)) 7 0) ∧
      (∀ c, c < 16 → look 0 (u.eng e).pub c = scale (u.eng e).gain (look 0 (s.eng e).outw c)) ∧
      (u.eng e).d = ((s.eng e).land (s.eng e).cyc).d ∧ (u.eng e).acc = (s.eng e).acc ∧ u.mem = s.mem ∧ ∀ k, k ≠ e.val → u.eng k = s.eng k

/-- BUDGET_END (R76 to R78, R141): with B words issued and no FINAL, CTRL_FAULT sets and the sub-Round ends; after the last one the Round has ended
and its publication is due. A word issues when its four slots have executed (R106, R133, R157 to R159): one more has issued, its cycle is over, and
the next word is the one after it, the first of its block while that block's counter has passes left, or word 0 after word 4,095; the slots of a word
not yet whole wait; after the word that ends the budget the loop counters keep their values. Rests on the model's readings and choices of log entries
34, 36. -/
def Obligations.WordsIssueAndTheBudgetEnds : Prop :=
  (∀ (e : Fin 32) (s : State), s.engStructBad e = false → (s.eng e).st = .running → (s.eng e).inRound = true → (s.eng e).slotsDone = [] →
        s.engBudget e ≤ (s.eng e).issued →
      (s.engK e ≤ (s.eng e).ridx + 1 → ∃ u, exec (.budgetEnd e) s = .next u ∧ u = (s.engRaise e 6).setEng e (u.eng e) ∧
        (u.eng e).inRound = false ∧ (u.eng e).published = false ∧ (u.eng e).blocks = [] ∧ (u.eng e).lc = (s.eng e).lc) ∧
      ((s.eng e).ridx + 1 < s.engK e → ∃ u, exec (.budgetEnd e) s = .next u ∧ (u.eng e).inRound = true ∧
        (u.eng e).ridx = (s.eng e).ridx + 1 ∧ (u.eng e).pc = 0 ∧ (u.eng e).issued = 0 ∧ (u.eng e).blocks = [] ∧
        u.reg (blk (0x40 + e) 4) = setBit (s.reg (blk (0x40 + e) 4)) 6 true)) ∧
  (∀ (e : Nat) (l : List SlotName) (s : State),
      let x := s.eng e
      let done := l ++ x.slotsDone
      let whole := SlotName.arith ∈ done ∧ SlotName.xmove ∈ done ∧ SlotName.ymove ∈ done ∧ SlotName.ctrl ∈ done
      (¬whole → s.slotDone e l = s.setEng e { x with slotsDone := done }) ∧
      (whole → x.finalSeen = false → x.issued + 1 < s.engBudget e → x.repeatTo = none → x.far = [] →
        let y := (s.slotDone e l).eng e
        y.slotsDone = [] ∧ y.issued = x.issued + 1 ∧ y.cyc = x.cyc + 1 ∧
        (x.blocks = [] → y.pc = (x.pc + 1) % 4096 ∧ y.blocks = []) ∧
        (∀ b r, x.blocks = b :: r → b.last ≠ x.pc → y.pc = (x.pc + 1) % 4096 ∧ y.blocks = b :: r) ∧
        (∀ b r, x.blocks = b :: r → b.last = x.pc → 1 < (look 0 x.lc r.length).toNat →
          y.pc = b.first ∧ y.blocks = b :: r ∧ look 0 y.lc r.length = look 0 x.lc r.length - 1) ∧
        (∀ b, x.blocks = [b] → b.last = x.pc → (look 0 x.lc 0).toNat ≤ 1 → y.pc = (x.pc + 1) % 4096 ∧ y.blocks = [])) ∧
      (whole → x.finalSeen = false → x.issued + 1 < s.engBudget e → x.far = [] → ∀ last, x.repeatTo = some (0, last) → x.blocks = [] →
        ((s.slotDone e l).eng e).pc = (last + 1) % 4096) ∧
      (whole → x.finalSeen = false → s.engBudget e ≤ x.issued + 1 → x.repeatTo = none →
        ((s.slotDone e l).eng e).lc = x.lc ∧ ((s.slotDone e l).eng e).issued = x.issued + 1) ∧
      (whole → x.finalSeen = false → x.far = [] → ∀ n last, x.repeatTo = some (n + 1, last) →
        let y := (s.slotDone e l).eng e
        y.pc = (x.pc + 1) % 4096 ∧ y.blocks = ⟨(x.pc + 1) % 4096, last⟩ :: x.blocks ∧
          look 0 y.lc x.blocks.length = BitVec.ofNat 16 (n + 1)))

/-- ENGINE_START, ENGINE_ARM, ENGINE_STOP, RECOVER (R88, R89): the engine's new state, in any state of the loader but APPLYING, through which they
wait (R58). Rests on the model's readings and choices of log entries 35, 36. -/
def Obligations.EngineCommands : Prop :=
  ∀ (e : Fin 32) (t : Nat) (s0 : State),
    let s := s0.upTo t
    s.unitOn (e / 4 + 1) = true → s.loader.st ≠ .applying →
    let x := s.eng e
    let c := fld (s.reg (engReg e 0x024)) 15 0 * 2 ^ 32 + (s.reg (engReg e 0x020)).toNat
    (x.st = .stopped → s.engBudget e ≠ 0 →
      exec (.engineStart e t) s0 = .next (s.setEng e { x with st := .armed, start := .nextTick })) ∧
    (x.st = .stopped → s.engBudget e ≠ 0 → s.tickCount.toNat < c →
      exec (.engineArm e t) s0 = .next (s.setEng e { x with st := .armed, start := .atTb0 c })) ∧
    (x.st = .stopped → s.engBudget e ≠ 0 → c ≤ s.tickCount.toNat →
      exec (.engineArm e t) s0 = .next ((s.setEng e { x with st := .armed, start := .nextTick }).engRaise e 9)) ∧
    (x.st = .armed → exec (.engineStop e t) s0 = .next (s.setEng e { x with st := .stopped })) ∧
    (x.st = .running → (s.holding (s.engTb e) = false ∨ x.gain ≠ 0) →
      exec (.engineStop e t) s0 = .next (s.setEng e { x with stopping := true })) ∧
    (x.st = .faulted → exec (.recover e t) s0 =
      .next ((s.setEng e { x with st := .stopped }).setReg (blk (0x40 + e) 4)
        (setBit (s.reg (blk (0x40 + e) 4)) 8 false))) ∧
    (x.st ≠ .stopped → exec (.engineStart e t) s0 = .next s ∧ exec (.engineArm e t) s0 = .next s) ∧
    (x.st ≠ .faulted → exec (.recover e t) s0 = .next s)

/-- PROGRAM_WRITE, POINTER_CONFIG_WRITE (R11, R29, R70, R148, R153): a half of a program word takes the value, and the word is good, while the engine
is not ARMED or RUNNING, else the access faults with ENGINE_BUSY; a pointer's staged field takes the value, alone where the engine is RUNNING; with
the Set off the access faults with DOMAIN_OFF. Through APPLYING they wait (R58). -/
def Obligations.ProgramAndPointerWrites : Prop :=
  ∀ (e : Fin 32) (n : BitVec 12) (hi : Bool) (p : Fin 8) (f : PtrField) (w : Word) (t : Nat) (s0 : State),
    let s := s0.upTo t
    let a := progAddr e n.toNat + if hi then 4 else 0
    let k := 4 * p.val + match f with | .cfg => 0 | .mod => 1 | .init => 2
    let r := engReg e (match f with | .cfg => 0x100 + 16 * p.val | .mod => 0x104 + 16 * p.val | .init => 0x108 + 16 * p.val)
    let on := s.unitOn (e / 4 + 1) = true
    let st := (s.eng e).st
    let staged := ((s.setReg r (w &&& (rowAt r).rw)).good r).setEng e { s.eng e with ptrFresh := joinKeys (s.eng e).ptrFresh [k] }
    s.loader.st ≠ .applying →
    (on → (st = .off ∨ st = .stopped ∨ st = .faulted) →
      exec (.programWrite e n hi w t) s0 =
        .next (((s.setWord a w).good (progAddr e n.toNat)).good (progAddr e n.toNat + 4))) ∧
    (on → (st = .armed ∨ st = .running) → exec (.programWrite e n hi w t) s0 = .next (s.hostFault 0x03 a)) ∧
    (¬on → exec (.programWrite e n hi w t) s0 = .next (s.hostFault 0x02 a)) ∧
    (on → legalWrite r (rowAt r).rw w = true → st = .running →
      exec (.pointerConfigWrite .host e p f w t) s0 = .next staged) ∧
    (on → legalWrite r (rowAt r).rw w = true → st ≠ .running →
      exec (.pointerConfigWrite .host e p f w t) s0 = .next (staged.ptrMakeLive e)) ∧
    (on → legalWrite r (rowAt r).rw w = false → exec (.pointerConfigWrite .host e p f w t) s0 = .next s) ∧
    (¬on → exec (.pointerConfigWrite .host e p f w t) s0 = .next (s.hostFault 0x02 r))

/-- REGISTER_WRITE (R3, R5, R7, R11, R21): in blocks whose registers are plain, the RW bits take the value unless a field it can change would hold a
reserved encoding, and EVENT bits written 1 clear, but for those the device has set in the same cycle; a write of FUNCi may take its own TICK_OUT pin
low besides (R498); data memory takes the word, the core's over an FCLK that keeps its limit (R326), with no hold set (R508), and at the Delay Store
the core's request has a wait that LOWER_WAIT_MAX may take (R200), which is the model's free value (log entry 92); where the domain is off a host's
access faults and the core's does nothing, and outside the map a host's access faults. Through APPLYING the host's wait (R58), and at the control
core's block and window while a reset of the core keeps their crossing absent (R478; log entry 59). -/
def Obligations.RegisterWritesFollowAccessCodes : Prop :=
  ∀ (by_ : Requester) (addr : Addr) (w : Word) (t : Nat) (s0 : State),
    let s := s0.upTo t
    let a := wordOf addr.toNat
    let b := a / 0x1000
    let plain := regionOf a = some (.control b) ∧ (b = 0x00 ∨ b = 0x05 ∨ b = 0x0B ∨ b = 0x30 ∨ b = 0x32 ∨ (0x60 ≤ b ∧ b < 0x68)) ∧
      s.reaches (.control b) a = true
    let ran := exec (.registerWrite by_ addr w t) s0
    let lands := s.lowerHold (bankClass by_) = 0 ∧ s.hostCrosses a = false ∧ (by_ = .core → s.fclkFast = false)
    let set := look (0, 0) s.eventSet a
    let pin := (a % 0x1000 - 0x040) / 4
    (by_ = .host → s.loader.st ≠ .applying ∧ (inCore addr.toNat = true → (s.cross 70).active = false)) →
    (plain → a % 0x1000 ≠ 4 → legalWrite a (rowAt a).rw w = true → ∃ u, ran = .next u ∧
      u = { s with regs := u.regs, parityBad := u.parityBad, gpio := { s.gpio with tickOut := u.gpio.tickOut } } ∧
      (u.gpio.tickOut = s.gpio.tickOut ∨ b = 0x0B ∧ 0x040 ≤ a % 0x1000 ∧ a % 0x1000 < 0x080 ∧
        u.gpio.tickOut = setBit16 s.gpio.tickOut pin false) ∧
      u.reg a = (s.reg a &&& ~~~(rowAt a).rw) ||| (w &&& (rowAt a).rw) ∧ ∀ k, k ≠ a → u.reg k = s.reg k) ∧
    (plain → a % 0x1000 ≠ 4 → legalWrite a (rowAt a).rw w = false → ran = .next s) ∧
    (plain → a % 0x1000 = 4 → set.1 ≠ s.now → ran = .next (s.setReg a (s.reg a &&& ~~~(w &&& (rowAt a).w1c)))) ∧
    (plain → a % 0x1000 = 4 → set.1 = s.now → ran = .next (s.setReg a (s.reg a &&& ~~~(w &&& (rowAt a).w1c &&& ~~~set.2)))) ∧
    (∀ r, regionOf a = some r → r.isData = true → s.reaches r a = true → lands → (by_ = .core → r ≠ .store) → ran = .next (s.setWord a w)) ∧
    (by_ = .core → regionOf a = some .store → s.reaches .store a = true → lands → ∃ u, ran = .next u ∧
      u = { s.setWord a w with regs := u.regs, drawn := u.drawn } ∧ ∀ k, k ≠ blk 0x38 0x018 → u.reg k = s.reg k) ∧
    (∀ r, regionOf a = some r → s.reaches r a = false →
      ran = .next (match by_ with | .host => s.hostFault 0x02 a | .core => s)) ∧
    (regionOf a = none → ran = .next (match by_ with | .host => s.hostFault 0x01 a | .core => s))

/-- RC_READ, LATCHING_READ (R5, R32, R33, R341): a read of a read-to-clear register returns its old value and clears it, to 1 with a coincident
increment; the system counter's low word captures the whole counter for that requester, whose read of the high word returns what was captured.
WIDE_WRITE (R34): the low word of ALIGN_VALUE, of a commit time or of an engine's start tick is held; the write of the high word takes both, or leaves
the low word at its present value where none was written since the last transfer. Through APPLYING the host's wait (R58). Rests on the model's
readings and choices of log entries 9, 54. -/
def Obligations.ReadsClearLatchAndWideWritesTakeEffectWhole : Prop :=
  (∀ (by_ : Requester) (addr : Addr) (hit : Bool) (t : Nat) (s0 : State),
      let s := s0.upTo t
      let a := wordOf addr.toNat
      let b := a / 0x1000
      (by_ = .host → s.loader.st ≠ .applying) →
      (regionOf a = some (.control b) → (b = 0x00 ∨ b = 0x32 ∨ (0x40 ≤ b ∧ b < 0x60)) → s.reaches (.control b) a = true →
        (rowAt a).rc = 0xFFFFFFFF → s.bad a = false →
        exec (.rcRead by_ addr hit t) s0 = .next ((s.setReg a (if hit then 1 else 0)).answer (s.reg a))) ∧
      (a = 0x3010 → s.bad a = false → ∃ u, exec (.latchingRead by_ addr t) s0 = .next u ∧
        u.readData = BitVec.ofNat 32 s.sysCount ∧ u.latched by_ 0x3014 = BitVec.ofNat 32 (s.sysCount / 2 ^ 32) ∧
        (∀ k, k ≠ by_ → u.latched k 0x3014 = s.latched k 0x3014) ∧
        u = { s with readData := u.readData, hostLatch := u.hostLatch, coreLatch := u.coreLatch }) ∧
      (a = 0x3014 → s.bad a = false → exec (.rcRead by_ addr hit t) s0 = .next (s.answer (s.latched by_ a)))) ∧
  (∀ (by_ : Requester) (low high : Addr) (w : Word) (t : Nat) (s0 : State),
      let s := s0.upTo t
      let a := high.toNat
      (by_ = .host → s.loader.st ≠ .applying) →
      (a = 0x301C ∨ a = 0xA018 ∨ ∃ e : Fin 32, a = engReg e 0x024 ∧ s.unitOn (e / 4 + 1) = true) → low.toNat + 4 = a →
      exec (.wideWrite by_ low w t) s0 = .next { s with writeLatch := put none s.writeLatch low.toNat (some w) } ∧
      ∃ u, exec (.wideWrite by_ high w t) s0 = .next u ∧
        u = { s with regs := u.regs, parityBad := u.parityBad, writeLatch := put none s.writeLatch low.toNat none } ∧
        u.reg a = w &&& 0xFFFF ∧ u.reg low.toNat = (look none s.writeLatch low.toNat).getD (s.reg low.toNat) ∧
        ∀ k, k ≠ a → k ≠ low.toNat → u.reg k = s.reg k)

/-- FRAME_MARK (R337 to R339): in TRACKING a mark less than 0.75P after the reference is a glitch and counts; from there on it is a tick: it becomes
the reference, the interval since the last real tick enters the history of at most 16, whose mean is P, and the members of the timebase do what they
do at a tick, up to P + P/16 after the reference, where the flywheel makes its tick (R338). In ACQUIRE and HOLD a mark that does not end the fourth
agreeing interval only adds its interval. Rests on the model's readings and choices of log entry 43. -/
def Obligations.FrameMarksTickOrCount : Prop :=
  ∀ (n : Fin 4) (t : Nat) (s0 : State),
    let s := s0.upTo t
    s.tbBad n = false → s.marksSeen n = true → s.eclkRuns = true → (n = 0 → fld (s.control 0x0F8) 9 0 = 0) → s.tickShiftOf n = 0 →
    let now := s.now
    let x := s.tb n
    let since := ((now - x.ref : Nat) : Rat)
    (x.st = .tracking → since < 3 / 4 * x.period → exec (.frameMark n t) s0 =
      .next ((s.setTb n { x with glitched := true, lastMark := some now }).bump (blk 3 (0x50 + 32 * n)))) ∧
    (∀ r, x.st = .tracking → 3 / 4 * x.period ≤ since → since ≤ 17 / 16 * x.period → x.closeRun < 16 → x.realTick = some r → ∃ v : State,
      let hist := ((now - r) :: x.hist).take 16
      exec (.frameMark n t) s0 = .next ((v.tickUnits n).mapTb n fun y => { y with lastMark := some now }) ∧
      (v.tb n).tickNo = x.tickNo + 1 ∧ (v.tb n).st = .tracking ∧ (v.tb n).lastTick = now ∧ (v.tb n).ref = now ∧
      (v.tb n).hist = hist ∧ (v.tb n).period = ((hist.foldl (· + ·) 0 : Nat) : Rat) / hist.length ∧
      v.engines = s.engines ∧ ((∀ p, (s.port p).stampAt ≠ some now) → ∀ p, v.port p = s.port p) ∧ v.mem = s.mem ∧
      (n = 0 → s.alignAt = none → v.tickCount = s.tickCount + 1) ∧ (n ≠ 0 → v.tickCount = s.tickCount)) ∧
    (x.st = .acquire ∨ x.st = .hold → x.acq.length < 3 → exec (.frameMark n t) s0 = .next (s.setTb n { x with
      acq := (match x.lastMark with | some m => ((now - m) :: x.acq).take 4 | none => []), lastMark := some now }))

/-- FLYWHEEL_START, FLYWHEEL_TICK (R338): with no mark by P + P/16 after the reference a tick is made and the timebase is in FLYWHEEL, counted and
flagged; P after the last tick another is made; when the 257th falls due there is no tick but HOLD, counted and flagged. Rests on the model's readings
and choices of log entry 43. -/
def Obligations.FlywheelTicksThenHolds : Prop :=
  ∀ (n : Fin 4) (t : Nat) (s0 : State),
    let s := s0.upTo t
    s.tbBad n = false → s.tickShiftOf n = 0 →
    let now := s.now
    let x := s.tb n
    let count := s.reg (blk 3 (0x58 + 32 * n))
    let since := ((now - x.ref : Nat) : Int)
    (x.st = .tracking → x.closeRun < 16 → ⌊17 / 16 * x.period⌋ ≤ since → ∃ v : State,
      exec (.flywheelStart n t) s0 = .next (v.tickUnits n) ∧ (v.tb n).st = .flywheel ∧ (v.tb n).fly = 1 ∧
      (v.tb n).tickNo = x.tickNo + 1 ∧ (v.tb n).lastTick = now ∧ (v.tb n).ref = now ∧ (v.tb n).period = x.period ∧
      (v.tb n).hist = x.hist ∧ v.engines = s.engines ∧ v.mem = s.mem ∧
      (count ≠ 0xFFFFFFFF → v.reg (blk 3 (0x58 + 32 * n)) = count + 1) ∧ v.event 3 4 = true) ∧
    (x.st = .flywheel → x.fly < 256 → ⌊x.period⌋ ≤ since → ∃ v : State,
      exec (.flywheelTick n t) s0 = .next (v.tickUnits n) ∧ (v.tb n).st = .flywheel ∧ (v.tb n).fly = x.fly + 1 ∧
      (v.tb n).tickNo = x.tickNo + 1 ∧ (v.tb n).lastTick = now ∧ (v.tb n).period = x.period ∧ (v.tb n).hist = x.hist ∧
      v.engines = s.engines ∧ v.mem = s.mem ∧ (count ≠ 0xFFFFFFFF → v.reg (blk 3 (0x58 + 32 * n)) = count + 1)) ∧
    (x.st = .flywheel → 256 ≤ x.fly → ⌊x.period⌋ ≤ since → ∃ u, exec (.flywheelTick n t) s0 = .next u ∧ (u.tb n).st = .hold ∧
      (u.tb n).tickNo = x.tickNo ∧ (u.tb n).period = x.period ∧ u.event 3 5 = true ∧ u.tickCount = s.tickCount ∧
      (s.reg (blk 3 (0x5C + 32 * n)) ≠ 0xFFFFFFFF → u.reg (blk 3 (0x5C + 32 * n)) = s.reg (blk 3 (0x5C + 32 * n)) + 1) ∧
      (∀ e, u.eng e = s.eng e ∨ u.eng e = { s.eng e with dueAt := none }) ∧ u.mem = s.mem)

/-- ALIGN, ALIGN_LOAD (R342): a request keeps ALIGN_VALUE and its moment and replaces an earlier one, and through APPLYING it waits (R58); the first
TB0 tick that begins more than 128 ECLK cycles after it, here one made of a frame mark, has that value as its tick count; then ALIGN_COUNT counts and
ALIGNED sets, whatever the timebase has done since, which is the model's reading (log entry 43). Before such a tick, and so while TB0 holds, the load
waits: that the command then does nothing is the model's convention (log entry 34). -/
def Obligations.AlignLoadsTheTickCount : Prop :=
  ∀ (t : Nat) (s0 : State),
    let s := s0.upTo t
    let x := s.tb 0
    (s.loader.st ≠ .applying → exec (.align t) s0 = .next { s with alignAt := some (s.alignValue, s.now) }) ∧
    (∀ v r, s.alignAt = some (v, r) → s.tbBad 0 = false → s.marksSeen 0 = true → s.eclkRuns = true → fld (s.control 0x0F8) 9 0 = 0 →
      s.tickShiftOf 0 = 0 → x.st = .tracking → 3 / 4 * x.period ≤ ((s.now - x.ref : Nat) : Rat) →
      ((s.now - x.ref : Nat) : Rat) ≤ 17 / 16 * x.period → x.lastTick ≤ r + 128 → r + 128 < s.now →
      ∃ u, exec (.frameMark 0 t) s0 = .next u ∧ (u.tb 0).tickNo = x.tickNo + 1 ∧ u.tickCount = v) ∧
    (∀ v r, s.alignAt = some (v, r) → r + 128 < x.lastTick →
      ∃ u, exec (.alignLoad t) s0 = .next u ∧ u.tickCount = s.tickCount ∧ u.alignAt = none ∧
        u.reg (blk 3 0x024) = s.reg (blk 3 0x024) + 1 ∧ u.event 3 1 = true ∧ u.mem = s.mem ∧
        ((∀ e, s.engTb e = 0 → (s.eng e).st ≠ .armed) → u.engines = s.engines)) ∧
    ((s.alignAt = none ∨ ∃ v r, s.alignAt = some (v, r) ∧ x.lastTick ≤ r + 128) →
      exec (.alignLoad t) s0 = .next s)

/-- FRD, FWR (R130, R131, R174 to R178): a far access in the cycle after one, or with 8 held, is no operation and sets CTRL_FAULT; else it counts as
this cycle's far access, and puts a request for index (ORIGIN + t) mod LEN into the queue: a read with its deadline, a write of Dx where the engine
owns the drawer. A drawer of no words gives a read zero at its deadline, and a write that is not the owner's is fenced and counted. FAR_RETURN,
FAR_STALL, FAR_WRITE_LAND (R79, R130, R176, R177, R185, R508): the oldest request of its bank returns its word once its hold is over, and the read
gives it, unless its engine has left RUNNING since (R181), or the interpolation of two that may come apart, to G at the deadline or at arrival if that
is later; a read that has not arrived at a deadline inside a Round stalls the engine, with LATE set and counted once; a write leaves the queue with
its word in the drawer. That an access which may not execute raises nothing but CTRL_FAULT, and one to no drawer nothing at all, even for a drawer
that is another's, is the model's order of R178's conditions (log entry 68). Rests on the model's readings and choices of log entries 5, 34, 37. -/
def Obligations.FarAccessesQueueAndComplete : Prop :=
  (∀ (e : Fin 32) (s : State),
      let w := s.engWord e
      let x := s.eng e
      let d := s.farDrawer e (wf w 15 14)
      let at_ := fun k => drawerMem d (locBase (s.loc d) + (s.origin d + (look 0 x.fTap (wf w 15 14)).toNat + k) % s.len d)
      let open_ := x.far.length < 8 ∧ ∀ c, x.lastFar = some c → c + 1 ≠ x.cyc
      let exists_ := s.farNone d = false ∧ s.drawerBad d = false
      let frac := (look 0 x.fFrac (wf w 15 14)).toNat
      let read := fun (w1 : Option Nat) (both : Bool) => FarReq.mk true x.cyc (x.cyc + wf w 8 0) (wf w 13 11) (some (at_ 0)) w1
        s.engHold s.engHold 0 0 both frac 0 none 0 false false false
      let left := fun (u : State) => u = { s with engines := u.engines } ∧ ∀ k, k ≠ e.val → u.eng k = s.eng k
      (s.issues e .ctrl 3 = true → ¬open_ → exec (.frd e) s = .next ((s.engRaise e 6).slotDone e [.ctrl])) ∧
      (s.issues e .ctrl 4 = true → ¬open_ → exec (.fwr e) s = .next ((s.engRaise e 6).slotDone e [.ctrl])) ∧
      (s.issues e .ctrl 3 = true → open_ → s.farNone d = true → ∃ u : State, exec (.frd e) s = .next (u.slotDone e [.ctrl]) ∧ left u ∧
        u.eng e = { x with lastFar := some x.cyc, landings := insLanding ⟨x.cyc + wf w 8 0, x.cyc, 3, .g (wf w 13 11), 0, false⟩ x.landings }) ∧
      (s.issues e .ctrl 3 = true → open_ → exists_ → wf w 10 10 = 0 → s.memOff (at_ 0) = false →
        ∃ u : State, exec (.frd e) s = .next (u.slotDone e [.ctrl]) ∧ left u ∧
          u.eng e = { x with lastFar := some x.cyc, far := x.far ++ [read none false] }) ∧
      (s.issues e .ctrl 3 = true → open_ → exists_ → wf w 10 10 = 1 → s.memOff (at_ 0) = false → s.memOff (at_ 1) = false →
        ∃ u : State, exec (.frd e) s = .next (u.slotDone e [.ctrl]) ∧ left u ∧
          u.eng e = { x with lastFar := some x.cyc, far := x.far ++ [read (some (at_ 1)) true] }) ∧
      (s.issues e .ctrl 4 = true → open_ → s.farNone d = true → ∃ u : State, exec (.fwr e) s = .next (u.slotDone e [.ctrl]) ∧ left u ∧
        u.eng e = { x with lastFar := some x.cyc }) ∧
      (s.issues e .ctrl 4 = true → open_ → exists_ → s.memOff (at_ 0) = false → locOwner (s.loc d) = e →
        ∃ u : State, exec (.fwr e) s = .next (u.slotDone e [.ctrl]) ∧ left u ∧ u.eng e = { x with
          lastFar := some x.cyc,
          far := x.far ++ [⟨false, x.cyc, 0, 0, some (at_ 0), none, s.engHold, 0, 0, 0, false, 0, x.dreg (wf w 13 10), none, 0, false, false,
            false⟩] }) ∧
      (s.issues e .ctrl 4 = true → open_ → exists_ → s.memOff (at_ 0) = false → locOwner (s.loc d) ≠ e →
        exec (.fwr e) s = .next ((((((s.setEng e { x with lastFar := some x.cyc }).engRaise e 7).bump (engReg e 0x048)).bump
          (blk 0x38 0x01C)).raise 0x38 1).slotDone e [.ctrl]))) ∧
  (∀ (e : Fin 32) (q : FarReq) (s : State),
      let x := s.eng e
      s.engStructBad e = false → x.structSeen = false → x.far = [q] → x.st = .running → x.inRound = true → q.read = true → q.arrived = none →
        q.passed = false → q.counted = false → q.deadline ≤ x.cyc →
        exec (.farStall e) s = .next ((s.setEng e { x with stalled := true, far := [{ q with counted := true }] }).lateMark e)) ∧
  (∀ (e : Fin 32) (i : Fin 8) (q : FarReq) (a b : Nat) (t : Nat) (s0 : State),
      let s := s0.upTo t
      let x := s.eng e
      let extra := fld (s.acting (0x020 + 4 * e)) 7 0
      let may := fun (q : FarReq) (second : Bool) => x.farOldest i q second = true ∧ q.eligible second t extra = true
      let kept := fun (u : State) => u.mem = s.mem ∧ u.now = s.now ∧ ∀ k, k ≠ e.val → u.eng k = s.eng k
      let gives := fun (word : Option (Fin 2)) (q' : FarReq) (v : Word) =>
        ∃ (u : State) (y : Engine), exec (.farReturn e ⟨i, word⟩ t) s0 = .next (u.settle e) ∧ u.eng e = y ∧ kept u ∧
          y.far = x.far.set i { q' with arrived := some t, value := v } ∧
          y.landings = insLanding ⟨q.deadline, q.issued, 3, .g q.g, v.setWidth 72, false⟩ x.landings ∧ y.d = x.d ∧ y.g = x.g
      let waits := x.far[i.val]? = some q ∧ q.read = true ∧ q.arrived = none ∧ q.issued < t
      (waits → q.dead = false → t ≤ q.deadline → q.interp = false → q.w0 = some a → q.w1 = none → may q false → s.memOff a = false →
        gives none { q with w0 := none, v0 := s.wordAt a } (s.wordAt a)) ∧
      (waits → q.dead = false → t ≤ q.deadline → q.interp = true → q.w0 = some a → q.w1 = some b → may q false → may { q with w0 := none } true →
        s.memOff a = false → s.memOff b = false →
        gives none { q with w0 := none, v0 := s.wordAt a, w1 := none, v1 := s.wordAt b } (interpolate (s.wordAt a) (s.wordAt b) q.frac)) ∧
      (waits → q.w0 = some a → q.w1 = some b → may q false → s.memOff a = false → ∃ u, exec (.farReturn e ⟨i, some 0⟩ t) s0 = .next u ∧
        kept u ∧ u.eng e = { x with far := x.far.set i { q with w0 := none, v0 := s.wordAt a } }) ∧
      (waits → q.dead = false → t ≤ q.deadline → q.interp = true → q.w0 = none → q.w1 = some b → may q true → s.memOff b = false →
        gives (some 1) { q with w1 := none, v1 := s.wordAt b } (interpolate q.v0 (s.wordAt b) q.frac)) ∧
      (waits → q.dead = true → q.interp = false → q.w0 = some a → q.w1 = none → may q false → ∃ u, exec (.farReturn e ⟨i, none⟩ t) s0 = .next u ∧
        kept u ∧ u.eng e = { x with far := x.far.eraseIdx i }) ∧
      (x.far[i.val]? = some q → q.read = false → q.w0 = some a → x.farOldest i q false = true →
        (q.hold0 = 0 ∨ q.issued + reqArrival a + bankCycles a q.hold0 ≤ t) → s.memOff a = false →
        ∃ u : State, exec (.farWriteLand e i t) s0 = .next (u.setWord a q.data) ∧ kept u ∧ u.storeEpoch = s.storeEpoch ∧
          u.eng e = { x with far := x.far.eraseIdx i }))

/-- STAGE_ENTRY_WRITE, STAGE_ARM, STAGE_CANCEL, STAGE_CHECK_END (R193 to R195, R201, R202): outside APPLYING (R58), a legal write of a field or a
CANCEL returns the entry to IDLE, ARM starts its checks, and their end leaves it READY, or REFUSED with its CAUSE and STAGE_REFUSED; a drawer that
does not exist gives cause 1, a range beyond its memory cause 2. Rests on the model's readings and choices of log entry 34. -/
def Obligations.StageEntriesAreChecked : Prop :=
  ∀ (n : Fin 16) (f : Fin 3) (w : Word) (t : Nat) (s0 : State),
    let s := s0.upTo t
    let a := blk 0x38 (0xD00 + 16 * n + 4 * f)
    let d := s.stageDrawer n
    let base := locBase (s.reg (blk 0x38 (0xD00 + 16 * n + 4)))
    let len := fld (s.reg (blk 0x38 (0xD00 + 16 * n + 8))) 22 0
    let x := s.stage n
    let refused := fun (c : BitVec 4) => (s.setStage n ⟨.refused, c, x.appliedAt⟩).raise 0x38 3
    s.loader.st ≠ .applying →
    (legalWrite a (rowAt a).rw w = true → exec (.stageEntryWrite n f w t) s0 =
      .next ((s.setReg a (w &&& (rowAt a).rw)).setStage n ⟨.idle, 0, x.appliedAt⟩)) ∧
    (legalWrite a (rowAt a).rw w = false → exec (.stageEntryWrite n f w t) s0 = .next s) ∧
    exec (.stageArm n t) s0 = .next (s.setStage n ⟨.checking, 0, x.appliedAt⟩) ∧
    exec (.stageCancel n t) s0 = .next (s.setStage n ⟨.idle, 0, x.appliedAt⟩) ∧
    (x.st = .checking → s.stageCause n = 0 →
      exec (.stageCheckEnd n t) s0 = .next (s.setStage n ⟨.ready, 0, x.appliedAt⟩)) ∧
    (x.st = .checking → s.stageCause n ≠ 0 → exec (.stageCheckEnd n t) s0 = .next (refused (BitVec.ofNat 4 (s.stageCause n)))) ∧
    (x.st = .checking → d.store = false → 64 ≤ d.n → exec (.stageCheckEnd n t) s0 = .next (refused 1)) ∧
    (x.st = .checking → d.store = true → 4194304 < base + len → exec (.stageCheckEnd n t) s0 = .next (refused 2)) ∧
    (x.st = .checking → d.store = false → d.n < 64 → 524288 < base + len ∨ 524287 < base →
      exec (.stageCheckEnd n t) s0 = .next (refused 2))

/-- SHELF_WRITE, RESHELVE_END (R203, R205, R206): with its lane idle a write to an engine's Shelf view lands in the bank that is not the Table and is
dirty; while the lane is busy it waits behind what waits; the end of a re-shelve leaves each of its words equal in both banks, no longer dirty, and
the Table as it was. The core and the lanes write so while FCLK keeps its limit (R326); a host's write waits through APPLYING (R58). Rests on the
model's readings and choices of log entries 34, 38. -/
def Obligations.ShelfWritesAndReshelve : Prop :=
  ∀ (by_ : Requester) (addr : Addr) (e : Fin 32) (w : Word) (t : Nat) (s0 : State),
    let s := s0.upTo t
    let a := wordOf addr.toNat
    let i := yIndex a
    let x := s.eng e
    let shelf := fun k => yAddr e (!x.tableBank) k
    let table := fun k => yAddr e x.tableBank k
    let clean := match by_ with | .host => s.loader.st ≠ .applying | .core => s.fclkFast = false
    (clean → regionOf a = some (.yshelf e) → s.unitOn (e / 4 + 1) = true → x.lane.job = .idle →
      ∃ u, exec (.shelfWrite by_ addr w t) s0 = .next u ∧ u.wordAt (shelf i) = w ∧ (∀ k, k ∈ (u.eng e).lane.dirty ↔ k = i ∨ k ∈ x.lane.dirty) ∧
        (∀ k, (k < shelf i ∨ shelf i + 4 ≤ k) → u.byteAt k = s.byteAt k) ∧ (u.eng e).tableBank = x.tableBank ∧
        (∀ k, k ≠ e.val → u.eng k = s.eng k) ∧ u.regs = s.regs) ∧
    (clean → regionOf a = some (.yshelf e) → s.unitOn (e / 4 + 1) = true → x.lane.job ≠ .idle → exec (.shelfWrite by_ addr w t) s0 =
      .next (s.setEng e { x with lane := { x.lane with waiting := x.lane.waiting ++ [.write i w] } })) ∧
    (∀ l, x.lane.job = .reshelve l → x.lane.waiting = [] → (∀ k ∈ l, k < 8192) → (∀ k, s.bad k = false) → s.lanesRun = true →
      s.fclkFast = false → s.core.autoWait = [] →
      ∃ u, exec (.reshelveEnd (.engine e) t) s0 = .next u ∧ (∀ k ∈ l, u.wordAt (shelf k) = s.wordAt (table k)) ∧
        (∀ k, k < 8192 → u.wordAt (table k) = s.wordAt (table k)) ∧ (∀ k, k < 8192 → k ∉ l → u.wordAt (shelf k) = s.wordAt (shelf k)) ∧
        (∀ k, k ∈ (u.eng e).lane.dirty ↔ k ∈ x.lane.dirty ∧ k ∉ l) ∧ (u.eng e).lane.job = .idle ∧ u.regs = s.regs)

/-- COMMIT_NOW, SCHEDULE, CANCEL, REVERT, REVERT_DONE (R210, R212, R217 to R219), outside APPLYING (R58): the group's outstanding commit, which any of
them replaces or removes; a C not later than the present tick count is committed now, flagged and counted; a REVERT returns an engine's staged pointer
words and has its lane copy Table to Shelf, and REVERT_DONE sets with the last lane, or at once for a group that runs none. COMMIT_DUE (R88, R204,
R213, R219): a due group of one engine that is not RUNNING exchanges the engine's Y banks, makes its staged pointer words live, starts the re-shelve
of the dirty words, and is complete; while that engine's lane is busy the group defers, flagged and counted. Rests on the model's readings and choices
of log entry 38. -/
def Obligations.CommitsMoveTheirGroupAndTakeEffect : Prop :=
  (∀ (g e : Fin 32) (t : Nat) (s0 : State),
      let s := s0.upTo t
      let c := fld (s.reg (blk 0x0A 0x018)) 15 0 * 2 ^ 32 + (s.reg (blk 0x0A 0x014)).toNat
      let x := s.eng e
      let now := fun (st : GroupState) (sched : Option Nat) => s.setGrp g ⟨st, sched, s.tickNumbers, [], [], [], []⟩
      s.loader.st ≠ .applying →
      exec (.commitNow g t) s0 = .next (now .pending none) ∧
      (s.tickCount.toNat < c → exec (.schedule g t) s0 = .next (((now .scheduled (some c)).setReg (blk 0x0A (0x110 + 32 * g))
        (BitVec.ofNat 32 (c % 2 ^ 32))).setReg (blk 0x0A (0x114 + 32 * g)) (BitVec.ofNat 32 (c / 2 ^ 32)))) ∧
      (c ≤ s.tickCount.toNat → exec (.schedule g t) s0 = .next (((now .pending none).raise 0x0A 2).bump (blk 0x0A 0x034))) ∧
      exec (.cancel g t) s0 = .next (s.setGrp g Group.reset) ∧
      (s.members g = [] → (∀ l, (s.lane l).reverts g = false) →
        exec (.revert g t) s0 = .next ((s.setGrp g Group.reset).raise 0x0A 5)) ∧
      (s.members g = [.engine e] → x.lane.job = .idle → ∃ u, exec (.revert g t) s0 = .next u ∧ u.grp g = Group.reset ∧
        (u.eng e).lane = { x.lane with job := .revert g } ∧
        (∀ n k, n < 8 → k < 3 → u.reg (engReg e (0x100 + 16 * n + 4 * k)) = look 0 x.ptrLive (4 * n + k)) ∧ u.mem = s.mem) ∧
      (x.lane.job = .revert g → x.lane.waiting = [] → s.lanesRun = true → s.fclkFast = false → s.core.autoWait = [] →
        (∀ k ∈ x.lane.dirty, k < 8192) → (∀ k, s.bad k = false) → (∀ l, l ≠ .engine e → (s.lane l).reverts g = false) →
        ∃ u, exec (.revertDone (.engine e) t) s0 = .next u ∧ (u.eng e).lane.job = .idle ∧ (u.eng e).lane.dirty = [] ∧ u.event 0x0A 5 = true ∧
          ∀ k ∈ x.lane.dirty, u.wordAt (yAddr e (!x.tableBank) k) = s.wordAt (yAddr e x.tableBank k))) ∧
  (∀ (g e : Fin 32) (tb : Fin 4) (t : Nat) (s0 : State),
      let s := s0.upTo t
      s.groupDue g tb = true → s.members g = [.engine e] →
      (∀ k, k < 3 → s.bad (blk 0x0A (0x100 + 32 * g + 4 * k)) = false) → s.domain (e / 4 + 1) = true → s.loader.st ≠ .applying →
      let x := s.eng e
      let c := s.tickCount.toNat
      (x.st ≠ .running → x.lane.job = .idle → x.lane.exchanged ≠ some (s.tb (s.engTb e)).tickNo → x.lane.landedNow s.now = [] →
        ∃ u, exec (.commitDue g tb t) s0 = .next u ∧ (u.eng e).tableBank = !x.tableBank ∧ (u.eng e).lane.job = .reshelve x.lane.dirty ∧
          (∀ n k, n < 8 → k < 3 → look 0 (u.eng e).ptrLive (4 * n + k) = s.reg (engReg e (0x100 + 16 * n + 4 * k))) ∧
          (∀ k, k ≠ e.val → u.eng k = s.eng k) ∧ u.mem = s.mem ∧ u.grp g = Group.reset ∧
          u.reg (blk 0x0A (0x118 + 32 * g)) = s.reg (blk 0x0A (0x118 + 32 * g)) + 1 ∧ u.event 0x0A 1 = true ∧
          bit (u.reg (blk 0x0A 0x020)) g = true ∧ u.reg (blk 0x0A 0x038) = BitVec.ofNat 32 (c % 2 ^ 32) ∧
          u.reg (blk 0x0A 0x03C) = BitVec.ofNat 32 (c / 2 ^ 32 + g * 2 ^ 16)) ∧
      (x.lane.job ≠ .idle → x.lane.exchanged ≠ some (s.tb (s.engTb e)).tickNo →
        ∃ u, exec (.commitDue g tb t) s0 = .next u ∧ (u.grp g).st = .deferred ∧ u.event 0x0A 3 = true ∧ u.engines = s.engines ∧ u.mem = s.mem ∧
          (s.reg (blk 0x0A 0x030) ≠ 0xFFFFFFFF → u.reg (blk 0x0A 0x030) = s.reg (blk 0x0A 0x030) + 1)))

/-- SINK_DELIVERY (R10, R232): with nothing in progress on the sinks, each sink of the timebase takes the source that its patch entry names, as it
stood at the tick's step 1, or the result of its mix column, or zero; with SW13 off every sink of the timebase takes zero. Rests on the model's
readings and choices of log entries 39, 40. -/
def Obligations.SinksTakeWhatTheyArePatchedTo : Prop :=
  ∀ (tb : Fin 4) (t : Nat) (s0 : State),
    let s := s0.upTo t
    s.holding tb = false →
    let r := s.router
    let entry := fun k => s.tableWord (0x201000 + 4 * k)
    let still := s.gated 9 = false ∧ r.sinkFade = [] ∧ r.muteFade = [] ∧ r.muted = [] ∧ r.patchOld = [] ∧ r.zc = [] ∧ r.muteAt = [] ∧
      s.core.crossings = []
    (s.domain 13 = true → still → ∃ u, exec (.sinkDelivery tb t) s0 = .next u ∧ ∀ k, k < 1096 → s.sinkTb k = tb →
      (fld (entry k) 31 30 = 1 → look 0 u.router.sink k = look 0 (look [] r.snap tb) (fld (entry k) 10 0)) ∧
      (fld (entry k) 31 30 = 2 → tb = 0 → look 0 u.router.sink k = look 0 r.computed (fld (entry k) 10 0)) ∧
      (fld (entry k) 31 30 = 2 → tb ≠ 0 → look 1 r.mixFade tb = 1 → s.holding 0 = false →
        look 0 u.router.sink k = look 0 r.col (fld (entry k) 10 0)) ∧
      (fld (entry k) 31 30 = 0 → look 0 u.router.sink k = 0)) ∧
    (s.domain 13 = false → ∃ u, exec (.sinkDelivery tb t) s0 = .next u ∧ ∀ k, s.sinkTb k = tb → look 0 u.router.sink k = 0)

/-- MATRIX_COMPUTE (R230, R231, R234): with no ramp in progress, a column's sum is the exact sum over its active crosspoints of gain times the value
that the row selects from the sources of TB0's step 1. Rests on the model's readings and choices of log entry 39. -/
def Obligations.ColumnsSumGainsTimesRows : Prop :=
  ∀ (t : Nat) (s0 : State),
    let s := s0.upTo t
    s.domain 13 = true → s.holding 0 = false → s.gated 9 = false →
      s.router.computedAt ≠ some (s.tb 0).tickNo → s.router.xpt = [] → s.router.rowFade = [] →
    let row := fun i => s.tableWord (0x200000 + 4 * i)
    let value := fun i => if bit (row i) 31 then look 0 (look [] s.router.snap 0) (fld (row i) 10 0) else 0
    let entry := fun i => s.tableWord (0x100000 + 4 * i)
    let gain := fun i => if bit (entry i) 31 then ((entry i).setWidth 24 : BitVec 24).toInt else 0
    ∃ u, exec (.matrixCompute t) s0 = .next u ∧ u.router.computedAt = some (s.tb 0).tickNo ∧ u.router.sink = s.router.sink ∧ u.mem = s.mem ∧
      ∀ c, (look (0, 0) u.router.sums c).1 =
        ((s.activeXpts.filter fun i => i / 512 == c).map fun i => gain i * (value (i % 512)).toInt).sum

/-- MUTE_WRITE, ZC_TIMEOUT, FIRE, STREAM_PREFETCH, STREAM_ARRIVAL (R11, R244, R246, R252, R254, R508): outside APPLYING (R58) the MUTE word and its
fault with SW13 off; a change that has waited its TIMEOUT applies and is counted; a generator fires; a stream's read for index (ORIGIN - 1) mod LEN,
and its word, or its miss, counted; a word under a hold arrives no sooner than the hold lets it. Rests on the model's readings and choices of log
entries 34, 39. -/
def Obligations.RouterCommands : Prop :=
  ∀ (n : Fin 35) (z : Fin 16) (k : Fin 8) (m : Fin 64) (w : Word) (t : Nat) (s0 : State),
    let s := s0.upTo t
    let a := blk 0x32 (0x200 + 4 * n)
    let b := blk 0x31 (0x044 + 8 * k)
    let r := s.router
    let zc := s.zcWord z
    let direct := s.loader.st ≠ .applying
    (direct → s.unitOn 13 = true → exec (.muteWrite n w t) s0 = .next (s.setReg a (w &&& (if n = 34 then 0xFF else 0xFFFFFFFF)))) ∧
    (direct → s.unitOn 13 = false → exec (.muteWrite n w t) s0 = .next (s.hostFault 0x02 a)) ∧
    (∀ v ticks, look none r.zc z = some ⟨false, some v, ticks⟩ →
      (fld zc 24 16 : Rat) * s.nominalHz (s.sinkTb (fld zc 10 0)) ≤ 1000 * (ticks : Rat) →
      ∃ u, exec (.zcTimeout z t) s0 = .next u ∧ look false u.router.muted (fld zc 10 0) = v ∧ look none u.router.zc z = none ∧
        u.event 0x32 1 = true ∧ (s.reg (blk 0x32 0x014) ≠ 0xFFFFFFFF → u.reg (blk 0x32 0x014) = s.reg (blk 0x32 0x014) + 1)) ∧
    (direct → s.unitOn 13 = true → 6 ≤ k.val → bit w 31 = true → ∃ u, exec (.fire k w t) s0 = .next u ∧ (u.gen k).fire = true ∧
      u = { s.setReg b (w &&& 0x1FF) with router := u.router } ∧ u.router.sink = r.sink ∧ u.router.src = r.src) ∧
    (direct → s.unitOn 13 = true → (k.val < 6 ∨ bit w 31 = false) → exec (.fire k w t) s0 = .next (s.setReg b (w &&& 0x1FF))) ∧
    (∀ d, s.domain 13 = true → s.gated 9 = false → s.streamDrawer false m = some d → s.drawerBad d = false →
      let p := drawerMem d (locBase (s.loc d) + (s.origin d + s.len d - 1) % s.len d)
      s.memOff p = false → exec (.streamPrefetch m t) s0 =
        .next { s with router := { r with prefetch := put none r.prefetch m (some ⟨some p, s.now, s.lowerHold 0, none⟩) } }) ∧
    (∀ p issued hold, look none r.prefetch m = some ⟨some p, issued, hold, none⟩ → s.memOff p = false →
      (hold = 0 ∨ issued + reqArrival p + bankCycles p hold + reqReturn p ≤ s.now) →
      ∃ u, exec (.streamArrival m false t) s0 = .next u ∧ u.mem = s.mem ∧
        u.router = { r with prefetch := put none r.prefetch m (some ⟨some p, issued, hold, some (s.wordAt p)⟩) }) ∧
    (∀ p issued hold, look none r.prefetch m = some ⟨some p, issued, hold, none⟩ → hold ≠ 0 →
      s.now < issued + reqArrival p + bankCycles p hold + reqReturn p → exec (.streamArrival m false t) s0 = .next s) ∧
    (∀ p issued hold, look none r.prefetch m = some ⟨some p, issued, hold, none⟩ → exec (.streamArrival m true t) s0 =
      .next (({ s with router := { r with prefetch := put none r.prefetch m none } }.raise 0x31 2).bump (blk 0x30 0x024)))

/-- TDM_ENABLE, TDM_DISABLE, TDM_MARK_TIMEOUT, TDM_STOP_TIMEOUT (R11, R276, R278): outside APPLYING (R58) the port's next state by its present one;
from DISABLED it drives zeros; with the domain off a write of CTRL faults; where no marks come a transmit fade is at 0 at once in every state that
fades. MASK_WRITE, STAMP_READ (R11, R282, R286): a mask write is staged, and live at once while the port is DISABLED or FAULTED; a read of STAMP_LO
returns and removes the oldest entry and latches its two higher words, or returns zeros from an empty port. Rests on the model's readings and choices
of log entries 34, 41. -/
def Obligations.TdmPortStatesMasksAndStamps : Prop :=
  (∀ (p : Fin 16) (t : Nat) (s0 : State),
      let s := s0.upTo t
      let x := s.port p
      let on := s.unitOn (if p.val < 8 then 14 else 15) = true
      let a := fun o => blk (0x10 + p) o
      let set := fun v => s.setReg (a 0x014) v
      let cfg := s.reg (a 0x010)
      let silenced := s.host.st = .superseded ∨ s.host.st = .quarantine
      let rest : Option Word := if silenced ∨ bit cfg 10 = true then none else some 0
      let direct := s.loader.st ≠ .applying
      (direct → on → x.st = .disabled → ∃ u, exec (.tdmEnable p t) s0 = .next u ∧ u = { set 1 with ports := u.ports } ∧
        (∀ k, k ≠ p.val → u.port k = s.port k) ∧ u.port p = { Port.reset with
          st := .starting, stamps := x.stamps, stampAt := x.stampAt, rxLive := x.rxLive, txLive := x.txLive, seq := x.seq, next := x.next,
          quiet := decide (s.host.st = .quarantine),
          sdo := (List.range (layoutSlots cfg)).map fun k => if silenced then none else if bit x.txLive k then some 0 else rest, rest := rest }) ∧
      (direct → on → x.st = .stopping → exec (.tdmEnable p t) s0 = .next ((set 1).setPort p { x with restart := true })) ∧
      (direct → on → (x.st = .starting ∨ x.st = .running ∨ x.st = .hold ∨ x.st = .faulted) → exec (.tdmEnable p t) s0 = .next (set 1)) ∧
      (direct → on → (x.st = .starting ∨ x.st = .running ∨ x.st = .hold) → exec (.tdmDisable p t) s0 =
        .next ((set 0).setPort p { x with st := .stopping, count := 0, countTo := none, restart := false })) ∧
      (direct → on → x.st = .stopping → exec (.tdmDisable p t) s0 = .next ((set 0).setPort p { x with restart := false })) ∧
      (direct → on → x.st = .faulted → exec (.tdmDisable p t) s0 = .next ((set 0).setPort p { Port.reset with
        stamps := x.stamps, stampAt := x.stampAt, rxLive := s.reg (a 0x01C), txLive := s.reg (a 0x020) })) ∧
      (direct → on → x.st = .disabled → exec (.tdmDisable p t) s0 = .next (set 0)) ∧
      (direct → ¬on → exec (.tdmEnable p t) s0 = .next (s.hostFault 0x02 (a 0x014)) ∧
        exec (.tdmDisable p t) s0 = .next (s.hostFault 0x02 (a 0x014))) ∧
      (∀ m, x.st = .running → x.lastMark = some m → m + 2 * s.nominal (s.tdmTb p) ≤ s.now →
        ∃ u, exec (.tdmMarkTimeout p t) s0 = .next u ∧ (u.port p).st = .hold ∧ (u.port p).tx.gain = 0 ∧ (u.port p).txFifo = [] ∧
          (u.port p).rxs.fifo = [] ∧ u.event (0x10 + p) 6 = true ∧ (∀ k, k ≠ p.val → u.port k = s.port k) ∧
          (s.reg (a 0x04C) ≠ 0xFFFFFFFF → u.reg (a 0x04C) = s.reg (a 0x04C) + 1)) ∧
      (∀ m, (x.st = .hold ∨ x.st = .stopping ∨ x.st = .faulted) → x.lastMark = some m → m + 2 * s.nominal (s.tdmTb p) ≤ s.now →
        ∃ u, exec (.tdmMarkTimeout p t) s0 = .next u ∧ (u.port p).st = x.st ∧ (u.port p).tx.gain = 0 ∧ (u.port p).lastMark = none ∧
          (u.port p).rxs = x.rxs ∧ (∀ k, k ≠ p.val → u.port k = s.port k) ∧ u.regs = s.regs) ∧
      (x.st = .stopping → x.restart = false → exec (.tdmStopTimeout p t) s0 = .next ((s.setPort p { Port.reset with
        stamps := x.stamps, stampAt := x.stampAt, rxLive := s.reg (a 0x01C), txLive := s.reg (a 0x020) }).raise (0x10 + p) 2))) ∧
  (∀ (by_ : Requester) (p : Fin 16) (w : Word) (t : Nat) (s0 : State),
      let s := s0.upTo t
      s.unitOn (if p.val < 8 then 14 else 15) = true →
      let direct := s.loader.st ≠ .applying
      let x := s.port p
      let a := fun o => blk (0x10 + p) o
      let quiet := x.st = .disabled ∨ x.st = .faulted
      let rx := s.setReg (a 0x01C) w
      let tx := s.setReg (a 0x020) w
      (direct → quiet → exec (.maskWrite p .rx w t) s0 = .next (rx.setPort p { x with rxLive := w }) ∧
        exec (.maskWrite p .tx w t) s0 = .next (tx.setPort p { x with txLive := w })) ∧
      (direct → ¬quiet → exec (.maskWrite p .rx w t) s0 = .next rx ∧ exec (.maskWrite p .tx w t) s0 = .next tx) ∧
      (∀ c q l, (by_ = .host → direct) → x.stamps = (c, q) :: l → ∃ u, exec (.stampRead by_ p t) s0 = .next u ∧ u.readData = c.extractLsb' 0 32 ∧
        u.latched by_ (a 0x05C) = c.extractLsb' 32 32 ∧ u.latched by_ (a 0x060) = q ∧ u.port p = { x with stamps := l } ∧
        ∀ k, k ≠ p.val → u.port k = s.port k) ∧
      ((by_ = .host → direct) → x.stamps = [] → ∃ u, exec (.stampRead by_ p t) s0 = .next u ∧ u.readData = 0 ∧ u.latched by_ (a 0x05C) = 0 ∧
        u.latched by_ (a 0x060) = 0 ∧ u.ports = s.ports))

/-- TDM_FRAME_MARK (R274, R277 to R279): on a RUNNING port that is not aligned, whole and stable, with no mask sequence in progress, the frame that
ends goes behind those that wait, the next transmit frame is taken and sent times the gain, which rises toward 1, and the port stays RUNNING. Rests on
the model's readings and choices of log entries 21, 41. -/
def Obligations.FrameMarkMovesFrames : Prop :=
  ∀ (p : Fin 16) (bits half : Nat) (slots : List Word) (m : Nat) (f : PortFrame) (l : List PortFrame) (t : Nat) (s0 : State),
    let s := s0.upTo t
    let x := s.port p
    let a := fun o => blk (0x10 + p) o
    let cfg := s.reg (a 0x010)
    s.domain (if p.val < 8 then 14 else 15) = true → s.gated (if p.val < 8 then 10 else 11) = false → x.st = .running →
    s.bad (a 0x010) = false → s.tdmAligned p = false → x.lastMark = some m → s.now - m ≤ 2 * s.nominal (s.tdmTb p) →
    layoutShort cfg bits half = false → x.prevBits = some bits → s.rateNear p = some true → s.looped p = false →
    look 0 s.provoked.loopAt p ≤ m →
    x.rxs.fifo.length < 8 → x.seq = none → x.txFifo = f :: l → x.txUnder = false → x.tx.up = true → s.host.st = .normal →
    ∃ u, exec (.tdmFrameMark p bits half slots t) s0 = .next u ∧ (u.port p).st = .running ∧ (u.port p).lastMark = some (s.now) ∧
      (u.port p).rxs.fifo = x.rxs.fifo ++ [layoutWords cfg bits half slots] ∧ (u.port p).txFifo = l ∧
      (u.port p).tx.gain = min 1 (x.tx.gain + x.tx.step) ∧
      (u.port p).sdo = ((List.range (layoutSlots cfg)).map fun k =>
        if bit x.txLive k then some (narrow (f.slots.getD k 0) (u.port p).tx.gain (layoutWidth cfg))
        else if bit cfg 10 then none else some 0) ∧ (u.port p).rest = (if bit cfg 10 then none else some 0) ∧
      u.reg (a 0x034) = BitVec.ofNat 32 (min bits 2047) ∧ (∀ k, k ≠ p.val → u.port k = s.port k) ∧ u.mem = s.mem

/-- BPRX_ENABLE, BPRX_DISABLE, PREAMBLE_TIMEOUT, BPTX_ENABLE, BPTX_DISABLE, SWAP (R11, R296, R308, R309): outside APPLYING (R58) the next state of a
receiver or a transmitter by its present one, and the arming of a swap; a receiver that leaves RUNNING or HOLD gives the DCO's discipline no more
marks (R319). Rests on the model's readings and choices of log entries 34, 42. -/
def Obligations.BiphaseStates : Prop :=
  ∀ (n : Fin 4) (t : Nat) (s0 : State),
    let s := s0.upTo t
    let x := s.rx n
    let y := s.tx n
    let on := s.unitOn 16 = true
    let rx := fun v => s.setReg (blk (0x20 + n) 0x014) v
    let tx := fun v => s.setReg (blk (0x24 + n) 0x014) v
    let direct := s.loader.st ≠ .applying
    let off := fun a => s.hostFault 0x02 a
    let count := fld (s.reg (blk (0x24 + n) 0x018)) 9 0
    let begun := ((tx 1).setTx n { BpTx.reset with st := .starting, swapAt := y.swapAt }).setReg (blk (0x24 + n) 0x028) 0
    (direct → on → x.st = .disabled → exec (.bprxEnable n t) s0 = .next ((rx 1).setRx n { BpRx.reset with st := .searching })) ∧
    (direct → on → x.st ≠ .disabled → exec (.bprxEnable n t) s0 = .next (rx 1)) ∧
    (direct → on → (x.st = .searching ∨ x.st = .running ∨ x.st = .hold) → x.quiet = true →
      exec (.bprxDisable n t) s0 = .next ((((rx 0).discDrop (4 + n)).setRx n BpRx.reset).raise (0x20 + n) 2)) ∧
    (direct → on → (x.st = .searching ∨ x.st = .running ∨ x.st = .hold) → x.quiet = false →
      exec (.bprxDisable n t) s0 = .next ((rx 0).setRx n { x with leaving := true })) ∧
    (direct → on → x.st = .faulted → exec (.bprxDisable n t) s0 = .next (((rx 0).discDrop (4 + n)).setRx n BpRx.reset)) ∧
    (x.st = .running → ∃ u, exec (.preambleTimeout n t) s0 = .next u ∧ (u.rx n).st = .hold ∧ (u.rx n).rxs.fifo = [] ∧
      (u.rx n).a = x.a ∧ (u.rx n).b = x.b ∧ u.event (0x20 + n) 3 = true ∧ (∀ k, k ≠ n.val → u.rx k = s.rx k) ∧
      (s.reg (blk (0x20 + n) 0x040) ≠ 0xFFFFFFFF → u.reg (blk (0x20 + n) 0x040) = s.reg (blk (0x20 + n) 0x040) + 1)) ∧
    (direct → on → y.st = .disabled → count ≠ 0 → exec (.bptxEnable n t) s0 = .next begun) ∧
    (direct → on → y.st = .disabled → count = 0 → s.holding (s.txTb n) = false → exec (.bptxEnable n t) s0 =
      .next ((begun.setTx n { begun.tx n with st := .running, count := 0, countTo := none }).raise (0x24 + n) 1)) ∧
    (direct → on → y.st = .disabled → count = 0 → s.holding (s.txTb n) = true → ∃ u, exec (.bptxEnable n t) s0 = .next u ∧
      (u.tx n).st = .hold ∧ u.event (0x24 + n) 1 = true ∧ u.event (0x24 + n) 4 = true ∧ (∀ k, k ≠ n.val → u.tx k = s.tx k)) ∧
    (direct → on → (y.st = .starting ∨ y.st = .running ∨ y.st = .hold) → exec (.bptxDisable n t) s0 =
      .next ((tx 0).setTx n { y with st := .stopping, restart := false, count := 0, countTo := none })) ∧
    (direct → on → y.st = .faulted → exec (.bptxDisable n t) s0 = .next ((tx 0).setTx n { BpTx.reset with swapAt := y.swapAt })) ∧
    (direct → on → y.swapAt = none →
      exec (.swap n t) s0 = .next (s.setTx n { y with swapAt := some (s.tb (s.txTb n)).tickNo })) ∧
    (direct → on → y.swapAt ≠ none → exec (.swap n t) s0 = .next s) ∧
    (direct → ¬on → exec (.bprxEnable n t) s0 = .next (off (blk (0x20 + n) 0x014)) ∧ exec (.bprxDisable n t) s0 = .next (off (blk (0x20 + n) 0x014)) ∧
      exec (.bptxEnable n t) s0 = .next (off (blk (0x24 + n) 0x014)) ∧ exec (.bptxDisable n t) s0 = .next (off (blk (0x24 + n) 0x014)) ∧
      exec (.swap n t) s0 = .next (off (blk (0x24 + n) 0x020)))

/-- BIPHASE_FRAME (R293, R295, R296, R299): in SEARCHING a good frame counts toward LOCK_COUNT, and the one that reaches it starts the receiver where
the rate is one it locks to; a bad frame starts the count again, and CODING_ERR_COUNT counts it; a subframe with odd parity is counted and flagged.
Rests on the model's readings and choices of log entry 42. -/
def Obligations.BiphaseFramesCountTowardLock : Prop :=
  ∀ (n : Fin 4) (f : BiphaseFrame) (t : Nat) (s0 : State),
    let s := s0.upTo t
    s.domain 16 = true → s.gated 12 = false → s.looped (16 + n) = false →
    let x := s.rx n
    let good := f.preamblesOk = true ∧ f.violation = false ∧
      (∃ p, x.prevPeriod = some p ∧ (f.period - p) * 100 ≤ p ∧ (p - f.period) * 100 ≤ p) ∧
      (∀ k, x.place = some k → (f.z = true ↔ k = 191))
    let goal := if x.count = 0 then fld (s.reg (blk (0x20 + n) 0x018)) 9 0 else x.countTo.getD (fld (s.reg (blk (0x20 + n) 0x018)) 9 0)
    let even := evenParity f.a = true ∧ evenParity f.b = true
    let errors := s.reg (blk (0x20 + n) 0x028)
    (x.st = .searching → x.leaving = false → even → good → x.count + 1 < goal →
      ∃ u, exec (.biphaseFrame n f t) s0 = .next u ∧ (u.rx n).st = .searching ∧ (u.rx n).count = x.count + 1 ∧
        (u.rx n).prevPeriod = some f.period ∧ u.reg (blk (0x20 + n) 0x028) = errors) ∧
    (x.st = .searching → x.leaving = false → even → good → goal ≤ x.count + 1 → s.lockable n f.period = false →
      ∃ u, exec (.biphaseFrame n f t) s0 = .next u ∧ (u.rx n).st = .searching ∧ (u.rx n).count = x.count + 1) ∧
    (x.st = .searching → x.leaving = false → even → good → goal ≤ x.count + 1 → s.lockable n f.period = true →
      ∃ u, exec (.biphaseFrame n f t) s0 = .next u ∧ (u.rx n).st = .running ∧ (u.rx n).a.isOpen = false ∧ (u.rx n).b.isOpen = false ∧
        u.event (0x20 + n) 1 = true ∧ u.reg (blk (0x20 + n) 0x028) = errors) ∧
    (x.st = .searching → x.leaving = false → even → ¬good → errors ≠ 0xFFFFFFFF →
      ∃ u, exec (.biphaseFrame n f t) s0 = .next u ∧ (u.rx n).st = .searching ∧ (u.rx n).count = 0 ∧
        u.reg (blk (0x20 + n) 0x028) = errors + 1) ∧
    (x.st = .searching → evenParity f.a = false → evenParity f.b = true → s.reg (blk (0x20 + n) 0x020) ≠ 0xFFFFFFFF →
      ∃ u, exec (.biphaseFrame n f t) s0 = .next u ∧ u.event (0x20 + n) 7 = true ∧
        u.reg (blk (0x20 + n) 0x020) = s.reg (blk (0x20 + n) 0x020) + 1)

/-- XCLK_LOST, XCLK_BACK, XSETTLE_END, LOCK_WINDOW (R316, R321 to R323): what the loss and return of XCLK, the end of the XSETTLE delay and a lock
window do to the DCO: a window passes within LOCK_TOL of its count; four consecutive passes lock it, a failed window is counted and sends it from
LOCKED to HOLDOVER with the control word held that stood at the window's start, and no window is judged while XCLK is lost or the delay runs; a loss
or a failed window touches the rate windows of the inputs that are not ABSENT (R324, R333). Rests on the model's readings and choices of log entries
34, 44, 71. -/
def Obligations.DcoFollowsItsWindows : Prop :=
  ∀ (n t : Nat) (s0 : State),
    let s := s0.upTo t
    let c := s.clocks
    let fails := s.reg (blk 2 0x038)
    let word := s.controlWord
    let ratio : Rat := fld word.1 23 16 + (fld word.1 15 0 : Rat) / 65536
    let passes := |(n : Rat) - 64 * (ratio * (1 + (word.2 : Rat) / 2 ^ 24))| ≤ ((fld (s.reg (blk 2 0x018)) 7 0 : Nat) : Rat) ∧
      20 ≤ fld word.1 23 16 ∧ fld word.1 23 16 ≤ 127 ∧ 800000000 ≤ c.pinHz * ratio ∧ c.pinHz * ratio ≤ 1228800000
    let judged := c.xclkOk = true ∧ c.settling = false ∧ s.straps.testen = false
    let comparing := c.dco = .comparing ∨ c.dco = .holdover
    let timed := (List.range 20).filter fun i => s.rmClass i != 0
    (c.xclkOk = true → ∃ u, exec (.xclkLost t) s0 = .next u ∧ u.clocks.xclkOk = false ∧ u.event 2 3 = true ∧
      u.clocks.dco = (if c.dco = .locked ∨ c.dco = .comparing then .holdover else c.dco) ∧
      (c.dco = .locked ∨ c.dco = .comparing → u.clocks.held = some word) ∧ u.clocks.spoilt = timed ∧
      (s.reg (blk 2 0x03C) ≠ 0xFFFFFFFF → u.reg (blk 2 0x03C) = s.reg (blk 2 0x03C) + 1)) ∧
    (c.xclkOk = false → s.gpio.waiting = 0 → ∃ u, exec (.xclkBack t) s0 = .next u ∧ u.clocks.xclkOk = true ∧ u.event 2 4 = true ∧
      u.clocks.dco = c.dco ∧
      u.clocks.settling = (c.dco != .off) ∧ u.clocks.held = c.held) ∧
    (c.settling = true → c.dco = .settling → s.straps.testen = false → exec (.xsettleEnd t) s0 =
      .next { s with clocks := { c with settling := false, dco := .comparing, passes := 0, windowWord := word },
                     core := if s.core.phase = .settling then { s.core with phase := .locking } else s.core }) ∧
    (c.settling = true → s.straps.testen = true → s.loader.st ≠ .applying →
      ∃ u, exec (.xsettleEnd t) s0 = .next u ∧ u.clocks.dco = .locked ∧ u.event 2 1 = true) ∧
    (judged → comparing → passes → c.passes < 3 → exec (.lockWindow n t) s0 =
      .next { s with clocks := { c with passes := c.passes + 1, windowWord := word } }) ∧
    (judged → comparing → passes → 3 ≤ c.passes → s.loader.st ≠ .applying → ∃ u, exec (.lockWindow n t) s0 = .next u ∧
      u.clocks.dco = .locked ∧ u.clocks.held = none ∧ u.clocks.steer = c.steer ∧ u.event 2 1 = true ∧ u.mem = s.mem) ∧
    (judged → comparing → ¬passes → exec (.lockWindow n t) s0 =
      .next { s.bump (blk 2 0x038) with clocks := { c with spoilt := timed, passes := 0, windowWord := word } }) ∧
    (judged → c.dco = .locked → passes → exec (.lockWindow n t) s0 = .next { s with clocks := { c with windowWord := word } }) ∧
    (judged → c.dco = .locked → ¬passes → ∃ u, exec (.lockWindow n t) s0 = .next u ∧ u.clocks.dco = .holdover ∧
      u.clocks.held = some c.windowWord ∧ u.clocks.steer = c.windowWord.2 ∧ u.clocks.spoilt = timed ∧ u.event 2 2 = true ∧
      (fails ≠ 0xFFFFFFFF → u.reg (blk 2 0x038) = fails + 1)) ∧
    (¬judged → exec (.lockWindow n t) s0 = .next s)

/-- CLOCK_SELECT_WRITE, CLOCK_SWITCH_DONE, DCO_CFG_WRITE, GATE_CLOSE (R318, R322, R323, R327, R328, R330, R345): a switch starts where its target is
ready and none is in progress, and is refused and flagged otherwise; SRC and DIV read as last written, with BUSY until it completes; then the selector
takes its value, and one of ECLK sends every timebase that is not OFF and has a source to ACQUIRE; DCO_CFG can be written only with every clock on
XCLK, and leaves an XSETTLE delay that runs running; a gate whose bit is 0 closes once its unit is at rest. A host's accesses act so outside APPLYING
(R58). Rests on the model's readings and choices of log entries 34, 44. -/
def Obligations.ClockSwitchesAndGates : Prop :=
  ∀ (c : ClockName) (n : Fin 15) (w : Word) (forced : Bool) (t : Nat) (s0 : State),
    let s := s0.upTo t
    let a := blk 2 (match c with | .eclk => 0x028 | .fclk => 0x02C | .hclk => 0x030)
    let no := match c with | .eclk => 0 | .fclk => 1 | .hclk => 2
    let busy := (look none s.clocks.sel no).isSome = true
    let ready := if bit w 8 then s.clocks.xclkOk = true else s.clocks.dco = .locked
    let target := w &&& 0x13F
    let gate := s.reg (blk 2 (0x040 + 4 * n))
    let open_ := bit gate (match s.power.mode with | .run => 0 | .sleep => 1 | .deepSleep => 2)
    let xclk := ∀ k ∈ [0x028, 0x02C, 0x030], bit (s.reg (blk 2 k)) 8 = true
    let direct := s.loader.st ≠ .applying
    (direct → busy ∨ (target ≠ s.reg a ∧ ¬ready) → exec (.clockSelectWrite c w t) s0 = .next (s.raise 2 5)) ∧
    (direct → ¬busy → target = s.reg a → exec (.clockSelectWrite c w t) s0 = .next s) ∧
    (direct → ¬busy → target ≠ s.reg a → ready → ∃ u, exec (.clockSelectWrite c w t) s0 = .next u ∧
      u = { s with clocks := { s.clocks with sel := put none s.clocks.sel no (some target) } } ∧
      (u.readReg .host a false).readData = setBit target 16 true) ∧
    (∀ v, look none s.clocks.sel no = some v → s.gpio.waiting = 0 → ∃ u, exec (.clockSwitchDone c forced t) s0 = .next u ∧ u.reg a = v &&& 0x13F ∧
      look none u.clocks.sel no = none ∧ (forced = true → u.event 2 6 = true) ∧ u.mem = s.mem ∧
      (c = .eclk → u.eclkRuns = true → ∀ m, m < 4 → (s.tb m).st ≠ .off → s.tbKind m ≠ 0 →
        (u.tb m).st = .acquire ∧ (u.tb m).period = s.nominal m ∧ (u.tb m).hist = [])) ∧
    (direct → ¬xclk → exec (.dcoCfgWrite w t) s0 = .next (s.raise 2 10)) ∧
    (direct → xclk → legalWrite (blk 2 0x010) 0x00FFFFFF w = false → exec (.dcoCfgWrite w t) s0 = .next s) ∧
    (direct → xclk → legalWrite (blk 2 0x010) 0x00FFFFFF w = true → ∃ u, exec (.dcoCfgWrite w t) s0 = .next u ∧
      u.reg (blk 2 0x010) = w &&& 0x00FFFFFF ∧ u.clocks.steer = 0 ∧ u.reg (blk 2 0x020) = 0 ∧ u.mem = s.mem ∧
      u.clocks.dco = (if s.clocks.dco = .off then .off else .comparing) ∧ (s.clocks.dco = .locked → u.event 2 2 = true) ∧
      (s.clocks.dco ≠ .off → u.clocks.settling = (s.clocks.settling || s.straps.testen))) ∧
    (open_ = false → s.gateRests n = true → s.gateShut n = false →
      exec (.gateClose n t) s0 = .next { s with clocks := { s.clocks with closed := n.val :: s.clocks.closed } }) ∧
    (open_ = true ∨ s.gateRests n = false → exec (.gateClose n t) s0 = .next s)

/-- RATE_MEASUREMENT, RATE_ABSENT (R299, R331 to R334): a good window reports 256 XCLK_FREQ / count in units of 1/16 Hz, VALID, with the class within
2 % of which it lies; one that is not good, or that overlaps an XCLK loss or a failed lock window, only clears VALID; a biphase input is timed only
while SW16 is on; a change of class sets the input's bit and RM_CLASS; an absent input shows class 0. The rounding and the width of FS are the model's
choices of log entries 12 and 30. -/
def Obligations.RateMeterReports : Prop :=
  ∀ (i : Fin 20) (count : Nat) (clean : Bool) (t : Nat) (s0 : State),
    let s := s0.upTo t
    let r := s.reg (blk 3 (0x100 + 8 * i))
    let fs := (rneDiv (16 * 256 * s.xclkHz) count).toNat
    let cls := fld r 25 22
    let timed := i.val < 16 ∨ s.domain 16 = true
    let spoilt := s.clocks.xclkOk = false ∨ i.val ∈ s.clocks.spoilt
    (timed → ¬spoilt → exec (.rateMeasurement i count false t) s0 = .next (s.setReg (blk 3 (0x100 + 8 * i)) (setBit r 31 false))) ∧
    (timed → spoilt → ∃ u, exec (.rateMeasurement i count clean t) s0 = .next u ∧ u.reg (blk 3 (0x100 + 8 * i)) = setBit r 31 false ∧
      (s.clocks.xclkOk = true → i.val ∉ u.clocks.spoilt) ∧ u.mem = s.mem ∧ ∀ a, a ≠ blk 3 (0x100 + 8 * i) → u.reg a = s.reg a) ∧
    (¬timed → ∃ u, exec (.rateMeasurement i count clean t) s0 = .next u ∧ u.regs = s.regs ∧ u.mem = s.mem ∧ u.power = s.power) ∧
    (timed → ¬spoilt → bit (s.reg (blk 1 0x030)) 3 = false → fs < 2 ^ 22 →
      ∃ (u : State) (k : Nat), exec (.rateMeasurement i count true t) s0 = .next u ∧
      u.reg (blk 3 (0x100 + 8 * i)) = BitVec.ofNat 32 (2 ^ 31 + k * 2 ^ 22 + fs) ∧ u.mem = s.mem ∧
      (k = 8 ∨ 1 ≤ k ∧ k ≤ 7 ∧ 50 * |(fs : Int) - 16 * classHz (k - 1)| ≤ 16 * classHz (k - 1)) ∧
      (k = 8 → ∀ m, m < 7 → ¬50 * |(fs : Int) - 16 * classHz m| ≤ 16 * classHz m) ∧
      (k ≠ cls → bit (u.reg (blk 3 0x1A0)) i = true ∧ u.event 3 2 = true)) ∧
    (cls ≠ 0 → ∃ u, exec (.rateAbsent i t) s0 = .next u ∧ fld (u.reg (blk 3 (0x100 + 8 * i))) 25 0 = 0 ∧
      bit (u.reg (blk 3 0x1A0)) i = true ∧ u.event 3 2 = true ∧ u.mem = s.mem)

/-- KEEP, BAD_OPCODE_FRAME (R351, R357, R362 to R364, R371, R375, R376): how a header is judged, shown by the frame that does nothing else: while
HOWN_N is low, and without a whole header, nothing happens; a failing check is counted and collected; a directed header with G restarts the silence
timer and releases QUARANTINE, with 15 it is counted and ignored, and with any other generation the module is SUPERSEDED; a group header with another
generation is counted and ignored; a reserved opcode in an accepted frame faults. A phase on 1, 2, 4 or 8 lanes carries its bits over them unchanged,
and a command word names its frame. Rests on the model's readings and choices of log entry 55; what the module does not hear at all on those of log
entries 34, 44 and 61. -/
def Obligations.HeadersAreJudged : Prop :=
  ∀ (h : Head) (op : BitVec 5) (t : Nat) (s0 : State),
    let s := s0.upTo t
    let hears := s.host.mastering = false ∧ h.ownLow = false ∧ s.power.vin = true ∧ s.clkRuns .hclk = true
    let passes := h.hchk = some (crcOfBits (commandBits 7 h))
    let mine := h.device.toNat = s.host.active.toNat
    let counted := fun (u : State) o => s.reg (blk 0 o) ≠ 0xFFFFFFFF → u.reg (blk 0 o) = s.reg (blk 0 o) + 1
    (¬hears → exec (.keep h t) s0 = .next s) ∧
    (hears → h.hchk = none → exec (.keep h t) s0 = .next { s with host := { s.host with read := none } }) ∧
    (hears → h.hchk ≠ none → ¬passes → ∃ u, exec (.keep h t) s0 = .next u ∧ u.host = { s.host with read := none, chkErr := true } ∧
      u.event 4 1 = true ∧ (s.reg (blk 4 0x038) ≠ 0xFFFFFFFF → u.reg (blk 4 0x038) = s.reg (blk 4 0x038) + 1)) ∧
    (Safety.Accepted s 7 [] h → exec (.keep h t) s0 = .next (Safety.heard s)) ∧
    (hears → passes → mine → h.gen = s.host.gen → s.host.st = .quarantine →
      ∃ u, exec (.keep h t) s0 = .next u ∧ u.host.st = .normal ∧ u.event 0 2 = true ∧ u.host.posted = s.host.posted) ∧
    (hears → passes → mine → h.gen ≠ s.host.gen → h.gen = 15 →
      ∃ u, exec (.keep h t) s0 = .next u ∧ u.host = { s.host with read := none } ∧ counted u 0x034) ∧
    (hears → passes → mine → h.gen ≠ s.host.gen → h.gen ≠ 15 → ∃ u, exec (.keep h t) s0 = .next u ∧ u.host.st = .superseded ∧ counted u 0x030 ∧
      (s.host.st ≠ .superseded → u.event 0 4 = true)) ∧
    (hears → passes → h.device.toNat < 64 → ¬mine → exec (.keep h t) s0 = .next { s with host := { s.host with read := none } }) ∧
    (hears → passes → 64 ≤ h.device.toNat → h.device ≠ 127 → s.inGroup h.device.toNat = true → h.gen ≠ s.host.gen →
      ∃ u, exec (.keep h t) s0 = .next u ∧ u.host = { s.host with read := none } ∧ counted u 0x034) ∧
    (hears → passes → 64 ≤ h.device.toNat → h.device = 127 ∨ s.inGroup h.device.toNat = false ∨ h.gen = s.host.gen →
      exec (.keep h t) s0 = .next { s with host := { s.host with read := none } }) ∧
    (Safety.Accepted s op [] h → (op = 0 ∨ 10 < op.toNat) → ∃ u, exec (.badOpcodeFrame op h t) s0 = .next u ∧ Safety.Rejected s u 0x08 0) ∧
    (∀ (base n : Nat) (l : List Bool), n ∈ [1, 2, 4, 8] → base + n ≤ 8 → n ∣ l.length → offLanes base n (onLanes base n l) = l) ∧
    (∀ r : FrameRest, frameOf (h.device.setWidth 16 <<< 4 ||| h.gen.setWidth 16 ||| 0x3800) r t = .keep ⟨h.device, h.gen, r.hchk, r.ownLow⟩ t)

/-- WR, WRC (R358 to R360, R371, R372): an accepted write of at most 64 whole words inside one region takes one posted entry, behind those that wait;
WR only into a range of class Data, WRC anywhere once its DCHK passes. Every other one is rejected whole with its cause (no entry free, a range of
class Control, an address past the region, a reserved MODE, too many words or words that are not whole), or counted where the DCHK fails; a WR of no
words posts nothing. Rests on the model's readings and choices of log entries 55, 56. -/
def Obligations.WriteFramesPost : Prop :=
  ∀ (h : Head) (a : Word) (words : List Word) (extra : Nat) (dchk : BitVec 16) (b : Nat) (fixed : Bool) (t : Nat) (s0 : State),
    let s := s0.upTo t
    let addr := s.addressBits a
    let entry := Posted.write (words.zipIdx.map fun c => (if fixed then b else b + 4 * c.2, c.1))
    let inside := fixed = true ∨ b + 4 * words.length ≤ regionEnd b
    let fits := extra = 0 ∧ words.length ≤ 64
    let whole := fits ∧ words ≠ []
    let place := s.addressOf a = some (b, fixed)
    let wrc := exec (.wrc h a ⟨words, dchk, extra⟩ t) s0
    let wr := exec (.wr h a words extra t) s0
    let checked := dchk = dchkOf 4 h addr words
    (Safety.Accepted s 3 addr h →
      (whole → place → controlClass b = false → inside → s.host.posted.length < 16 → wr = .next (Safety.posted (Safety.heard s) entry)) ∧
      (whole → place → controlClass b = false → inside → 16 ≤ s.host.posted.length → ∃ u, wr = .next u ∧ Safety.Rejected s u 0x05 0) ∧
      (extra = 0 → words = [] → place → controlClass b = false → inside → wr = .next (Safety.heard s)) ∧
      (fits → place → controlClass b = true → ∃ u, wr = .next u ∧ Safety.Rejected s u 0x04 b) ∧
      (fits → place → controlClass b = false → ¬inside → ∃ u, wr = .next u ∧ Safety.Rejected s u 0x0C b ∧ u.host.range = true) ∧
      (fits → s.addressOf a = none → ∃ u, wr = .next u ∧ Safety.Rejected s u 0x09 0) ∧
      (64 < words.length ∨ words.length = 64 ∧ extra ≠ 0 → ∃ u, wr = .next u ∧ Safety.Rejected s u 0x07 0) ∧
      (words.length < 64 → extra ≠ 0 → ∃ u, wr = .next u ∧ Safety.Rejected s u 0x06 0)) ∧
    (Safety.Accepted s 4 addr h →
      (whole → checked → place → inside → s.host.posted.length < 16 → wrc = .next (Safety.posted (Safety.heard s) entry)) ∧
      (whole → checked → place → inside → 16 ≤ s.host.posted.length → ∃ u, wrc = .next u ∧ Safety.Rejected s u 0x05 0) ∧
      (whole → checked → place → ¬inside → ∃ u, wrc = .next u ∧ Safety.Rejected s u 0x0C b ∧ u.host.range = true) ∧
      (whole → checked → s.addressOf a = none → ∃ u, wrc = .next u ∧ Safety.Rejected s u 0x09 0) ∧
      (whole → ¬checked → ∃ u, wrc = .next u ∧ u.host.posted = s.host.posted ∧ u.host.chkErr = true ∧ u.mem = s.mem ∧
        (s.reg (blk 4 0x03C) ≠ 0xFFFFFFFF → u.reg (blk 4 0x03C) = s.reg (blk 4 0x03C) + 1)) ∧
      (words.length < 64 → extra ≠ 0 ∨ words = [] → ∃ u, wrc = .next u ∧ Safety.Rejected s u 0x06 0) ∧
      (64 < words.length ∨ words.length = 64 ∧ extra ≠ 0 → ∃ u, wrc = .next u ∧ Safety.Rejected s u 0x07 0))

/-- CMT, RST, ALIGN_FRAME, ADOPT, STS (R209, R342, R371 to R374): an accepted command with its whole payload takes one posted entry; ADOPT sets ACTIVE
and G as its frame ends, and one broadcast with another module's UID only takes its entry; a reserved payload encoding is rejected; the reply of STS
holds the free entries, the state and the interrupt summary. Rests on the model's readings and choices of log entries 55, 57. -/
def Obligations.CommandFramesPost : Prop :=
  ∀ (h : Head) (x y z : Word) (t : Nat) (s0 : State),
    let s := s0.upTo t
    s.host.posted.length < 16 →
    let body := fun (op : BitVec 5) l => Body.mk l (dchkOf op h [] l) 0
    let after := Safety.heard s
    let hears := s.host.mastering = false ∧ h.ownLow = false ∧ s.power.vin = true ∧ s.clkRuns .hclk = true
    (Safety.Accepted s 5 [] h → fld z 10 8 ≤ 4 →
      exec (.cmt h (body 5 [x, y, z]) t) s0 = .next (Safety.posted after (.commit x y z))) ∧
    (Safety.Accepted s 5 [] h → 4 < fld z 10 8 → ∃ u, exec (.cmt h (body 5 [x, y, z]) t) s0 = .next u ∧ Safety.Rejected s u 0x09 0) ∧
    (Safety.Accepted s 5 [] h → ∃ u, exec (.cmt h (body 5 [x, y]) t) s0 = .next u ∧ Safety.Rejected s u 0x06 0) ∧
    (Safety.Accepted s 9 [] h → scopeKnown (fld x 7 0) = true →
      exec (.rst h (body 9 [x]) t) s0 = .next (Safety.posted after (.reset (x.setWidth 8)))) ∧
    (Safety.Accepted s 9 [] h → scopeKnown (fld x 7 0) = false → ∃ u, exec (.rst h (body 9 [x]) t) s0 = .next u ∧ Safety.Rejected s u 0x09 0) ∧
    (Safety.Accepted s 10 [] h → exec (.alignFrame h (body 10 [x, y]) t) s0 = .next (Safety.posted after (.align x y))) ∧
    (Safety.Accepted s 8 [] h → fld z 3 0 ≠ 15 → ∃ u, exec (.adopt h (body 8 [0, 0, z]) t) s0 = .next u ∧ u.event 0 3 = true ∧
      u.host = { (Safety.posted after (.adopt z)).host with active := BitVec.ofNat 6 (fld z 13 8), gen := BitVec.ofNat 4 (fld z 3 0) }) ∧
    (Safety.Accepted s 8 [] h → fld z 3 0 = 15 → ∃ u, exec (.adopt h (body 8 [0, 0, z]) t) s0 = .next u ∧ Safety.Rejected s u 0x09 0) ∧
    (hears → s.host.st ≠ .superseded → h.device = 127 → h.gen = 15 → h.hchk = some (crcOfBits (commandBits 8 h)) →
      (x ++ y : BitVec 64) ≠ s.uid → fld z 3 0 ≠ 15 → exec (.adopt h (body 8 [x, y, z]) t) s0 =
        .next (Safety.posted { s with host := { s.host with read := none } } (.adopt z))) ∧
    (hears → s.host.st = .superseded → h.device = 127 → h.gen = 15 →
      h.hchk = some (crcOfBits (commandBits 8 h)) → (x ++ y : BitVec 64) = s.uid → fld z 3 0 ≠ 15 →
      ∃ u, exec (.adopt h (body 8 [x, y, z]) t) s0 = .next u ∧ u.host.st = .normal ∧ u.host.active = BitVec.ofNat 6 (fld z 13 8) ∧
        u.host.gen = BitVec.ofNat 4 (fld z 3 0) ∧ u.event 0 3 = true) ∧
    (Safety.Accepted s 6 [] h → ∃ u, exec (.sts h t) s0 = .next u ∧ u.host.check = some (replyCheck u.host.status u.host.reply) ∧
      u.host.reply = [BitVec.ofNat 32 ((16 - s.host.posted.length) * 2 ^ 27 + (after.viewIrq 0x014).toNat)] ∧
      u.host.chkErr = false ∧ u.host.range = false ∧ u.host.fault = false ∧ u.host.notReady = 0)

/-- RD, RDC, READ_READY, READ_ABANDONED, POSTED_COMPLETE (R324, R356, R366 to R372, R508): an accepted read waits for READY; once no posted entry is
before it, a read of words of a data range inside its region is answered with those words and, for RDC of all its words, their check; one abandoned
before anything was fetched leaves nothing; the oldest posted entry completes by landing its words or acting; nothing does so sooner than the hold of
its requests lets it, nor while HCLK stands still. Rests on the model's readings and choices of log entries 58, 59, on log entry 44 where HCLK stands
still, and on log entry 5 for the cycles that a bank lets its requests wait. -/
def Obligations.ReadsAreAnsweredAndEntriesComplete : Prop :=
  ∀ (h : Head) (a : Word) (n wait : Nat) (w : Word) (rest : List Posted) (t : Nat) (s0 : State),
    let s := s0.upTo t
    let addr := s.addressBits a
    let job := fun (b : Nat) (fixed : Bool) (l : Option Nat) => { Safety.heard s with
      host := { (Safety.heard s).host with
        read := some ⟨b, fixed, l⟩, notReady := fld (s.control 0x0F0) 7 0,
        hold := if s.host.posted = [] then s.lowerHold 3 else s.host.hold } }
    let len := fld s.profile 29 24
    let data := fun (n : Nat) => (∃ r, regionOf n = some r ∧ r.isData = true ∧ s.reaches r n = true) ∧ s.hostCrosses n = false ∧ n % 4 = 0
    let goes := s.loader.st ≠ .applying ∧ (s.cross 70).active = false ∧ s.gateCloses n = false ∧ s.clkRuns .hclk = true
    let waited := fun (u : State) => ∀ k, k ≠ blk 0x38 0x018 → u.reg k = s.reg k
    (∀ b fixed, Safety.Accepted s 1 addr h → s.addressOf a = some (b, fixed) → exec (.rd h a t) s0 = .next (job b fixed none)) ∧
    (∀ b fixed, Safety.Accepted s 2 addr h → s.addressOf a = some (b, fixed) →
      exec (.rdc h a t) s0 = .next (job b fixed (some (if len = 0 then 64 else len)))) ∧
    (∀ (k : Nat) (fixed : Bool) (l : Option Nat), l = none ∨ l = some k →
      let j : ReadJob := ⟨n, fixed, l⟩
      let p := s.prefetch j
      let place := fun i => if fixed then n else n + 4 * i
      let words := (List.range k).map fun i => s.wordAt (place i)
      s.host.read = some j → s.host.posted = [] → goes → (∀ i, i < max p k → data (place i)) → fixed = true ∨ n + 4 * k ≤ regionEnd n →
      s.turnHold ((List.range p).map place) wait ≤ wait →
      ∃ u, exec (.readReady k ⟨none, wait⟩ t) s0 = .next u ∧ u.host.reply = words ∧ u.host.read = none ∧
        u.host.check = (if l = some k then some (replyCheck u.host.status words) else none) ∧ u.host.status.getLsbD 7 = true ∧
        u.mem = s.mem ∧ waited u) ∧
    (∀ j, s.host.read = some j → s.host.posted ≠ [] → exec (.readReady 1 ⟨none, wait⟩ t) s0 = .next s) ∧
    (∀ j, s.host.read = some j → exec (.readAbandoned 0 t) s0 = .next { s with host := { s.host with read := none } }) ∧
    (s.host.posted = .write [(n, w)] :: rest → goes → data n → (atBank n = true → s.host.hold ≤ wait) →
      ∃ u, exec (.postedComplete ⟨wait, t⟩) s0 = .next u ∧ u.host.posted = rest ∧ u.wordAt n = w ∧
        (∀ k, (k < n ∨ n + 4 ≤ k) → u.byteAt k = s.byteAt k) ∧ waited u) ∧
    (s.host.posted = .align w a :: rest → s.loader.st ≠ .applying → s.clkRuns .hclk = true → ∃ u, exec (.postedComplete ⟨wait, t⟩) s0 = .next u ∧
      u.host.posted = rest ∧
      u.alignAt = some (a.setWidth 16 ++ w, s.now)) ∧
    (s.host.posted = .commit w a 0x100 :: rest → s.loader.st ≠ .applying → s.clkRuns .hclk = true →
      ∃ u, exec (.postedComplete ⟨wait, t⟩) s0 = .next u ∧
      u.host.posted = rest ∧ (u.grp 0).st = .pending ∧ u.reg (blk 0x0A 0x014) = w ∧ u.reg (blk 0x0A 0x018) = a &&& 0xFFFF) ∧
    (s.host.posted ≠ [] → (∃ k v, s.host.posted.head? = some (.write [(k, v)])) → s.loader.st = .applying →
      exec (.postedComplete ⟨wait, t⟩) s0 = .next s) ∧
    (s.host.posted = .write [(n, w)] :: rest → atBank n = true → wait < s.host.hold → exec (.postedComplete ⟨wait, t⟩) s0 = .next s) ∧
    (s.clkRuns .hclk = false → exec (.postedComplete ⟨wait, t⟩) s0 = .next s ∧ exec (.readReady 1 ⟨none, wait⟩ t) s0 = .next s)

/-- QUARANTINE, RAW_START, RAW_DONE, MODE_FAULT, HOWN_RISE, FLASH_BOOT, FLASH_READ_END (R376, R379, R381 to R383): the silence timer's expiry; a raw
transfer takes the bus, fills the buffers and leaves it; a mode fault ends it, and a flash boot's load; a flash boot masters the bus, sends the read
command 0x03 and address 0 on one lane at HCLK / 8 and begins a full load, whose words come byte by byte, lowest first. Rests on the model's readings
and choices of log entries 34, 60, 61. -/
def Obligations.SilenceAndBusMastering : Prop :=
  ∀ (l : List Word) (b0 b1 b2 b3 : Byte) (t : Nat) (s0 : State),
    let s := s0.upTo t
    let h := s.host
    let raw := s.reg (blk 4 0x054)
    let keep := bit (s.reg (blk 4 0x048)) 2
    let may := s.power.vin = true ∧ h.st = .normal ∧ s.clkRuns .hclk = true
    let due := s.silenceRuns = true ∧ s.power.vin = true ∧ (s.silenceMs : Rat) ≤ s.silent * 1000 / s.xclkHz
    (¬due → exec (.quarantine t) s0 = .next s) ∧
    (due → ∃ u, exec (.quarantine t) s0 = .next u ∧ u.host = { h with st := .quarantine, read := none } ∧ u.event 0 1 = true ∧
      (s.reg (blk 0 0x038) ≠ 0xFFFFFFFF → u.reg (blk 0 0x038) = s.reg (blk 0 0x038) + 1)) ∧
    (h.rawWaiting = true → may → s.rawLoops = false → ∃ u, exec (.rawStart t) s0 = .next u ∧ u.host.mastering = true ∧
      u.host.rawWaiting = false ∧ u.host.rawOut = s.rawSent ∧ u.mem = s.mem ∧ u.regs = s.regs) ∧
    (bit raw 0 = true → h.rawWaiting = false → s.rawReceives = true → s.unitOn 19 = true → h.rawLoop = false →
      s.clkRuns .hclk = true → s.rawLen = 32 → ∃ u, exec (.rawDone l t) s0 = .next u ∧ u.reg (blk 4 0x054) = 2 ∧ u.event 4 3 = true ∧
        (∀ w r, l = w :: r → u.wordAt (rawPlace (fld (s.reg (blk 4 0x050)) 28 16) 0) = w) ∧
        u.host.mastering = (if keep then h.mastering else false)) ∧
    (bit raw 0 = true → h.rawWaiting = false → h.mastering = true → s.flashHolds = false → ∃ u, exec (.modeFault t) s0 = .next u ∧
      u.host.mastering = false ∧ bit (u.reg (blk 4 0x054)) 0 = false ∧ bit (u.reg (blk 4 0x054)) 2 = true ∧ u.event 4 4 = true ∧
      u.host.fault = true ∧ u.mem = s.mem) ∧
    (h.mastering = true → s.flashHolds = true → s.loader.full = true → ∃ u, exec (.modeFault t) s0 = .next u ∧ u.host.mastering = false ∧
      bit (u.reg (blk 4 0x054)) 2 = true ∧ u.event 4 4 = true ∧ u.event 7 2 = true ∧ u.loader.st = .failed) ∧
    exec (.hownRise t) s0 = .next { s with host := { h with edges := h.edges + 1 } } ∧
    ((s.core.phase = .flash ∨ s.core.phase = .queued ∧ s.straps.devnum.toNat ≤ h.edges) → may → h.mastering = false →
      (s.loader.st = .idle ∨ s.loader.st = .failed) → ∃ u, exec (.flashBoot t) s0 = .next u ∧ u.host.mastering = true ∧
        u.core.phase = .flash ∧ u.loader.full = true ∧ u.loader.path = .flash ∧
        u.host.rawOut = [0x03000000] ∧ u.host.driven = (1, 8) ∧ (u.loader.st = .stopping ∨ u.loader.st = .receiving)) ∧
    (h.mastering = true → s.loader.path = .flash → s.loader.st = .receiving → s.clkRuns .hclk = true → h.flashRest = [] →
      exec (.flashReadEnd [b0, b1, b2, b3] t) s0 = .next (s.loadWord (b3 ++ b2 ++ b1 ++ b0)))

/-- BEGIN_FULL, BEGIN_PARTIAL, ABORT, RESTART, IMAGE_START (R49, R51, R59, R62, R67, R68): a load begins from IDLE or FAILED, a full one by stopping
the module, and is refused with BUSY in any other state; ABORT ends RECEIVING with ABORTED; RESTART in FAILED and START in HOLD resolve S as the next
TB0 tick and start the listed units; each is ignored in other states, and with SW19 off the access faults; a command of the host waits through
APPLYING (R58). Rests on the model's readings and choices of log entries 34, 45, 46, 47. -/
def Obligations.LoaderCommands : Prop :=
  ∀ (t : Nat) (s0 : State),
    let s := s0.upTo t
    let l := s.loader
    let on := s.unitOn 19 = true
    let direct := l.st ≠ .applying
    let free := l.st = .idle ∨ l.st = .failed
    let fails := s.reg (blk 7 0x03C)
    let failed := fun (u : State) code => u.reg (blk 7 0x018) = BitVec.ofNat 32 (code * 2 ^ 24 + 0xFFFF) ∧ u.reg (blk 7 0x01C) = 0 ∧
      (fails ≠ 0xFFFFFFFF → u.reg (blk 7 0x03C) = fails + 1)
    let next := (s.tickCount.toNat + 1) % 2 ^ 48
    let off : Host.Outcome State Fault Refusal := .next (s.hostFault 0x02 (blk 7 0x010))
    (direct → on → free → exec (.beginPartial t) s0 = .next ((s.setLoader
      { l with st := .receiving, full := false, begun := l.st, path := .host, staged := [], entries := [] }).setReg (blk 7 0x020) 0)) ∧
    (direct → on → free → ∃ u, exec (.beginFull t) s0 = .next u ∧ u.loader.full = true ∧ u.loader.begun = l.st ∧ u.loader.path = .host ∧
      (u.loader.st = .stopping ∨ u.loader.st = .receiving) ∧ ∀ e, e < 32 → (u.eng e).st ≠ .armed) ∧
    (direct → on → ¬free → ∃ u, exec (.beginPartial t) s0 = .next u ∧ exec (.beginFull t) s0 = .next u ∧ u.loader = l ∧ failed u 0x16 ∧
      u.mem = s.mem) ∧
    (direct → on → l.st = .receiving → ∃ u, exec (.abort t) s0 = .next u ∧ failed u 0x18 ∧ u.event 7 2 = true ∧
      u.loader.st = (if l.full = false ∧ l.begun = .idle then .idle else .failed)) ∧
    (direct → on → l.st = .failed → ∀ es, l.previous = some es → es ≠ [] → ∃ u, exec (.restart t) s0 = .next u ∧
      u.loader = { l with st := .starting, startAt := next, entries := es } ∧ u.mem = s.mem) ∧
    (direct → on → l.st = .failed → l.previous = some [] → ∃ u, exec (.restart t) s0 = .next u ∧ u.loader.st = .idle ∧ u.event 7 3 = true) ∧
    (direct → on → l.st = .hold → l.entries ≠ [] → ∃ u, exec (.imageStart t) s0 = .next u ∧
      u.loader = { l with st := .starting, startAt := next } ∧ u.mem = s.mem ∧
      ∀ x ∈ l.entries, x.unit = 0 → (s.eng x.inst).st = .stopped → s.engBudget x.inst ≠ 0 → (u.eng x.inst).st = .armed) ∧
    (direct → on → l.st ≠ .receiving → exec (.abort t) s0 = .next s) ∧
    (direct → on → l.st ≠ .failed → exec (.restart t) s0 = .next s) ∧
    (direct → on → l.st ≠ .hold → exec (.imageStart t) s0 = .next s) ∧
    (direct → ¬on → exec (.beginFull t) s0 = off ∧ exec (.beginPartial t) s0 = off ∧ exec (.abort t) s0 = off ∧ exec (.restart t) s0 = off ∧
      exec (.imageStart t) s0 = off)

/-- STOPPING_END, LOAD_WINDOW_WRITE, RECEIVE_TIMEOUT, VERIFICATION_END, APPLY_END, UNIT_START (R48, R53, R54, R59, R66, R68): a load moves from
STOPPING through RECEIVING, where each window word is appended until LENGTH is reached, VERIFYING and APPLYING to STARTING, HOLD or IDLE; a time-out
or a failing check ends it with its error; the last listed unit to start ends STARTING; a window word with no load of the host to take it raises
WINDOW_DISCARD, and so it does, by the model's choice of log entry 75, while a load of the flash or the mailbox is in RECEIVING. Rests on the model's
readings and choices of log entries 34, 45, 47. -/
def Obligations.LoadsProceed : Prop :=
  ∀ (w : Word) (late : Bool) (i : Nat) (x : StartEntry) (t : Nat) (s0 : State),
    let s := s0.upTo t
    let l := s.loader
    let on := s.unitOn 19 = true
    let staged := l.staged ++ [w]
    let n := imgLength staged
    let host := l.st = .receiving ∧ l.path = .host
    let fclk := s.clkRuns .fclk = true
    let verdict := s.verifyError l.full l.staged
    let received := (s.setLoader { l with staged := staged }).setReg (blk 7 0x020) (BitVec.ofNat 32 (4 * staged.length))
    let ended := if l.full = false ∧ l.begun = .idle then LoadState.idle else .failed
    let es := l.entries.set i { x with started := true }
    let due := if x.unit = 0 then (s.eng x.inst).st ≠ .armed else l.startAt + x.offset ≤ s.tickCount.toNat
    (l.st = .stopping → l.path = .host → late = true ∨ s.allStopped = true → ∃ u, exec (.stoppingEnd late t) s0 = .next u ∧
      u.loader = { l with st := .receiving, staged := [] } ∧ u.reg (blk 7 0x020) = 0) ∧
    (on → host → (staged.length = 4 → bit w 0 = !l.full) → staged.length < 5 ∨ lengthCode l.full n = 0 ∧ 4 * staged.length < n →
      exec (.loadWindowWrite w t) s0 = .next received) ∧
    (on → host → staged.length = 4 → ∃ u, exec (.loadWindowWrite w t) s0 = .next u ∧
      u.loader = { l with staged := staged, full := u.loader.full } ∧ (u.loader.full = l.full ∨ u.loader.full = !bit w 0)) ∧
    (on → host → 5 < staged.length → n ≤ 4 * staged.length → ∃ u, exec (.loadWindowWrite w t) s0 = .next u ∧
      u.loader = { l with staged := staged, st := .verifying }) ∧
    (on → host → staged.length = 5 → lengthCode l.full n ≠ 0 → ∃ u, exec (.loadWindowWrite w t) s0 = .next u ∧ u.loader.st = ended ∧
      u.event 7 2 = true) ∧
    (on → l.st ≠ .applying → ¬host → exec (.loadWindowWrite w t) s0 = .next (s.raise 7 6)) ∧
    (¬on → l.st ≠ .applying → exec (.loadWindowWrite w t) s0 = .next (s.hostFault 0x02 (blk 7 0x100))) ∧
    (l.st = .receiving → ∃ u, exec (.receiveTimeout t) s0 = .next u ∧ u.loader.st = ended ∧ u.event 7 2 = true ∧
      u.reg (blk 7 0x018) = BitVec.ofNat 32 (0x17 * 2 ^ 24 + 0xFFFF)) ∧
    (∀ e, l.st = .verifying → fclk → verdict = some e → ∃ u, exec (.verificationEnd t) s0 = .next u ∧ u.loader.st = ended ∧ u.event 7 2 = true ∧
      u.reg (blk 7 0x018) = BitVec.ofNat 32 (e.code * 2 ^ 24 + e.step * 2 ^ 16 + e.sec) ∧ u.reg (blk 7 0x01C) = BitVec.ofNat 32 e.offset) ∧
    (l.st = .verifying → fclk → verdict = none → ∃ u, exec (.verificationEnd t) s0 = .next u ∧ u.loader.st = .applying ∧ u.core.paused = true) ∧
    (l.st = .applying → s.domainsDone = true → fclk → l.clockTodo = [] → s.waiting = [] → s.gpio.waiting = 0 →
      ∃ u, exec (.applyEnd t) s0 = .next u ∧
      u.core.imageStands = true ∧ u.event 7 1 = true ∧
      (u.loader.st = .starting ∨ u.loader.st = .hold ∨ u.loader.st = .idle) ∧
      u.reg (blk 7 0x024) = imgWord l.staged (imgLength l.staged / 4 - 1)) ∧
    (l.st = .starting → l.entries[i]? = some x → x.started = false → due → (es.all (·.started)) = false →
      ∃ u, exec (.unitStart i t) s0 = .next u ∧ u.loader = { l with entries := es }) ∧
    (l.st = .starting → l.entries[i]? = some x → x.started = false → due → (es.all (·.started)) = true →
      ∃ u, exec (.unitStart i t) s0 = .next u ∧ u.loader = { l with entries := es, st := .idle } ∧ u.event 7 3 = true)

/-- CHANNEL_START, CHANNEL_STOP, STOP_ALL, CLEAR_HALT (R11, R395, R402, R403, R405): a STOPPED channel starts at CHn_FIRST with CAUSE cleared unless
the unit is halted; a STOP lets the transactions in flight land first, and stops a WAITING channel at once; CLEAR_HALT starts nothing; with SW17 off
the access faults; a command of the host waits through APPLYING (R58). Rests on the model's readings and choices of log entry 49; that a channel
stopped with a read under way that no target acknowledges waits in STOPPING for its bus error is that of log entry 99. -/
def Obligations.ChannelsStartAndStop : Prop :=
  ∀ (c : Fin 16) (t : Nat) (s0 : State),
    let s := s0.upTo t
    let on := s.unitOn 17 = true
    let direct := s.loader.st ≠ .applying
    let x := s.chan c
    let first := fld (s.reg (blk 9 (0x104 + 32 * c))) 11 0
    let others := fun (u : State) => u.dma.halted = s.dma.halted ∧ u.mem = s.mem ∧ ∀ k, k ≠ c.val → u.chan k = s.chan k
    let busy := fun k => (s.chan k).st = .running ∨ (s.chan k).st = .waiting
    (direct → on → x.st = .stopped → s.dma.halted = false → ∃ u, exec (.channelStart c t) s0 = .next u ∧ (u.chan c).st = .running ∧
      (u.chan c).fetch = some first ∧ (u.chan c).index = first ∧ (u.chan c).cause = 0 ∧ (u.chan c).flight = [] ∧
      (u.chan c).cfg = s.reg (blk 9 (0x100 + 32 * c)) ∧ u.regs = s.regs ∧ others u) ∧
    (direct → on → x.st ≠ .stopped ∨ s.dma.halted = true → exec (.channelStart c t) s0 = .next (s.raise 8 5)) ∧
    (direct → on → x.st = .running → x.flight = [] → s.chanHangs c = false → ∃ u, exec (.channelStop c t) s0 = .next u ∧
      (u.chan c).st = .stopped ∧ (u.chan c).cause = 2 ∧ (u.chan c).fetch = none ∧ others u) ∧
    (direct → on → x.st = .running → x.flight ≠ [] ∨ s.chanHangs c = true → ∃ u, exec (.channelStop c t) s0 = .next u ∧
      u.chan c = { x with st := .stopping, hung := s.chanHangs c, ending := some 2, fetch := none } ∧ others u) ∧
    (direct → on → x.st = .waiting → ∃ u, exec (.channelStop c t) s0 = .next u ∧ (u.chan c).st = .stopped ∧ (u.chan c).cause = 2 ∧ others u) ∧
    (direct → on → (x.st = .stopped ∨ x.st = .stopping) → exec (.channelStop c t) s0 = .next s) ∧
    (direct → on → ∃ u, exec (.stopAll t) s0 = .next u ∧ u.mem = s.mem ∧ u.dma.halted = s.dma.halted ∧ (∀ k, k < 16 → ¬busy k → u.chan k = s.chan k) ∧
      ∀ k, k < 16 → busy k → (u.chan k).st = .stopping ∧ (u.chan k).flight = (s.chan k).flight ∨ (u.chan k).st = .stopped) ∧
    (direct → on → ∃ u, exec (.clearHalt t) s0 = .next u ∧ u.dma = { s.dma with halted := false } ∧ u.mem = s.mem ∧
      u.reg (blk 8 0x018) = setFld (s.reg (blk 8 0x018)) 31 31 0) ∧
    (direct → ¬on → exec (.channelStart c t) s0 = .next (s.hostFault 0x02 (blk 9 (0x108 + 32 * c))) ∧
      exec (.channelStop c t) s0 = .next (s.hostFault 0x02 (blk 9 (0x108 + 32 * c))) ∧
      exec (.stopAll t) s0 = .next (s.hostFault 0x02 (blk 8 0x010)) ∧
      exec (.clearHalt t) s0 = .next (s.hostFault 0x02 (blk 8 0x010)))

/-- DESCRIPTOR_FETCH, PACE_TICK, TRANSACTION_COMPLETE, BUS_ERROR (R391 to R393, R396 to R401, R508), with FCLK within its limits (R326): a fetched
descriptor is refused for its parity, its format or a range of class Control, acts at once when it is link-only, and is otherwise taken in hand; a
word is read, swapped and written whole at addresses that advance by their increments; a grid tick starts the descriptor that waits; a bus error halts
the unit and stops every channel, and what had issued by then lands; no word lands sooner than the hold of its requests lets it. Rests on the model's
readings and choices of log entries 34, 49. -/
def Obligations.DescriptorsMoveWords : Prop :=
  ∀ (c : Fin 16) (i : Nat) (v : DmaWord) (rest : List DmaWord) (wr : Bool) (rw ww t : Nat) (s0 : State),
    let s := s0.upTo t
    let x := s.chan c
    let w := fun k => s.wordAt (0x320000 + 16 * i + 4 * k)
    let parity := (List.range 4).any fun k => s.bad (0x320000 + 16 * i + 4 * k)
    let fetches := x.fetch = some i ∧ x.st = .running ∧ x.ending = none ∧ s.dma.halted = false ∧ s.unitOn 17 = true ∧ s.clkRuns .fclk = true ∧
      x.flight = [] ∧ x.hung = false
    let len := fld (w 2) 23 0
    let badFormat := descFormatBad (w 0) (w 1) (w 2) (w 3) = true
    let badPlace := descControl (w 0) (w 1) (w 2) (w 3) = true
    let refused := fun cause => ∃ u, exec (.descriptorFetch c t) s0 = .next u ∧ (u.chan c).st = .stopped ∧ (u.chan c).cause = cause ∧
      u.event 8 3 = true ∧ u.mem = s.mem ∧ ∀ k, k ≠ c.val → u.chan k = s.chan k
    let tick := (s.tb x.paceTb).tickNo
    let grid := x.pace ≠ 0 ∧ x.gridAt < tick ∧ (tick - x.gridAt) % x.pace = 0 ∧ x.usedGrid ≠ some tick
    let keeps := s.fclkFast = false ∧ s.fclkSlow = false
    let late := s.reg (blk 8 0x024)
    (fetches → parity = true → refused 6) ∧
    (fetches → parity = false → len ≠ 0 → badFormat → refused 4) ∧
    (fetches → parity = false → len ≠ 0 → ¬badFormat → badPlace → refused 5) ∧
    (fetches → parity = false → len ≠ 0 → ¬badFormat → ¬badPlace → x.pace = 0 → ∃ u, exec (.descriptorFetch c t) s0 = .next u ∧
      (u.chan c).st = .running ∧ (u.chan c).left = len / 4 ∧ (u.chan c).src = wordOf (fld (w 0) 27 0) ∧
      (u.chan c).dst = wordOf (fld (w 1) 27 0) ∧ (u.chan c).ctrl = w 3 ∧ u.mem = s.mem) ∧
    (fetches → parity = false → len = 0 → bit (w 3) 19 = false → x.links < 15 → ∃ u, exec (.descriptorFetch c t) s0 = .next u ∧
      (u.chan c).st = .running ∧ (u.chan c).fetch = some (fld (w 3) 31 20) ∧ (u.chan c).links = x.links + 1 ∧
      (u.chan c).descs = x.descs + 1 ∧ (bit (w 3) 18 = true → u.event 9 (1 + c) = true) ∧ u.mem = s.mem) ∧
    (fetches → parity = false → len = 0 → bit (w 3) 19 = false → x.links = 15 → ∃ u, exec (.descriptorFetch c t) s0 = .next u ∧
      (u.chan c).st = .stopped ∧ (u.chan c).cause = 3 ∧ u.event 8 4 = true) ∧
    (grid → x.st = .waiting → exec (.paceTick c t) s0 =
      .next (s.setChan c { x with st := .running, waits := false, usedGrid := some tick })) ∧
    (grid → x.st = .running → x.left ≠ 0 → ∃ u, exec (.paceTick c t) s0 = .next u ∧ u.chan c = { x with usedGrid := some tick } ∧
      u.event 8 6 = true ∧ (late ≠ 0xFFFFFFFF → u.reg (blk 8 0x024) = late + 1)) ∧
    (x.flight = [] → s.chanIssues c = true → s.dmaAcks x.src = true → s.dmaAcks x.dst = true → s.dmaErr = 0 → 1 < x.left → keeps →
      (atBank x.src = true → s.holdAt 1 (s.readBy x.src x.dst rw ww) ≤ rw) →
      (atBank x.dst = true → s.holdAt 1 (s.now - bankCycles x.dst ww) ≤ ww) →
      ∃ u, exec (.transactionComplete c ⟨0, rw, ww⟩ t) s0 = .next u ∧ u.wordAt x.dst = swapWord (fld x.ctrl 17 16) (s.wordAt x.src) ∧
        (u.chan c).src = incAddr (fld x.ctrl 13 12) x.src ∧ (u.chan c).dst = incAddr (fld x.ctrl 15 14) x.dst ∧
        (u.chan c).left = x.left - 1 ∧ (u.chan c).st = .running ∧
        ∀ k, (k < wordOf x.dst ∨ wordOf x.dst + 4 ≤ k) → u.byteAt k = s.byteAt k) ∧
    (∀ ctrl, x.flight = [{ v with last := some ctrl }] → x.st = .running → s.dmaAcks v.dst = true → bit ctrl 19 = true → s.dmaRuns = true →
      keeps → s.wordHeld v rw ww = false → x.ending = none → x.hung = false → ∃ u, exec (.transactionComplete c ⟨0, rw, ww⟩ t) s0 = .next u ∧
        u.wordAt v.dst = v.val ∧
        (u.chan c).st = .stopped ∧
        (u.chan c).cause = 1 ∧ (u.chan c).descs = x.descs + 1 ∧ u.event 8 2 = true ∧ (bit ctrl 18 = true → u.event 9 (1 + c) = true)) ∧
    (x.flight = v :: rest → s.wordHeld v rw ww = true → exec (.transactionComplete c ⟨0, rw, ww⟩ t) s0 = .next s) ∧
    (s.dma.halted = false → s.chanIssues c = true → s.dmaAcks x.src = false → s.dmaErr = 0 → x.flight = [v] → s.dmaAcks v.dst = true → keeps →
      ∃ u, exec (.busError c ⟨false, List.replicate c 0 ++ [1]⟩ t) s0 = .next u ∧ u.dma.halted = true ∧
        u.wordAt v.dst = v.val ∧ (u.chan c).st = .stopped ∧ (u.chan c).cause = 7) ∧
    (s.dma.halted = false → (wr = true ∧ x.flight = v :: rest ∧ s.dmaAcks v.dst = false ∨
        wr = false ∧ (s.chanIssues c = true ∧ s.dmaAcks x.src = false ∨ x.hung = true) ∧ s.dmaErr = 0) →
      ∃ u, exec (.busError c ⟨wr, []⟩ t) s0 = .next u ∧ u.dma.halted = true ∧ u.event 8 1 = true ∧ u.mem = s.mem ∧
        u.reg (blk 8 0x018) = BitVec.ofNat 32 (0x80000000 + (if wr then 0x100000 else 0) + c * 0x10000) ∧
        u.reg (blk 8 0x01C) = BitVec.ofNat 32 (if wr then v.dst else x.src) ∧
        ∀ k, k < 16 → (s.chan k).st ≠ .stopped → (u.chan k).st = .stopped ∧ (u.chan k).cause = 7)

/-- METER_POWER_UP, SEAL, UNSEAL, SEAL_N_CHANGE, PARAM_RELOAD (R423 to R429, R433): the meter comes up with the parameters and the seal state of its
last record; a seal command is refused at the first check of R425 that fails, and otherwise burns its record, each with its log entry; with SW18 off
it faults, and in APPLYING it waits (R58); a lasting change of SEAL_N is logged, and a low level that a short high one broke counts anew; a shadow
word in error reloads all 24 from the live record while sealed. Rests on the model's readings and choices of log entry 53. -/
def Obligations.SealCommands : Prop :=
  ∀ (level : Bool) (n : Fin 24) (r : SealRecord) (k : Nat) (t : Nat) (s0 : State),
    let s := s0.upTo t
    let m := s.meter
    let on := s.domain 18 = true
    let direct := s.loader.st ≠ .applying
    let room := m.seq < 262143
    let count := m.records.length
    let why := fun (isSeal : Bool) =>
      if s.sealHeld = false then 1
      else if isSeal = true ∧ m.sealSt = .sealed ∨ isSeal = false ∧ (m.sealSt = .never ∨ m.sealSt = .unsealed) then 2
      else if m.sealSt = .permanent then 3
      else if s.reg (blk 0x80 0x020) ≠ s.sealCheck then 4
      else if isSeal = true ∧ s.paramsBad = true then 5
      else if isSeal = true ∧ (m.degraded = true ∨ m.disagree = true) then 6
      else 0
    let refused := fun (u : State) (c : Nat) => u.reg (blk 0x80 0x028) = BitVec.ofNat 32 c ∧ u.event 0x80 3 = true ∧
      u.meter.sealSt = m.sealSt ∧ Safety.Logged s u 4 c (s.reg (blk 0x80 0x020)).toNat s.sealCheck.toNat
    (on → m.up = false → m.records = [] → s.straps.testen = false → ∃ u, exec (.meterPowerUp t) s0 = .next u ∧ u.meter.up = true ∧
      u.meter.sealSt = .never ∧ u.params = (List.range 24).map (fun k => resetWord (blk 0x80 (0x100 + 4 * k))) ∧ u.meter.seq = 1 ∧
      u.meter.epoch = m.epoch) ∧
    (on → m.up = false → m.live = some (k, r) → r.words.length = 24 → m.epoch < 16383 → ∃ u, exec (.meterPowerUp t) s0 = .next u ∧
      u.meter.up = true ∧ u.params = r.words ∧ u.meter.epoch = m.epoch + 1 ∧ u.meter.records = m.records ∧
      u.meter.sealSt = (if r.unsealed = true then .unsealed else if k = 15 then .permanent else .sealed)) ∧
    (direct → on → room → ∀ ok, why true ≠ 0 → ∃ u, exec (.seal ok t) s0 = .next u ∧ refused u (why true) ∧ u.meter.records = m.records) ∧
    (direct → on → room → why true = 0 → count < 16 → ∃ u, exec (.seal true t) s0 = .next u ∧ u.reg (blk 0x80 0x028) = 0 ∧ u.event 0x80 1 = true ∧
      u.meter.records = m.records ++ [⟨s.params, s.sealCheck, BitVec.ofNat 32 (s.auditNow + 1), false, true⟩] ∧
      u.meter.sealSt = (if count = 15 then .permanent else .sealed) ∧ Safety.Logged s u 2 count s.sealCheck.toNat 0) ∧
    (direct → on → room → why true = 0 → count < 16 → ∃ u, exec (.seal false t) s0 = .next u ∧ refused u 7 ∧ u.meter.records.length = count + 1) ∧
    (direct → on → room → ∀ ok, why false ≠ 0 → ∃ u, exec (.unseal ok t) s0 = .next u ∧ refused u (why false) ∧ u.meter.records = m.records) ∧
    (direct → on → room → why false = 0 → m.live = some (k, r) → k < 16 → ∃ u, exec (.unseal true t) s0 = .next u ∧ u.reg (blk 0x80 0x028) = 0 ∧
      u.event 0x80 2 = true ∧ u.meter.sealSt = .unsealed ∧ u.meter.records = m.records.set k { r with unsealed := true } ∧
      Safety.Logged s u 3 k r.check.toNat 0) ∧
    (on → room → m.sealN ≠ level → ∃ u, exec (.sealNChange level t) s0 = .next u ∧ u.meter.sealN = level ∧ u.params = s.params ∧
      Safety.Logged s u 8 (if level = true then 1 else 0) 0 0) ∧
    (¬on ∨ m.sealN = level ∧ level = true → exec (.sealNChange level t) s0 = .next s) ∧
    (on → m.sealN = false → exec (.sealNChange false t) s0 = .next { s with meter := { m with sealNSince := s.xcycles } }) ∧
    (on → s.isSealed = true → m.live = some (k, r) → r.words.length = 24 → ∃ u, exec (.paramReload n t) s0 = .next u ∧ u.params = r.words ∧
      u.event 0x80 0 = true ∧ u.meter.shadowBad = []) ∧
    (on → s.isSealed = false → ∃ u, exec (.paramReload n t) s0 = .next u ∧ u.event 0x80 0 = true ∧
      u.chanValid 0 = false ∧ u.chanValid 1 = false ∧ u.params = s.params) ∧
    (direct → ¬on → ∀ ok, exec (.seal ok t) s0 = .next (s.hostFault 0x02 (blk 0x80 0x024)) ∧
      exec (.unseal ok t) s0 = .next (s.hostFault 0x02 (blk 0x80 0x024)))

/-- METER_SECOND, LT_UPDATE, TAP_FRAME, TAP_TIMEOUT, CLOCK_DEGRADED (R412, R413, R415, R417, R430, R436): a whole second closes each channel's mean
(to the model's 2^-96), which counts only where the channel was VALID throughout and the meter had a clock, and ends the combined entry and, with XCLK
back, DEGRADED; LT shows the smoothed level within 20.00 to 140.00 dB, or 0 from a channel that is off or not VALID; a tap is VALID from its 16th good
frame on and ceases to be at a short one or a time-out; a lost XCLK sets DEGRADED and takes METER_OK down. Rests on the model's readings and choices
of log entries 24, 53, 72. -/
def Obligations.MeterMeasures : Prop :=
  ∀ (ch : Fin 2) (dco bits half : Nat) (slots : List Word) (cls : BitVec 4) (xclk : Bool) (t : Nat) (s0 : State),
    let s := s0.upTo t
    let on := s.domain 18 = true
    let m := s.meter
    let c := s.mchan ch
    let tap := s.srcKind ch = 1
    let short := layoutShort (s.tapWord ch) bits half = true
    let clocked := xclk = true ∨ s.clocks.dco ≠ .off
    let mean := if c.samples = 0 then 0 else c.sum / (c.samples : Rat)
    let lt := fun (u : State) => fld (u.reg (blk 0x80 (0x040 + 32 * ch))) 31 16
    (on → tap → ∃ u, exec (.meterSecond dco xclk t) s0 = .next u ∧ u.meter.seconds = m.seconds + 1 ∧ u.meter.rejected = 0 ∧
      (u.mchan ch).sum = 0 ∧ (u.mchan ch).samples = 0 ∧ (∃ (e : Rat) (ok : Bool), |e - mean| ≤ 1 / 2 ^ 96 ∧
        (u.mchan ch).seconds = (⟨e, ok⟩ :: c.seconds).take 3600 ∧
        (ok = true ↔ clocked ∧ c.wasValid = true ∧ m.shadowBad = [])) ∧ u.params = s.params ∧
      (m.degraded = true → u.meter.degraded = !xclk)) ∧
    (on → ∃ u, exec (.ltUpdate t) s0 = .next u ∧ (s.srcKind 0 ≠ 2 → s.srcKind 1 ≠ 2 → u.meter = m) ∧ u.params = s.params ∧ (s.srcKind ch = 0 ∨
      s.chanValid ch = false → lt u = 0) ∧
      (s.srcKind ch ≠ 0 → s.chanValid ch = true → 2000 ≤ lt u ∧ lt u ≤ 14000) ∧
      fld (u.reg (blk 0x80 (0x040 + 32 * ch))) 15 0 = fld (s.reg (blk 0x80 (0x040 + 32 * ch))) 15 0) ∧
    (on → tap → short → ∃ u, exec (.tapFrame ch bits half slots cls t) s0 = .next u ∧ (u.mchan ch).valid = false ∧ (u.mchan ch).goodRun = 0) ∧
    (on → tap → ¬short → c.prevBits = some bits → c.valid = false → c.goodRun < 15 →
      ∃ u, exec (.tapFrame ch bits half slots cls t) s0 = .next u ∧ (u.mchan ch).valid = false ∧ (u.mchan ch).goodRun = c.goodRun + 1) ∧
    (on → tap → ¬short → c.prevBits = some bits → c.valid = false → 15 ≤ c.goodRun →
      ∃ u, exec (.tapFrame ch bits half slots cls t) s0 = .next u ∧ (u.mchan ch).valid = true ∧ (u.mchan ch).samples = c.samples + 1 ∧
        (u.mchan ch).cls = s.tapClass ch) ∧
    (on → tap → ∃ u, exec (.tapTimeout ch t) s0 = .next u ∧ (u.mchan ch).valid = false ∧ (u.mchan ch).goodRun = 0 ∧
      (u.mchan ch).cls = 0 ∧ (u.mchan ch).seconds = c.seconds) ∧
    (on → m.degraded = false → m.seq < 262143 → ∃ u, exec (.clockDegraded t) s0 = .next u ∧ u.meter.degraded = true ∧ u.meter.ok = false ∧
      u.event 0x80 7 = true ∧ u.meter.chans = m.chans ∧ Safety.Logged s u 9 0 0 0) ∧
    (¬on → exec (.meterSecond dco xclk t) s0 = .next s ∧ exec (.ltUpdate t) s0 = .next s ∧
      exec (.tapFrame ch bits half slots cls t) s0 = .next s ∧ exec (.clockDegraded t) s0 = .next s)

/-- VIN_LOSS, POWER_UP, RAIL_TIMEOUT, OVER_VOLTAGE_RESTART (R443, R444, R446, R470, R472): a loss of VIN takes every domain and all state but the
one-time seal store and the UID; a power-up brings SW18, SW19 and SW20 on with the straps as sampled, the boot at its first step; a rail that misses
its window leaves everything off. ROM_CHECK_END, NO_LOCK (R472, R473, R480): with no lock the core leaves reset with cause NO_LOCK; a failed ROM check
halts it and leaves the module on XCLK; after a good one the image is obtained as BOOT directs, but after NO_LOCK and after a reset of the core alone;
in any other phase neither acts. Rests on the model's readings and choices of log entries 34, 63; what memory, the power unit and the clocks hold
after the supply has been lost, or come up with, on those of log entries 3, 10, 70 and 71. -/
def Obligations.SupplyLossPowerUpAndStartUp : Prop :=
  (∀ (high : Bool) (straps : Straps) (t : Nat) (s0 : State),
      let s := s0.upTo t
      let stores := fun (u : State) => u.meter.records = s.meter.records ∧ u.meter.epoch = s.meter.epoch ∧ u.uid = s.uid ∧ u.pending = s.pending
      (s.power.vin = true → ∃ u, exec (.vinLoss high t) s0 = .next u ∧ u.power.vin = false ∧ u.power.overVoltage = high ∧ u.power.pgood = false ∧
        u.power.on = [] ∧ u.power.aux5.on = false ∧ u.power.aux33.on = false ∧ u.regs = [] ∧ u.mem = [] ∧ u.engines = [] ∧ u.ports = [] ∧ stores u) ∧
      (s.power.vin = false → exec (.vinLoss high t) s0 = .next s) ∧
      (s.power.vin = false → ∃ u, exec (.powerUp straps t) s0 = .next u ∧ u.power = Power.reset ∧ u.core = Core.reset ∧
        u.clocks = { Clocks.reset with pinHz := s.clocks.pinHz } ∧
        u.straps = straps ∧ u.host.active = straps.devnum ∧ u.reg (blk 4 0x010) = BitVec.ofNat 32 straps.hmode.toNat ∧
        (∀ a, a ≠ blk 4 0x010 → u.reg a = resetWord a) ∧ u.mem = [] ∧ u.meter.up = false ∧ stores u) ∧
      (s.power.vin = true → exec (.powerUp straps t) s0 = .next s) ∧
      (s.power.vin = false → s.power.overVoltage = true → ∃ u, exec (.overVoltageRestart straps t) s0 = .next u ∧
        exec (.powerUp straps t) s0 = .next u) ∧
      (s.power.vin = true ∨ s.power.overVoltage = false → exec (.overVoltageRestart straps t) s0 = .next s) ∧
      (s.power.vin = false → exec (.railTimeout t) s0 =
        .next { s with power := { s.power with pgood := false, on := [] } })) ∧
  (∀ (ok : Bool) (t : Nat) (s0 : State),
      let s := s0.upTo t
      let c := s.core
      let boot := s.straps.boot.toNat
      let phase := fun (u : State) p => u.core = { c with phase := p } ∧ u.regs = s.regs ∧ u.mem = s.mem
      let quiet := s.waiting = [] ∧ s.gpio.waiting = 0
      let good := c.phase = .romCheck ∧ (s.cross 70).active = false ∧ quiet
      (c.phase = .locking → c.inReset = true → exec (.noLock t) s0 =
        .next ((s.setCore { c with cause := 1, inReset := false, phase := .romCheck }).raise 6 3)) ∧
      (c.phase ≠ .locking ∨ c.inReset = false → exec (.noLock t) s0 = .next s) ∧
      (c.phase ≠ .romCheck → exec (.romCheckEnd ok t) s0 = .next s) ∧
      (c.phase = .romCheck → exec (.romCheckEnd false t) s0 =
        .next (((s.setCore { c with phase := .halted, cause := 2 }).raise 6 3).clocksToXclk)) ∧
      (good → c.cause ≠ 1 → boot = 0 → ∃ u, exec (.romCheckEnd true t) s0 = .next u ∧ phase u .waitHost) ∧
      (good → c.cause ≠ 1 → boot = 1 → ∃ u, exec (.romCheckEnd true t) s0 = .next u ∧ phase u .flash) ∧
      (good → c.cause ≠ 1 → boot = 2 → ∃ u, exec (.romCheckEnd true t) s0 = .next u ∧ phase u .queued) ∧
      (good → c.cause ≠ 1 → boot = 3 → exec (.romCheckEnd true t) s0 =
        .next (s.setCore { c with phase := .waitHost, cause := 3 })) ∧
      (good → c.cause = 1 → ∃ u, exec (.romCheckEnd true t) s0 = .next u ∧ phase u .waitHost) ∧
      (c.phase = .romCheck → (s.cross 70).active = true → quiet → ∃ u, exec (.romCheckEnd true t) s0 = .next u ∧ (u.cross 70).active = false ∧
        u.core.phase = (if c.imageStands = true then .running else .waitHost) ∧ u.regs = s.regs))

/-- DOMAIN_EN_WRITE, DOMAIN_DONE, STORE_LOST, RETENTION_LOST (R97, R98, R449 to R452): outside APPLYING (R58) a refused write of DOMAIN_EN changes no
enable; another takes bits 13 to 20, its domains going off at once and coming on later; a domain that has come on is on and flagged; memories that
were not retained are cleared, and a Set's engines then wait for their reload. Rests on the model's readings and choices of log entries 34, 52. -/
def Obligations.DomainsSwitchAndClear : Prop :=
  ∀ (w : Word) (d : Fin 20) (q : Fin 4) (n : Fin 8) (t : Nat) (s0 : State),
    let s := s0.upTo t
    let p := s.power
    let en := s.reg (blk 1 0x01C)
    let guarded := bit en 18 = true ∧ bit w 18 = false ∧ s.isSealed = true ∧ s.anyGslot = true
    let loading := bit en 19 = true ∧ bit w 19 = false ∧ s.loader.st ≠ .idle ∧ s.loader.st ≠ .failed
    let refused := p.target ≠ none ∨ guarded ∨ loading
    let direct := s.loader.st ≠ .applying
    let zeroed := fun (u : State) (lo hi : Nat) => (∀ a, lo ≤ a → a < hi → u.byteAt a = 0) ∧ ∀ a, (a < lo ∨ hi ≤ a) → u.byteAt a = s.byteAt a
    (direct → refused → ∃ u, exec (.domainEnWrite w t) s0 = .next u ∧ u.reg (blk 1 0x01C) = en ∧ u.power = p ∧ u.event 1 4 = true ∧ u.mem = s.mem) ∧
    (direct → ¬refused → p.mode = .run → ∃ u, exec (.domainEnWrite w t) s0 = .next u ∧
      u.reg (blk 1 0x01C) = (en &&& 0xFFE01FFF) ||| (w &&& 0x001FE000) ∧ ∀ k, 13 ≤ k → k ≤ 20 →
        (bit w k = false → k ∉ u.power.on ∧ k ∉ u.power.rising) ∧ (bit w k = true → (k ∈ p.on → k ∈ u.power.on) ∧
          (k ∉ p.on → k ∉ u.power.on ∧ (p.vin = true → k ∈ u.power.rising)))) ∧
    (d.val + 1 ∈ p.rising → ∃ u, exec (.domainDone d t) s0 = .next u ∧ u.domain (d.val + 1) = true ∧ d.val + 1 ∉ u.power.rising ∧
      u.event 1 5 = true) ∧
    (d.val + 1 ∉ p.rising → exec (.domainDone d t) s0 = .next s) ∧
    (s.domain (9 + q.val) = true → 9 + q.val ∈ p.lost → s.loader.clockTodo = [] → ∃ u, exec (.storeLost q t) s0 = .next u ∧
      9 + q.val ∉ u.power.lost ∧ u.event 1 6 = true ∧ zeroed u (0x2000000 + q.val * 0x400000) (0x2400000 + q.val * 0x400000) ∧
      ∀ a, 0x2000000 + q.val * 0x400000 ≤ a → a < 0x2400000 + q.val * 0x400000 → u.wordAt a = 0) ∧
    (s.domain (n.val + 1) = true → n.val + 1 ∈ p.lost → s.loader.clockTodo = [] → (∀ k, k < 4 → (s.eng (4 * n.val + k)).st = .off) →
      ∃ u, exec (.retentionLost n t) s0 = .next u ∧ n.val + 1 ∉ u.power.lost ∧ u.event (0x60 + n.val) 2 = true ∧
        (∀ a, (engBase (4 * n.val) ≤ a ∧ a < engBase (4 * n.val + 4) ∨
          0x1000000 + n.val * 0x200000 ≤ a ∧ a < 0x1200000 + n.val * 0x200000) → u.byteAt a = 0) ∧
        ∀ k, k < 4 → (u.eng (4 * n.val + k)).reload = true ∧ (u.eng (4 * n.val + k)).st = .off)

/-- SLEEP, DEEP_SLEEP, RUN, MODE_DONE, WAKE, WAKE_GPIO, WAKE_RESUME, THERM_SHUT, THERMAL_CUTOFF (R454 to R458, R460, R464, R465): outside APPLYING
(R58) a change of mode begins with BUSY, is refused while another is in progress and ignored in thermal shutdown; an entry stops the engines and
records those that ran; its end takes the mode, in deep-sleep with every domain but SW18 off and the DCO OFF; a wake is recorded and starts the exit,
or is latched during an entry; thermal shutdown takes the module into deep-sleep. Rests on the model's readings and choices of log entries 34, 52. -/
def Obligations.PowerModesChange : Prop :=
  ∀ (i : Fin 16) (level : Bool) (temp : BitVec 16) (t : Nat) (s0 : State),
    let s := s0.upTo t
    let p := s.power
    let hot := p.therm = true ∧ p.cool = false
    let idle := ¬hot ∧ p.target = none
    let direct := s.loader.st ≠ .applying
    let wakes := fun (u : State) cause => u.power.target = some .run ∧ u.power.exiting = true ∧ u.power.wakeCause = cause ∧ u.event 1 2 = true
    let entered := fun (u : State) m => u.power.target = some m ∧ u.power.exiting = false ∧ u.power.mode = p.mode ∧ u.core.paused = true ∧
      ∀ e, e < 32 → bit (u.reg (blk 1 0x064)) e = ((s.eng e).st == .running) ∧ ((s.eng e).st = .armed → (u.eng e).st = .stopped) ∧
        ((s.eng e).st = .running → (u.eng e).stopping = true ∨ (u.eng e).st = .stopped)
    let en := s.reg (blk 1 0x030)
    let pins := s.reg (blk 1 0x034)
    let pinOn := bit en 2 = true ∧ bit pins i = true ∧ bit pins (16 + i.val) = !level
    let stays := s.core.phase = .settling ∨ s.core.phase = .locking ∨ s.core.phase = .halted ∨ s.core.phase = .asleep
    let onlySealed := fun (u : State) => ∀ k, 1 ≤ k → k ≤ 20 → k ≠ 18 → k ∉ u.power.on
    (direct → idle → p.mode = .run → ∃ u, exec (.sleep t) s0 = .next u ∧ entered u .sleep ∧ u.ports = s.ports) ∧
    (direct → idle → p.mode = .deepSleep → ∃ u, exec (.sleep t) s0 = .next u ∧ u.power.target = some .sleep ∧ u.power.exiting = true) ∧
    (direct → idle → p.mode ≠ .deepSleep → ∃ u, exec (.deepSleep t) s0 = .next u ∧ entered u .deepSleep ∧ u.meter.muted = true ∧
      ∀ k, k < 16 → (s.port k).st = .running → (u.port k).st = .stopping) ∧
    (direct → idle → p.mode ≠ .run → ∃ u, exec (.run t) s0 = .next u ∧ wakes u 1 ∧ u.power.mode = p.mode) ∧
    (direct → idle → (p.mode = .sleep → exec (.sleep t) s0 = .next s) ∧ (p.mode = .deepSleep → exec (.deepSleep t) s0 = .next s) ∧
      (p.mode = .run → exec (.run t) s0 = .next s)) ∧
    (direct → ¬hot → p.target ≠ none → exec (.sleep t) s0 = .next (s.raise 1 3) ∧ exec (.deepSleep t) s0 = .next (s.raise 1 3) ∧
      exec (.run t) s0 = .next (s.raise 1 3)) ∧
    (direct → hot → exec (.sleep t) s0 = .next s ∧ exec (.deepSleep t) s0 = .next s ∧ exec (.run t) s0 = .next s) ∧
    (hot → exec (.wake t) s0 = .next s ∧ exec (.wakeGpio i level t) s0 = .next s) ∧
    (p.exiting = false → p.target = some .sleep → p.wakeLatched = none → ∃ u, exec (.modeDone t) s0 = .next u ∧ u.power.mode = .sleep ∧
      u.power.target = none ∧ u.event 1 1 = true ∧ u.power.on = p.on) ∧
    (p.exiting = false → p.target = some .deepSleep → p.wakeLatched = none → ∃ u, exec (.modeDone t) s0 = .next u ∧
      u.power.mode = .deepSleep ∧ u.power.target = none ∧ u.event 1 1 = true ∧ onlySealed u ∧ u.clocks.dco = .off ∧
      (stays → u.core.phase = s.core.phase) ∧ (¬stays → u.core.phase = .asleep ∧ u.core.saved = some s.core.phase)) ∧
    (p.exiting = false → p.target = some .sleep → ∀ c, p.wakeLatched = some c → ¬hot → ∃ u, exec (.modeDone t) s0 = .next u ∧ wakes u c ∧
      u.event 1 1 = true) ∧
    (idle → p.mode ≠ .run → bit en 1 = true → ∃ u, exec (.wake t) s0 = .next u ∧ wakes u 3) ∧
    (idle → p.mode ≠ .run → pinOn → ∃ u, exec (.wakeGpio i level t) s0 = .next u ∧ wakes u 4) ∧
    (¬hot → p.target ≠ none → p.target ≠ some .run → p.wakeLatched = none → bit en 1 = true →
      exec (.wake t) s0 = .next { s with power := { p with wakeLatched := some 3 } }) ∧
    (p.target = some .run → exec (.wake t) s0 = .next s) ∧
    (bit en 1 = false → exec (.wake t) s0 = .next s) ∧
    (¬pinOn → exec (.wakeGpio i level t) s0 = .next s) ∧
    (p.target = some .run → p.exiting = true → p.mode = .sleep → s.gpio.waiting = 0 → ∃ u, exec (.wakeResume t) s0 = .next u ∧ u.power.mode = .run ∧
      u.power.target = none ∧ u.event 1 1 = true ∧ u.power.on = p.on ∧ (bit (s.reg (blk 1 0x018)) 0 = true → u.reg (blk 1 0x064) = 0 ∧
        ∀ e, e < 32 → bit (s.reg (blk 1 0x064)) e = true → (s.eng e).st = .stopped → s.engBudget e ≠ 0 → (u.eng e).st = .armed)) ∧
    (p.mode = .deepSleep → p.target = none → ∃ u, exec (.thermShut t) s0 = .next u ∧ u.power.therm = true ∧ u.power.cool = false ∧
      u.power.mode = .deepSleep ∧ u.power.target = none ∧ u.power.aux5.on = false ∧ u.power.aux33.on = false) ∧
    (p.mode ≠ .deepSleep ∨ p.target ≠ none → ∃ u, exec (.thermShut t) s0 = .next u ∧ u.power.therm = true ∧ u.power.cool = false ∧
      u.power.target = some .deepSleep ∧ u.power.exiting = false ∧ u.power.aux5.on = false ∧ u.power.aux33.on = false ∧
      (p.therm = false → u.event 1 10 = true)) ∧
    (∃ u, exec (.thermalCutoff temp t) s0 = .next u ∧ u.power.therm = true ∧ u.power.mode = .deepSleep ∧ u.power.target = none ∧ onlySealed u ∧
      u.power.aux5.on = false ∧ u.power.aux33.on = false ∧ u.clocks.dco = .off ∧
      (p.mode ≠ .deepSleep ∨ p.target ≠ none → u.event 1 1 = true) ∧ (p.sampled = false → u.reg (blk 1 0x058) = temp.zeroExtend 32))

/-- AUX_FAULT, AUX_RETRY, AUX_POWER_GOOD, TELEMETRY_UPDATE (R448, R461 to R464): an output that stays in limit switches off with FAULT, counted and
flagged; with RETRY it turns on again; PG follows its window; telemetry words show the last millisecond's means and set the warnings whose thresholds
they pass, POWER_IN the product of VIN and the input current. Rests on the model's readings and choices of log entries 34, 52, POWER_IN between two
units or too wide for its field on those of log entries 28 and 30. -/
def Obligations.AuxiliaryOutputsAndTelemetry : Prop :=
  ∀ (o : AuxName) (good : Bool) (m : Telemetry) (t : Nat) (s0 : State),
    let s := s0.upTo t
    let a := s.power.aux o
    let count := s.reg (blk 1 0x060)
    let vinLimit := 10 * fld (s.reg (blk 1 0x040)) 9 0
    let warmLimit := 10 * fld (s.reg (blk 1 0x03C)) 7 0
    let top := BitVec.ofNat 16 (fld (s.reg (blk 1 0x058)) 15 0)
    (a.on = true → ∃ u, exec (.auxFault o t) s0 = .next u ∧ u.power.aux o = ⟨false, true, false, true⟩ ∧
      (∀ k, k ≠ o → u.power.aux k = s.power.aux k) ∧ u.event 1 7 = true ∧ (count ≠ 0xFFFFFFFF → u.reg (blk 1 0x060) = count + 1)) ∧
    (a.on = false → exec (.auxFault o t) s0 = .next s) ∧
    (a.fault = true → a.on = false → s.auxRetries o = true → s.auxWanted o = true → s.power.therm = false → s.power.vin = true →
      exec (.auxRetry o t) s0 = .next (s.setPower (s.power.setAux o { a with on := true, held := false }))) ∧
    (s.auxRetries o = false → exec (.auxRetry o t) s0 = .next s) ∧
    (exec (.auxPowerGood o good t) s0 = .next (s.setPower (s.power.setAux o { a with good := good && a.on }))) ∧
    (∃ u, exec (.telemetryUpdate m t) s0 = .next u ∧ u.reg (blk 1 0x044) = m.iin ++ m.vin ∧ u.reg (blk 1 0x048) = m.imem ++ m.icore ∧
      u.reg (blk 1 0x04C) = m.iio33 ++ m.iio18 ∧ u.reg (blk 1 0x050) = m.iaux33 ++ m.iaux5 ∧ u.reg (blk 1 0x054) = m.temp.zeroExtend 32 ∧
      u.reg (blk 1 0x05C) = (powerIn m.vin m.iin).zeroExtend 32 ∧ u.mem = s.mem ∧ u.power.mode = s.power.mode ∧
      (s.power.sampled = true → m.temp.toInt ≤ top.toInt → u.reg (blk 1 0x058) = s.reg (blk 1 0x058)) ∧
      (top.toInt < m.temp.toInt → u.reg (blk 1 0x058) = m.temp.zeroExtend 32) ∧
      (vinLimit ≠ 0 → m.vin.toNat < vinLimit → s.power.vinWarned = false → u.event 1 8 = true ∧ u.power.vinWarned = true) ∧
      (warmLimit ≠ 0 → (warmLimit : Int) < m.temp.toInt → s.power.thermWarned = false → u.event 1 9 = true ∧ u.power.thermWarned = true) ∧
      (m.temp.toInt < 1100 → u.power.cool = true))

/-- RESET_N, RST_MODULE (R374, R431, R470, R475, R476): a pulse under 100 ns is ignored and one of at least 1 us resets the module: every control
block but those of the sealed domain stands at its Reset values, memories are empty, start-up begins anew, and the seal store, the sealed parameters
and SW18 stay; between the two it may or may not. MODULE is the same but for ACTIVE, G, SILENCE and the HOST and IRQ blocks, which stay, and the host
port goes on; a core that a failed ROM check halted stays halted. Rests on the model's readings and choices of log entries 29, 62. -/
def Obligations.ModuleResets : Prop :=
  ∀ (low : Nat) (straps : Straps) (t : Nat) (s0 : State),
    let s := s0.upTo t
    let kept := fun (b : Nat) => b = 0x80 ∨ b = 0x81
    let started := fun (u : State) (scope : Nat) (core : Core) => u.core = core ∧ u.loader = Loader.reset ∧ u.engines = [] ∧ u.ports = [] ∧
      u.mem = [] ∧
      u.timebases = [] ∧ u.tickCount = 0 ∧ u.clocks = { Clocks.reset with xclkOk := s.clocks.xclkOk, pinHz := s.clocks.pinHz } ∧
        u.reg (blk 6 0x018) = BitVec.ofNat 32 scope ∧
      u.power.on = (if s.domain 18 = true then [18, 19, 20] else [19, 20]) ∧ u.straps = { straps with iovA := s.straps.iovA, iovB := s.straps.iovB } ∧
      u.params = s.params ∧ u.meter.sealSt = s.meter.sealSt ∧ u.meter.records = s.meter.records ∧ u.uid = s.uid ∧
      bit (u.reg (blk 1 0x01C)) 18 = bit (s.reg (blk 1 0x01C)) 18 ∧
      (s.domain 18 = true → s.meter.seq < 262143 → straps.testen = false → s.meter.muted = false → Safety.Logged s u 0x0E scope 0 0)
    (low < 100 ∨ s.power.vin = false → exec (.resetN low straps t) s0 = .next s) ∧
    (1000 ≤ low → s.power.vin = true → ∃ u, exec (.resetN low straps t) s0 = .next u ∧ started u 0xFF Core.reset ∧
      u.host = { HostPort.reset with active := straps.devnum } ∧ u.silent = 0 ∧
      u.reg (blk 4 0x010) = BitVec.ofNat 32 straps.hmode.toNat ∧
      ∀ a, ¬kept (a / 0x1000) → a ≠ blk 1 0x01C → a ≠ blk 4 0x010 → a ≠ blk 6 0x018 → u.reg a = resetWord a) ∧
    (100 ≤ low → low < 1000 → s.power.vin = true → ∃ u, exec (.resetN low straps t) s0 = .next u ∧
      (u = { s with drawn := s.drawn + 1 } ∨ u.core = Core.reset ∧ u.mem = [] ∧ u.engines = [])) ∧
    (s.power.vin = false → exec (.rstModule straps t) s0 = .next s) ∧
    (s.power.vin = true → ∃ u, exec (.rstModule straps t) s0 = .next u ∧ started u 1 (if s.core.phase = .halted ∨ s.core.saved = some .halted then
        { Core.reset with phase := .halted, cause := 2, inReset := false } else Core.reset) ∧ u.host.posted = s.host.posted ∧
          u.host.active = s.host.active ∧
      u.host.gen = s.host.gen ∧ (s.host.st = .quarantine → u.host.st = .normal) ∧
      u.silent = (if s.host.st = .normal then s.silent else 0) ∧
      (∀ a, a / 0x1000 = 4 ∨ a / 0x1000 = 5 ∨ a = blk 0 0x028 → u.reg a = s.reg a) ∧
      ∀ a, ¬kept (a / 0x1000) → a / 0x1000 ≠ 4 → a / 0x1000 ≠ 5 → a ≠ blk 0 0x028 → a ≠ blk 1 0x01C → a ≠ blk 6 0x018 → u.reg a = resetWord a)

/-- RST_CORE, RST_DMA, RST_ROUTER, RST_TDM_LOW, RST_TDM_HIGH, RST_BIPHASE, RST_SET (R476 to R480): each scope restarts the logic state of its units
and no others, and RST_LAST records it; ports, receivers and transmitters with EN set start again and the others stand DISABLED, a Set's present
engines enter STOPPED with their registers clear, DMA channels stop, and the core goes back to its ROM check with its mailbox rings empty, a load
under way failing with ABORTED. Rests on the model's readings and choices of log entries 31, 40, 62. -/
def Obligations.ScopesReset : Prop :=
  ∀ (k : Fin 8) (t : Nat) (s0 : State),
    let s := s0.upTo t
    let recorded := fun (u : State) (scope : Nat) => u.reg (blk 6 0x018) = BitVec.ofNat 32 scope ∧ u.params = s.params ∧ u.host = s.host
    let boots := s.core.phase = .halted ∨ s.core.phase = .settling ∨ s.core.phase = .locking ∨ s.core.phase = .asleep
    let starts := fun (n : Nat) => bit (s.reg (blk n 0x014)) 0 = true ∧ s.portsHeld = false
    let off := fun (p : Nat) => { Port.reset with
      stamps := (s.port p).stamps, stampAt := (s.port p).stampAt,
      rxLive := s.reg (blk (0x10 + p) 0x01C), txLive := s.reg (blk (0x10 + p) 0x020) }
    let port := fun (u : State) (p : Nat) => (starts (0x10 + p) → (u.port p).st = .starting ∧ (u.port p).count = 0) ∧ (¬starts (0x10 + p) →
      u.port p = off p)
    let load := s.loader.st = .stopping ∨ s.loader.st = .receiving ∨ s.loader.st = .verifying
    let cleared := fun (x : Engine) => x.d = [] ∧ x.acc = [] ∧ x.accSource = [] ∧ x.mark = [] ∧ x.markSource = [] ∧ x.lt = false ∧ x.eq = false ∧
      x.ptrOff = [] ∧ x.lc = [] ∧ x.g = [] ∧ x.outw = [] ∧ x.inp = [] ∧ x.fDrawer = [] ∧ x.fTap = [] ∧ x.fFrac = [] ∧ x.far = [] ∧ x.landings = []
    let rings := fun (u : State) => ∀ i ∈ [0x020, 0x024, 0x028, 0x02C], u.reg (blk 6 i) = 0
    (s.domain 19 = true → ¬boots → s.loader.st = .idle → s.loader.path ≠ .flash → s.core.phase ≠ .queued → ∃ u, exec (.rstCore t) s0 = .next u ∧
      recorded u 2 ∧ u.core.phase = .romCheck ∧ u.core.paused = true ∧ u.core.replies = [] ∧ u.core.autoWait = [] ∧
      u.mem = s.mem ∧ u.engines = s.engines ∧ u.ports = s.ports ∧ rings u) ∧
    (s.domain 19 = true → ¬boots → load → s.loader.path ≠ .flash → ∃ u, exec (.rstCore t) s0 = .next u ∧ recorded u 2 ∧ u.core.phase = .romCheck ∧
      u.core.paused = true ∧ rings u ∧ u.reg (blk 7 0x018) = 0x1800FFFF ∧ u.event 7 2 = true ∧
      u.loader.st = (if s.loader.full = false ∧ s.loader.begun = .idle then .idle else .failed)) ∧
    (s.domain 19 = true → ¬boots → s.loader.st = .applying → ∃ u, exec (.rstCore t) s0 = .next u ∧ u.core.resetPending = true ∧
      u.loader.st = .applying ∧ u.core.phase = s.core.phase) ∧
    (∃ u, exec (.rstDma t) s0 = .next u ∧ recorded u 3 ∧ u.dma.halted = false ∧ (∀ c, c < 16 → (u.chan c).st = .stopped) ∧
      u.engines = s.engines ∧ u.ports = s.ports) ∧
    (s.domain 13 = true → ∃ u, exec (.rstRouter t) s0 = .next u ∧ recorded u 4 ∧ u.router.xpt = [] ∧ u.router.sinkFade = [] ∧
      u.router.lim = [] ∧ u.router.zc = [] ∧ u.router.prefetch = [] ∧ u.router.lane = s.router.lane ∧
      bit (u.reg (blk 6 0x030)) 8 = true ∧ u.event 6 4 = true ∧ u.mem = s.mem ∧ u.engines = s.engines ∧ u.ports = s.ports) ∧
    (s.domain 14 = true → ∃ u, exec (.rstTdmLow t) s0 = .next u ∧ recorded u 5 ∧ (∀ p, p < 8 → port u p) ∧ (∀ p, 8 ≤ p → u.port p = s.port p) ∧
      bit (u.reg (blk 6 0x030)) 9 = true ∧ u.mem = s.mem ∧ u.engines = s.engines ∧ u.router = s.router) ∧
    (s.domain 15 = true → ∃ u, exec (.rstTdmHigh t) s0 = .next u ∧ recorded u 6 ∧ (∀ p, 8 ≤ p → p < 16 → port u p) ∧
      (∀ p, p < 8 → u.port p = s.port p) ∧ bit (u.reg (blk 6 0x030)) 10 = true ∧ u.mem = s.mem ∧ u.engines = s.engines ∧ u.router = s.router) ∧
    (s.domain 16 = true → ∃ u, exec (.rstBiphase t) s0 = .next u ∧ recorded u 7 ∧ bit (u.reg (blk 6 0x030)) 11 = true ∧ u.mem = s.mem ∧
      u.ports = s.ports ∧ ∀ n, n < 4 →
        u.rx n = (if starts (0x20 + n) then { BpRx.reset with st := .searching } else BpRx.reset) ∧
        (¬starts (0x24 + n) → u.tx n = { BpTx.reset with swapAt := (s.tx n).swapAt }) ∧
        (starts (0x24 + n) → s.txCount n ≠ 0 → u.tx n = { BpTx.reset with st := .starting, swapAt := (s.tx n).swapAt }) ∧
        (starts (0x24 + n) → s.txCount n = 0 →
          (u.tx n).st = (if s.holding (s.txTb n) = true then .hold else .running) ∧ u.event (0x24 + n) 1 = true)) ∧
    (s.domain (k.val + 1) = true → ∃ u, exec (.rstSet k t) s0 = .next u ∧ recorded u (0x10 + k.val) ∧
      bit (u.reg (blk 6 0x030)) k.val = true ∧ u.ports = s.ports ∧ ∀ i, i < 4 → cleared (u.eng (4 * k.val + i)) ∧
        ((s.eng (4 * k.val + i)).reload = false → s.engPresent (4 * k.val + i) = true → k.val + 1 ∉ s.power.lost →
          (u.eng (4 * k.val + i)).st = .stopped)) ∧
    (s.domain 13 = false → exec (.rstRouter t) s0 = .next ((s.logReset 4).rstLast 4)) ∧
    (s.domain 14 = false → exec (.rstTdmLow t) s0 = .next ((s.logReset 5).rstLast 5)) ∧
    (s.domain 15 = false → exec (.rstTdmHigh t) s0 = .next ((s.logReset 6).rstLast 6)) ∧
    (s.domain 16 = false → exec (.rstBiphase t) s0 = .next ((s.logReset 7).rstLast 7)) ∧
    (s.domain (k.val + 1) = false → exec (.rstSet k t) s0 = .next ((s.logReset (0x10 + k.val)).rstLast (0x10 + k.val)))

/-- DOORBELL, PING, IMAGE_LOAD, SET_CONTROL, EVENT_FIRE, BAD_OPCODE_COMMAND (R482 to R485, R490, R493): outside APPLYING (R58) CMD_HEAD advances
unless the ring would hold more than 64; the core reads the waiting slot, acts as its opcode says and posts the response with the command's opcode and
tag, at once or, for a load that proceeds, after its end; while an image is being applied it fires nothing (R63). Rests on the model's readings and
choices of log entries 34, 48; the words of the BUSY response on that of log entry 45, the whole read of the image at once on that of log entry 47,
the doorbell across a reset of the core on that of log entry 59, and what a start or a commit waits for on that of log entry 96. -/
def Obligations.MailboxCommandsAreAnswered : Prop :=
  ∀ (w : Word) (i e a : Nat) (h l : List Word) (t : Nat) (s0 : State),
    let s := s0.upTo t
    let ready := s.coreRuns = true ∧ s.mailBusy = false ∧ ringUsed (s.mail 2) (s.mail 3) < 64 ∧ s.mail 0 ≠ s.mail 1
    let direct := s.loader.st ≠ .applying
    let crossed := (s.cross 70).active = false
    let landed := ∀ l, s.laneWaits l = false
    let word := fun k => s.wordAt (0x300000 + 32 * (s.mail 1 % 64) + 4 * k)
    let op := fld (word 0) 31 24
    let slot := 0x300800 + 32 * (s.mail 2 % 64)
    let taken := fun (u : State) => u.reg (blk 6 0x024) = BitVec.ofNat 32 ((s.mail 1 + 1) % 128)
    let replied := fun (u : State) (status : Nat) => taken u ∧ u.reg (blk 6 0x028) = BitVec.ofNat 32 ((s.mail 2 + 1) % 128) ∧
      u.event 6 1 = true ∧ u.wordAt slot = BitVec.ofNat 32 (op * 2 ^ 24 + status * 2 ^ 16 + fld (word 0) 15 0)
    let entry := fld (word 1) 9 0
    let control := fld (word 1) 15 0
    let value := fld (word 2) 13 0
    let lo := (s.mapWord i 2).toInt
    let hi := (s.mapWord i 3).toInt
    let idle := s.loader.st = .idle ∨ s.loader.st = .failed
    let partly := bit (word 2) 0 = true
    let n := imgLength h
    (direct → crossed → 64 < ringUsed (fld w 6 0) (s.mail 1) → exec (.doorbell w t) s0 = .next (s.raise 6 7)) ∧
    (direct → crossed → ringUsed (fld w 6 0) (s.mail 1) ≤ 64 → exec (.doorbell w t) s0 = .next (s.setReg (blk 6 0x020) (w &&& 0x7F))) ∧
    (ready → op = 1 → ∃ u, exec (.ping t) s0 = .next u ∧ replied u 0 ∧ u.wordAt (slot + 4) = s.reg (blk 6 0x014)) ∧
    (ready → op = 0 ∨ 4 < op → ∃ u, exec (.badOpcodeCommand t) s0 = .next u ∧ replied u 1) ∧
    (direct → ready → op = 4 → s.evlValid entry = false → ∃ u, exec (.eventFire t) s0 = .next u ∧ replied u 2 ∧ u.engines = s.engines) ∧
    (s.loader.st = .applying → exec (.eventFire t) s0 = .next s) ∧
    (direct → ready → landed → op = 4 → s.evlValid entry = true → fld (s.evlWord entry 2) 23 16 = 2 → e = fld (s.evlWord entry 3) 4 0 →
      s.unitOn (e / 4 + 1) = true → (s.eng e).st = .stopped → s.engBudget e ≠ 0 → ∃ u, exec (.eventFire t) s0 = .next u ∧ replied u 0 ∧
        (u.eng e).st = .armed ∧ (u.eng e).start = .nextTick ∧ ∀ k, k ≠ e → u.eng k = s.eng k) ∧
    (ready → op = 3 → s.mapMatches control = [] → ∃ u, exec (.setControl t) s0 = .next u ∧ replied u 0 ∧ u.engines = s.engines ∧
      u.groups = s.groups) ∧
    (ready → op = 3 → s.mapMatches control = [i] → fld (s.mapWord i 0) 30 27 = 0 → e = fld (s.mapWord i 1) 28 24 → a = fld (s.mapWord i 1) 12 0 →
      s.unitOn (e / 4 + 1) = true → (s.eng e).lane.job = .idle → s.fclkFast = false →
      (bit (s.mapWord i 0) 26 = true → landed) → ∃ u, exec (.setControl t) s0 = .next u ∧ replied u 0 ∧
        u.wordAt (yAddr e (!(s.eng e).tableBank) a) = Safety.clamp (rneDiv (16383 * lo + (hi - lo) * value) 16383) ∧ a ∈ (u.eng e).lane.dirty ∧
        u.wordAt (yAddr e (s.eng e).tableBank a) = s.wordAt (yAddr e (s.eng e).tableBank a) ∧
        (bit (s.mapWord i 0) 26 = true → (u.grp (fld (s.mapWord i 0) 25 21)).st = .pending)) ∧
    (ready → op = 2 → a = wordOf (word 1).toNat → s.sourceOk (!(bit (word 2) 0)) a = false → ∃ u, exec (.imageLoad t) s0 = .next u ∧ replied u 2 ∧
      u.loader = s.loader) ∧
    (ready → op = 2 → a = wordOf (word 1).toNat → s.sourceOk (!(bit (word 2) 0)) a = true → ¬idle → ∃ u, exec (.imageLoad t) s0 = .next u ∧
      replied u 3 ∧ u.loader = s.loader ∧ u.wordAt (slot + 4) = BitVec.ofNat 32 (0x16 * 2 ^ 24 + 0xFFFF)) ∧
    (ready → op = 2 → a = wordOf (word 1).toNat → s.sourceOk false a = true → partly → idle → s.sourceWords a 5 = some h → lengthCode false n = 0 →
      s.sourceWords a (n / 4) = some l → bit (imgWord l 3) 0 = true → ∃ u, exec (.imageLoad t) s0 = .next u ∧ taken u ∧
        u.reg (blk 6 0x028) = s.reg (blk 6 0x028) ∧
        u.loader.st = .verifying ∧ u.loader.staged = l ∧ u.loader.full = false ∧ u.loader.path = .mailbox (word 0) a ∧ u.mem = s.mem)

/-- EVENT_LIST_FIRE, GPIO_EVENT, TICK_OUT_END (R486 to R488, R497, R498): a due entry whose turn it is fires its action, then is cleared or moves on
beyond the present tick with its count lowered; nothing fires while the list does not run, before its tick, or ahead of a lower index of its timebase
and tick; an edge that EDGE selects is stamped with the system counter, and fires its entry's action, waits for the core, is counted as missed or sets
FIRE_BAD; a TICK_OUT pin falls WIDTH x 16 cycles after its tick. Rests on the model's readings and choices of log entries 34, 51; what a start or a
commit waits for on that of log entry 96. -/
def Obligations.EventListAndPinsAct : Prop :=
  ∀ (i : Fin 1024) (late : Bool) (pin : Fin 16) (level busy : Bool) (t : Nat) (s0 : State),
    let s := s0.upTo t
    let w2 := s.evlWord i 2
    let period := fld (s.evlWord i 1) 31 16
    let count := fld w2 15 0
    let tick := s.evlTick i
    let action := fld w2 23 16
    let e := fld (s.evlWord i 3) 4 0
    let runs := s.evlRuns = true ∧ s.holding (fld w2 25 24) = false
    let ready := runs ∧ s.entryBad (evlAddr i) = false
    let due := runs ∧ s.evlTurn i = true ∧ tick ≤ s.tickCount.toNat
    let landed := ∀ l, s.laneWaits l = false
    let ran := exec (.eventListFire i late t) s0
    let steps := (s.tickCount.toNat - tick) / period + 1
    let missed := s.reg (blk 6 0x03C)
    let f := s.reg (blk 0x0B (0x040 + 4 * pin.val))
    let edge := s.gpio.level.getLsbD pin.val ≠ level ∧ fld f 2 0 = 1 ∧ (fld f 5 4 = 2 ∨ fld f 5 4 = (if level = true then 0 else 1))
    let stamped := fun (u : State) => u.reg (blk 0x0B (0x080 + 8 * pin.val)) = BitVec.ofNat 32 s.sysCount ∧
      u.reg (blk 0x0B (0x084 + 8 * pin.val)) = BitVec.ofNat 32 (s.sysCount / 2 ^ 32) ∧ u.event 0x0B (1 + pin.val) = true ∧
      u.gpio.level.getLsbD pin.val = level
    let fires := exec (.gpioEvent pin level busy t) s0
    let asks := edge ∧ bit f 19 = true
    let lost := busy = true ∨ s.gpio.waiting.getLsbD pin.val = true ∨ s.domain 19 = false ∨ s.power.mode = .deepSleep
    let k := fld f 29 20
    let same := fun (u : State) => u.mem = s.mem ∧ u.engines = s.engines
    (¬runs → ran = .next s) ∧
    (runs → s.entryBad (evlAddr i) = true → ran = .next (s.raise 6 0)) ∧
    (ready → bit w2 31 = false ∨ (∀ c, (s.tb (fld w2 25 24)).evlAt = some c → c < tick) → ran = .next s) ∧
    (ready → ∀ m, m < i.val → s.evlValid m = true → s.evlTb m = s.evlTb i → s.evlTick m = tick → ran = .next s) ∧
    (ready → s.evlTurn i = false → ran = .next s) ∧
    (due → action = 0 → period = 0 ∨ count = 1 → ∃ u, ran = .next u ∧ u.evlWord i 2 = setBit w2 31 false ∧ u.evlWord i 3 = s.evlWord i 3 ∧
      u.evlTick i = tick ∧ ∀ k, k ≠ i.val → k < 1024 → ∀ j, j < 4 → u.evlWord k j = s.evlWord k j) ∧
    (due → action = 0 → period ≠ 0 → count ≠ 1 → s.tickCount.toNat + 65536 ≤ 2 ^ 48 → missed.toNat + steps < 2 ^ 32 → ∃ u, ran = .next u ∧
      u.evlTick i = tick + steps * period ∧ s.tickCount.toNat < u.evlTick i ∧ bit (u.evlWord i 2) 31 = true ∧
      fld (u.evlWord i 2) 15 0 = count - 1 ∧ u.reg (blk 6 0x03C) = BitVec.ofNat 32 (missed.toNat + steps - 1)) ∧
    (due → action = 2 → landed → s.unitOn (e / 4 + 1) = true → (s.eng e).st = .stopped → s.engBudget e ≠ 0 → ∃ u, ran = .next u ∧
      (u.eng e).st = .armed ∧
      (late = true → u.event 6 5 = true)) ∧
    (due → action = 1 → landed → ∃ u, ran = .next u ∧ (u.grp e).st = .pending ∧ u.engines = s.engines) ∧
    (edge → bit f 19 = false → ∃ u, fires = .next u ∧ stamped u ∧ same u) ∧
    (asks → lost → ∃ u, fires = .next u ∧ stamped u ∧ same u ∧
      (s.reg (blk 0x0B 0x01C) ≠ 0xFFFFFFFF → u.reg (blk 0x0B 0x01C) = s.reg (blk 0x0B 0x01C) + 1)) ∧
    (asks → ¬lost → s.coreFires = false → ∃ u, fires = .next u ∧ stamped u ∧ same u ∧ u.gpio.waiting.getLsbD pin.val = true ∧
      u.reg (blk 0x0B 0x01C) = s.reg (blk 0x0B 0x01C)) ∧
    (asks → ¬lost → s.coreFires = true → s.evlValid k = false → ∃ u, fires = .next u ∧ stamped u ∧ same u ∧ u.event 0x0B 17 = true) ∧
    (asks → ¬lost → s.coreFires = true → s.evlValid k = true → ∃ v, stamped v ∧ same v ∧
      fires = .next (v.evlAction (fld (s.evlWord k 2) 23 16) (s.evlWord k 3))) ∧
    (asks → ¬lost → s.coreFires = true → s.evlValid k = true → landed → fld (s.evlWord k 2) 23 16 = 2 → ∀ j, j = fld (s.evlWord k 3) 4 0 →
      s.unitOn (j / 4 + 1) = true → (s.eng j).st = .stopped → s.engBudget j ≠ 0 → ∃ u, fires = .next u ∧ stamped u ∧ u.mem = s.mem ∧
        (u.eng j).st = .armed ∧ (u.eng j).start = .nextTick ∧ ∀ n, n ≠ j → u.eng n = s.eng n) ∧
    (¬edge → fires = .next { s with gpio := { s.gpio with level := setBit16 s.gpio.level pin.val level } }) ∧
    (fld f 2 0 = 2 → fld f 15 8 ≠ 0 → look 0 s.gpio.tickAt pin.val + 16 * fld f 15 8 ≤ s.now → exec (.tickOutEnd pin t) s0 =
      .next { s with gpio := { s.gpio with tickOut := setBit16 s.gpio.tickOut pin.val false } }) ∧
    (fld f 2 0 ≠ 2 → exec (.tickOutEnd pin t) s0 = .next s)

/-- UNLOCK and the controls ARB_ENG, ARB_LOWER, FAR_LAT, BP, HOST_NOTREADY, TICK_SHIFT, TICK_SUPPRESS, DCO_OFFSET, DMA_ERR, SLIP, LOOP, with BP_EXPIRY
(R7, R504 to R507, R509, R512), outside APPLYING (R58): two key words, one after the other, unlock the block; a write between them discards the first
with KEY_BAD; any other word locks it again and returns every control to zero; an unlocked control takes its bits with a log entry, a locked one keeps
its value; a BP entry whose ticks have passed reads MODE 0. TEST_ACCESS_PORT (R436, R530): the loaded instruction is in force and METER_OK is low
under EXTEST and HIGHZ, but while the meter is sealed with a guard slot enabled both act as BYPASS; HIGHZ releases every land, SAMPLE/PRELOAD and
EXTEST capture the levels of the lands, and EXTEST drives what was preloaded. That a loaded test instruction is in force at once is the model's
reading of log entry 64, its scan is the model's choice of log entry 98, and when the entries of the controls take effect rests on log entry 50. -/
def Obligations.PerturbationNeedsItsKeysAndTestAccess : Prop :=
  (∀ (w : Word) (n : Fin 32) (i : Fin 20) (t : Nat) (s0 : State),
      let s := s0.upTo t
      let p := s.perturb
      let direct := s.loader.st ≠ .applying
      let opened := s.straps.testen = true ∨ p.unlocked = true
      let logs := s.domain 18 = true ∧ s.meter.seq < 262143
      let legal := fun o => (o = 0x0FC → |(w.extractLsb' 0 11).toInt| ≤ 1000) ∧ (0x0E0 ≤ o → o < 0x0F0 → bit w 0 = false)
      let controls : List (Nat × Word × Instr) :=
        [(0x01C, 0xFF, .arbEng w t), (0x018, 0xFFFFFFFF, .arbLower w t), (0x020 + 4 * n.val, 0xFF, .farLat n w t),
          (0x0A0 + 4 * i.val, 0x00FF0003, .bp i w t), (0x0F0, 0xFF, .hostNotready w t), (0x0F4, 0x1FFF, .tickShift w t),
          (0x0F8, 0x3FF, .tickSuppress w t), (0x0FC, 0x7FF, .dcoOffset w t), (0x100, 0x00FFFFFF, .dmaErr w t), (0x104, 0x800FFFFF, .slip w t),
          (0x108, 0x010FFFFF, .loop w t)]
      let unlock := exec (.unlock w t) s0
      let mode := blk 0xF0 (0x0A0 + 4 * i.val)
      let spent := look 0 s.provoked.ticksLeft i.val = 0
      (direct → ∀ c ∈ controls, p.firstKey = false → opened → legal c.1 → ∃ u, exec c.2.2 s0 = .next u ∧ u.reg (blk 0xF0 c.1) = w &&& c.2.1 ∧
        (∀ k, k ≠ blk 0xF0 c.1 → k / 0x1000 ≠ 0x81 → u.reg k = s.reg k) ∧ u.mem = s.mem ∧ u.perturb = p ∧
        (logs → Safety.Logged s u 0x11 c.1 w.toNat 0)) ∧
      (direct → ∀ c ∈ controls, p.firstKey = false → ¬opened ∨ ¬legal c.1 → exec c.2.2 s0 = .next s) ∧
      (direct → ∀ c ∈ controls, p.firstKey = true → ¬opened → ∃ u, exec c.2.2 s0 = .next u ∧ u.perturb = { p with firstKey := false } ∧
        u.event 0xF0 1 = true ∧ u.reg (blk 0xF0 c.1) = s.reg (blk 0xF0 c.1)) ∧
      (direct → s.straps.testen = true → unlock = .next s) ∧
      (direct → ¬opened → p.firstKey = false → w = 0xA5C3 → unlock = .next { s with perturb := { p with firstKey := true } }) ∧
      (direct → ¬opened → p.firstKey = false → w ≠ 0xA5C3 → unlock = .next s) ∧
      (direct → ¬opened → p.firstKey = true → w = 0x3C5A → ∃ u, unlock = .next u ∧ u.perturb = ⟨true, false⟩ ∧
        (logs → Safety.Logged s u 0x11 0x010 0x3C5A 0)) ∧
      (direct → ¬opened → p.firstKey = true → w ≠ 0x3C5A → ∃ u, unlock = .next u ∧ u.perturb.unlocked = false ∧ u.event 0xF0 1 = true) ∧
      (direct → s.straps.testen = false → p.unlocked = true → w ≠ 0xA5C3 → w ≠ 0x3C5A → ∃ u, unlock = .next u ∧ u.perturb = ⟨false, false⟩ ∧
        ∀ c ∈ controls, u.reg (blk 0xF0 c.1) = 0) ∧
      (spent → fld (s.reg mode) 23 16 ≠ 0 → fld (s.reg mode) 1 0 ≠ 0 →
        exec (.bpExpiry i t) s0 = .next ((s.setRegFld mode 1 0 0).raise 0xF0 2)) ∧
      (¬spent ∨ fld (s.reg mode) 23 16 = 0 ∨ fld (s.reg mode) 1 0 = 0 → exec (.bpExpiry i t) s0 = .next s)) ∧
  (∀ (k : TapInstr) (t : Nat) (s0 : State),
      let s := s0.upTo t
      let drives := k = .extest ∨ k = .highz
      let guarded := s.isSealed = true ∧ s.anyGslot = true
      let lands := ({ s with tap := { s.tap with instr := k } } : State).capture
      let loads := fun (u : State) inForce => exec (.testAccessPort k t) s0 = .next u ∧ u.tap.instr = k ∧ u.tapInForce = inForce ∧
        u = { s with tap := u.tap, drawn := u.drawn }
      let passes := ∃ u, loads u .bypass ∧ u.meterOkPin = s.meter.ok ∧ u.tap.bypass = false ∧ u.tap.boundary = s.tap.boundary ∧
        u.tap.preload = s.tap.preload
      (k = .bypass → passes) ∧
      (drives → guarded → passes) ∧
      (k = .samplePreload → ∃ u, loads u k ∧ u.meterOkPin = s.meter.ok ∧ u.tap.boundary = lands) ∧
      (k = .extest → ¬guarded → ∃ u, loads u k ∧ u.meterOkPin = false ∧ u.tap.boundary = lands ∧
        ∀ n, n < 38 → s.power.vin = true → u.landDrives n = Config.preloaded s.tap.preload n) ∧
      (k = .highz → ¬guarded → ∃ u, loads u k ∧ u.meterOkPin = false ∧ u.tap.bypass = false ∧ ∀ n, u.landDrives n = none))

/-- The block's step takes the command at the front of its queue and runs it on the state with the rest of the queue; with an empty queue it idles
(the model's choice: log entry 1). Rests on the model's readings and choices of log entry 1. -/
def Obligations.StepRunsTheFrontCommand : Prop :=
  ∀ (c : Instr) (s : State), step { s with pending := c :: s.pending } = exec c s ∧ step { s with pending := [] } = .next { s with pending := [] }

/-- The module right after reset (R8, R99, R323, R325, R347, R384, R449, R472, R475): every control-block register at the value of its Reset column,
XCLK on every domain clock with DIV 1, the DCO SETTLING, SW18 to SW20 on, the core held in reset, and every other unit off, stopped or disabled;
memory in its one canonical form (what it reads as is the model's choice: log entry 3). Rests on the model's readings and choices of log entries 2, 3,
6, 7, 9, 10, 70. -/
def Obligations.ResetStateIsAsStated : Prop :=
  Safety.Inv State.reset ∧ State.reset.pending = [] ∧ (∀ a, State.reset.reg a = resetWord a) ∧ State.reset.power.on = [18, 19, 20] ∧
  State.reset.power.mode = .run ∧ State.reset.power.aux5.on = false ∧ State.reset.power.aux33.on = false ∧
  State.reset.clocks.dco = .settling ∧ (∀ c, State.reset.onXclk c = true) ∧ State.reset.core.phase = .settling ∧
  State.reset.core.inReset = true ∧ State.reset.host.st = .normal ∧ State.reset.host.gen = 0 ∧ State.reset.loader.st = .idle ∧
  State.reset.tickCount = 0 ∧ (∀ e, (State.reset.eng e).st = .off ∧ (State.reset.eng e).gain = 0) ∧
  (∀ n, (State.reset.tb n).st = .off ∧ (State.reset.tb n).period = 0) ∧ (∀ p, (State.reset.port p).st = .disabled) ∧
  (∀ n, (State.reset.rx n).st = .disabled ∧ (State.reset.tx n).st = .disabled) ∧ (∀ c, (State.reset.chan c).st = .stopped) ∧
  (∀ g, (State.reset.grp g).st = .idle) ∧ State.reset.perturbOpen = false ∧ State.reset.isSealed = false

/-- Memory keeps its one canonical form at every step: addresses strictly rising, and no byte listed that an unlisted address reads as. Rests on the
model's readings and choices of log entry 3. -/
def Obligations.MemoryStaysCanonical : Prop :=
  ∀ s u : State, Safety.Inv s → step s = .next u → Safety.Inv u

/-- Every command ends in a next state, in any state of the module: it takes nothing from the queue of waiting commands, the model's clock does not go
back, the factory UID stands (R384), and memory keeps its canonical form; in APPLYING a host access only joins those that wait for its end (R58).
Rests on the model's readings and choices of log entries 34, 35, 59. -/
def Obligations.EveryCommandCompletes : Prop :=
  (∀ (c : Instr) (s : State), ∃ u, exec c s = .next u ∧ Safety.Follows s u) ∧
  (∀ (c : Instr) (t : Nat) (s : State), Safety.HostAccess t c → (s.upTo t).loader.st = .applying →
    exec c s = .next { s.upTo t with waiting := (s.upTo t).waiting ++ [c] })

/-- XCLK_LOST, XCLK_BACK, XSETTLE_END, LOCK_WINDOW (R316, R321 to R324): a DCO that was LOCKED follows one control word all the way through a loss of
XCLK: it enters HOLDOVER with that word while the clocks on its path keep running and those on XCLK stop, keeps it as XCLK returns and the XSETTLE
delay runs and ends, and after four passing windows is LOCKED on it again, with no step. Rests on the model's readings and choices of log entry 44. -/
def Obligations.HoldoverKeepsItsWord : Prop :=
  ∀ (n t : Nat) (s0 : State),
    let s := s0.upTo t
    let c := s.clocks
    let word := s.controlWord
    let keeps := fun (u : State) => u.controlWord = word ∧ u.mem = s.mem
    let judged := c.xclkOk = true ∧ c.settling = false ∧ s.straps.testen = false
    (c.xclkOk = true → c.dco = .locked → ∃ u, exec (.xclkLost t) s0 = .next u ∧ keeps u ∧ u.clocks.dco = .holdover ∧ u.event 2 2 = true ∧
      ∀ k, u.clkRuns k = !s.onXclk k) ∧
    (c.xclkOk = false → c.dco = .holdover → s.gpio.waiting = 0 → ∃ u, exec (.xclkBack t) s0 = .next u ∧ keeps u ∧ u.clocks.dco = .holdover ∧
      u.clocks.settling = true ∧ u.clocks.passes = 0 ∧ ∀ k, u.clkRuns k = true) ∧
    (c.settling = true → c.dco = .holdover → s.straps.testen = false → s.core.phase ≠ .settling →
      exec (.xsettleEnd t) s0 = .next { s with clocks := { c with settling := false, windowWord := word } }) ∧
    (judged → c.dco = .holdover → s.windowPasses n = true → c.passes < 3 → ∃ u, exec (.lockWindow n t) s0 = .next u ∧ keeps u ∧
      u.clocks.dco = .holdover ∧ u.clocks.passes = c.passes + 1) ∧
    (judged → c.dco = .holdover → s.windowPasses n = true → 3 ≤ c.passes → s.loader.st ≠ .applying →
      word = (s.reg (blk 2 0x010), c.steer) → ∃ u, exec (.lockWindow n t) s0 = .next u ∧ keeps u ∧ u.clocks.dco = .locked ∧ u.event 2 1 = true) ∧
    (judged → c.dco = .holdover → s.windowPasses n = false → ∃ u, exec (.lockWindow n t) s0 = .next u ∧ keeps u ∧ u.clocks.dco = .holdover ∧
      u.clocks.passes = 0)
end

