-- ==== Sys2Proof/Laws/Tables.lean ====
section
/-!
SUPPORT. The laws of the tables: a read after a store, and the canonical form that every table operation keeps.
-/

namespace Sys2Proof.Machine

variable {α : Type}

@[simp] theorem look_nil (d : α) (k : Nat) : look d [] k = d := rfl

theorem look_ins (d : α) (l : Sparse α) (k k' : Nat) (v : α) :
    look d (ins l k v) k' = if k' = k then v else look d l k' := by
  induction l with
  | nil => rfl
  | cons c r ih =>
    obtain ⟨q, x⟩ := c
    simp only [ins]
    split
    · simp [look]
    · split
      · subst_vars; simp only [look]; split <;> rfl
      · simp only [look, ih]
        split_ifs <;> first | rfl | omega

theorem look_del (d : α) (l : Sparse α) (k k' : Nat) : look d (del l k) k' = if k' = k then d else look d l k' := by
  induction l with
  | nil => simp [del, look]
  | cons c r ih =>
    obtain ⟨q, x⟩ := c
    simp only [del]
    split
    · subst_vars; simp only [look, ih]; split <;> rfl
    · simp only [look, ih]
      split_ifs <;> first | rfl | omega

theorem look_del_other (d : α) (l : Sparse α) {k k' : Nat} (h : k' ≠ k) : look d (del l k) k' = look d l k' := by
  rw [look_del, if_neg h]

/-- A read after a store: the value stored at its key, every other key as before. -/
theorem look_put [DecidableEq α] (d : α) (l : Sparse α) (k k' : Nat) (v : α) :
    look d (put d l k v) k' = if k' = k then v else look d l k' := by
  unfold put
  split
  · subst_vars; exact look_del _ _ _ _
  · exact look_ins _ _ _ _ _

@[simp] theorem look_put_self [DecidableEq α] (d : α) (l : Sparse α) (k : Nat) (v : α) : look d (put d l k v) k = v := by
  simp [look_put]

theorem look_put_ne [DecidableEq α] (d : α) (l : Sparse α) {k k' : Nat} (v : α) (h : k' ≠ k) :
    look d (put d l k v) k' = look d l k' := by
  simp [look_put, h]

/-- A store leaves every other key as it was, whatever default the reader names. -/
theorem look_put_other [DecidableEq α] (d d' : α) (l : Sparse α) {k k' : Nat} (v : α) (h : k' ≠ k) :
    look d' (put d l k v) k' = look d' l k' := by
  unfold put
  split
  · rw [look_del_other d' l h]
  · rw [look_ins, if_neg h]

theorem look_delRange (d : α) (l : Sparse α) (lo hi k : Nat) :
    look d (delRange l lo hi) k = if lo ≤ k ∧ k < hi then d else look d l k := by
  induction l with
  | nil => simp [delRange, look]
  | cons c r ih =>
    obtain ⟨q, x⟩ := c
    have e : delRange ((q, x) :: r) lo hi = if q < lo ∨ hi ≤ q then (q, x) :: delRange r lo hi else delRange r lo hi := by
      simp [delRange, List.filter_cons]
    rw [e]
    split
    · simp only [look, ih]
      split_ifs <;> first | rfl | omega
    · rw [ih]
      simp only [look]
      split_ifs <;> first | rfl | omega

theorem mem_ins {l : Sparse α} {k : Nat} {v : α} {c : Nat × α} (h : c ∈ ins l k v) : c = (k, v) ∨ c ∈ l := by
  induction l with
  | nil => simpa [ins] using h
  | cons a r ih =>
    obtain ⟨q, x⟩ := a
    simp only [ins] at h
    split at h
    · simpa using h
    · split at h
      · simp only [List.mem_cons] at h ⊢; tauto
      · simp only [List.mem_cons] at h ⊢
        rcases h with h | h
        · tauto
        · rcases ih h with h | h <;> tauto

theorem mem_del {l : Sparse α} {k : Nat} {c : Nat × α} (h : c ∈ del l k) : c ∈ l := by
  induction l with
  | nil => simp [del] at h
  | cons a r ih =>
    obtain ⟨q, x⟩ := a
    simp only [del] at h
    split at h
    · exact List.mem_cons_of_mem _ (ih h)
    · simp only [List.mem_cons] at h ⊢
      rcases h with h | h
      · exact .inl h
      · exact .inr (ih h)

theorem del_wf {d : α} {l : Sparse α} (k : Nat) (h : Table.wf d l) : Table.wf d (del l k) := by
  refine ⟨?_, fun c hc => h.2 c (mem_del hc)⟩
  obtain ⟨h, -⟩ := h
  induction l with
  | nil => simp [del]
  | cons a r ih =>
    obtain ⟨q, x⟩ := a
    rw [List.pairwise_cons] at h
    simp only [del]
    split
    · exact ih h.2
    · exact List.pairwise_cons.2 ⟨fun c hc => h.1 c (mem_del hc), ih h.2⟩

theorem ins_wf {d : α} {l : Sparse α} (k : Nat) {v : α} (hv : v ≠ d) (h : Table.wf d l) : Table.wf d (ins l k v) := by
  refine ⟨?_, fun c hc => ?_⟩
  · obtain ⟨h, -⟩ := h
    induction l with
    | nil => simp [ins]
    | cons a r ih =>
      obtain ⟨q, x⟩ := a
      rw [List.pairwise_cons] at h
      simp only [ins]
      split
      · refine List.pairwise_cons.2 ⟨fun c hc => ?_, List.pairwise_cons.2 h⟩
        rcases List.mem_cons.1 hc with rfl | hc
        · assumption
        · have := h.1 c hc; simp only at this ⊢; omega
      · split
        · subst_vars; exact List.pairwise_cons.2 h
        · refine List.pairwise_cons.2 ⟨fun c hc => ?_, ih h.2⟩
          rcases mem_ins hc with rfl | hc
          · simp only; omega
          · exact h.1 c hc
  · rcases mem_ins hc with rfl | hc
    · exact hv
    · exact h.2 c hc

/-- A store keeps a table in its canonical form. -/
theorem put_wf [DecidableEq α] {d : α} {l : Sparse α} (k : Nat) (v : α) (h : Table.wf d l) : Table.wf d (put d l k v) := by
  unfold put
  split
  · exact del_wf k h
  · exact ins_wf k ‹_› h

theorem delRange_wf {d : α} {l : Sparse α} (lo hi : Nat) (h : Table.wf d l) : Table.wf d (delRange l lo hi) :=
  ⟨h.1.sublist List.filter_sublist, fun c hc => h.2 c (List.mem_filter.1 hc).1⟩

theorem foldl_delRange_wf {d : α} (r : List (Nat × Nat)) {l : Sparse α} (h : Table.wf d l) :
    Table.wf d (r.foldl (fun l c => delRange l c.1 c.2) l) := by
  induction r generalizing l with
  | nil => exact h
  | cons c r ih => exact ih (delRange_wf _ _ h)

end Sys2Proof.Machine
end

