-- ==== Sys2Proof/Laws/Follows.lean ====
section
/-!
SUPPORT. What every update leaves alone (Safety.Follows): the queue's rest, the UID, and memory's canonical form, with the model's
clock never going back. One lemma for each operation of Ops; the families follow in Laws/Follows.
-/

namespace Sys2Proof.Machine

@[simp] theorem follows_refl (s : State) : Safety.Follows s s := ⟨rfl, Nat.le_refl _, rfl, id⟩

theorem follows_trans {r s t : State} (h : Safety.Follows r s) (k : Safety.Follows s t) : Safety.Follows r t :=
  ⟨k.pending.trans h.pending, h.now.trans k.now, k.uid.trans h.uid, fun m => k.mem (h.mem m)⟩

/-- An update of any other fields. -/
@[simp] theorem follows_update {s0 s : State} (h : Safety.Follows s0 s)
    (resetAt' : Nat)
    (xcycles' silent' : Rat)
    (regs' : Sparse Word)
    (parityBad' : Sparse Bool)
    (storeEpoch' : Sparse Nat)
    (eventSet' : Sparse (Nat × Word))
    (heldWrites' : List HeldWrite)
    (waiting' : List Instr)
    (drawn' : Nat)
    (hostLatch' : Sparse Word)
    (coreLatch' : Sparse Word)
    (writeLatch' : Sparse (Option Word))
    (readData' : Word)
    (engines' : Sparse Engine)
    (timebases' : Sparse Timebase)
    (tickCount' : BitVec 48)
    (alignAt' : Option (BitVec 48 × Nat))
    (groups' : Sparse Group)
    (stages' : Sparse Stage)
    (router' : Router)
    (ports' : Sparse Port)
    (bprx' : Sparse BpRx)
    (bptx' : Sparse BpTx)
    (clocks' : Clocks)
    (host' : HostPort)
    (loader' : Loader)
    (dma' : Dma)
    (meter' : Meter)
    (power' : Power)
    (core' : Core)
    (gpio' : Gpio)
    (perturb' : Perturb)
    (provoked' : Provoked)
    (tap' : TestPort)
    (straps' : Straps) :
        Safety.Follows s0 ⟨s.pending, s.now, resetAt', xcycles', silent', regs', s.mem, parityBad', storeEpoch', eventSet', heldWrites',
      waiting', drawn', hostLatch', coreLatch', writeLatch', readData', engines', timebases', tickCount', alignAt', groups', stages',
      router', ports', bprx', bptx', clocks', host', loader', dma', meter', power', core', gpio', perturb', provoked', tap', straps', s.uid⟩ :=
  ⟨h.pending, h.now, h.uid, h.mem⟩

/-- An update of any other fields with every memory byte back at zero. -/
@[simp] theorem follows_cleared {s0 s : State} (h : Safety.Follows s0 s)
    (resetAt' : Nat)
    (xcycles' silent' : Rat)
    (regs' : Sparse Word)
    (parityBad' : Sparse Bool)
    (storeEpoch' : Sparse Nat)
    (eventSet' : Sparse (Nat × Word))
    (heldWrites' : List HeldWrite)
    (waiting' : List Instr)
    (drawn' : Nat)
    (hostLatch' : Sparse Word)
    (coreLatch' : Sparse Word)
    (writeLatch' : Sparse (Option Word))
    (readData' : Word)
    (engines' : Sparse Engine)
    (timebases' : Sparse Timebase)
    (tickCount' : BitVec 48)
    (alignAt' : Option (BitVec 48 × Nat))
    (groups' : Sparse Group)
    (stages' : Sparse Stage)
    (router' : Router)
    (ports' : Sparse Port)
    (bprx' : Sparse BpRx)
    (bptx' : Sparse BpTx)
    (clocks' : Clocks)
    (host' : HostPort)
    (loader' : Loader)
    (dma' : Dma)
    (meter' : Meter)
    (power' : Power)
    (core' : Core)
    (gpio' : Gpio)
    (perturb' : Perturb)
    (provoked' : Provoked)
    (tap' : TestPort)
    (straps' : Straps) :
        Safety.Follows s0 ⟨s.pending, s.now, resetAt', xcycles', silent', regs', [], parityBad', storeEpoch', eventSet', heldWrites',
      waiting', drawn', hostLatch', coreLatch', writeLatch', readData', engines', timebases', tickCount', alignAt', groups', stages',
      router', ports', bprx', bptx', clocks', host', loader', dma', meter', power', core', gpio', perturb', provoked', tap', straps', s.uid⟩ :=
  ⟨h.pending, h.now, h.uid, fun _ => ⟨List.Pairwise.nil, fun _ h => by cases h⟩⟩

/-- Updates made one after another. -/
theorem foldl_follows {α : Type} {s0 : State} (l : List α) (f : State → α → State) (s : State) (h : Safety.Follows s0 s)
    (k : ∀ s x, Safety.Follows s0 s → Safety.Follows s0 (f s x)) : Safety.Follows s0 (l.foldl f s) := by
  induction l generalizing s with
  | nil => exact h
  | cons x r ih => exact ih _ (k _ _ h)

/-- Updates made one after another beside another value. -/
theorem foldl_fst_follows {α β : Type} {s0 : State} (l : List α) (f : State × β → α → State × β) (o : State × β)
    (h : Safety.Follows s0 o.1) (k : ∀ o x, Safety.Follows s0 o.1 → Safety.Follows s0 (f o x).1) :
    Safety.Follows s0 (l.foldl f o).1 := by
  induction l generalizing o with
  | nil => exact h
  | cons x r ih => exact ih _ (k _ _ h)

@[simp] theorem ite_follows {s0 : State} (c : Prop) [Decidable c] (s t : State) (h : Safety.Follows s0 s)
    (k : Safety.Follows s0 t) : Safety.Follows s0 (if c then s else t) := by
  split <;> assumption

@[simp] theorem State.clockTo_follows {s0 : State} (s : State) (t : Nat) (h : Safety.Follows s0 s) :
    Safety.Follows s0 (State.clockTo s t) := by
  refine ⟨h.pending, h.now.trans (Nat.le_max_left _ _), h.uid, h.mem⟩

@[simp] theorem State.setByte_follows {s0 : State} (s : State) (a : Nat) (b : Byte) (h : Safety.Follows s0 s) :
    Safety.Follows s0 (State.setByte s a b) := by
  exact ⟨h.pending, h.now, h.uid, fun m => put_wf _ _ (h.mem m)⟩

@[simp] theorem State.setWord_follows {s0 : State} (s : State) (a : Nat) (w : Word) (h : Safety.Follows s0 s) :
    Safety.Follows s0 (State.setWord s a w) := by
  unfold State.setWord
  simp (maxDischargeDepth := 40) +contextual [*]

@[simp] theorem State.clearMem_follows {s0 : State} (s : State) (lo hi : Nat) (h : Safety.Follows s0 s) :
    Safety.Follows s0 (State.clearMem s lo hi) := by
  exact ⟨h.pending, h.now, h.uid, fun m => delRange_wf _ _ (h.mem m)⟩

@[simp] theorem State.clearStore_follows {s0 : State} (s : State) (q : Nat) (h : Safety.Follows s0 s) :
    Safety.Follows s0 (State.clearStore s q) := by
  unfold State.clearStore
  simp (maxDischargeDepth := 40) +contextual [*]

@[simp] theorem State.freeQuarter_follows {s0 : State} (s : State) (q : Nat) (h : Safety.Follows s0 s) :
    Safety.Follows s0 (State.freeQuarter s q) := by
  unfold State.freeQuarter
  simp (maxDischargeDepth := 40) +contextual [*]

@[simp] theorem State.setReg_follows {s0 : State} (s : State) (a : Nat) (w : Word) (h : Safety.Follows s0 s) :
    Safety.Follows s0 (State.setReg s a w) := by
  unfold State.setReg
  simp (maxDischargeDepth := 40) +contextual [*]

@[simp] theorem State.setRegFld_follows {s0 : State} (s : State) (a hi lo v : Nat) (h : Safety.Follows s0 s) :
    Safety.Follows s0 (State.setRegFld s a hi lo v) := by
  unfold State.setRegFld
  simp (maxDischargeDepth := 40) +contextual [*]

@[simp] theorem State.resetBlock_follows {s0 : State} (s : State) (b : Nat) (h : Safety.Follows s0 s) :
    Safety.Follows s0 (State.resetBlock s b) := by
  unfold State.resetBlock
  simp (maxDischargeDepth := 40) +contextual [*]

@[simp] theorem State.bump_follows {s0 : State} (s : State) (a : Nat) (h : Safety.Follows s0 s) :
    Safety.Follows s0 (State.bump s a) := by
  unfold State.bump
  simp (maxDischargeDepth := 40) +contextual [*]

@[simp] theorem State.deviceSet_follows {s0 : State} (s : State) (a i : Nat) (h : Safety.Follows s0 s) :
    Safety.Follows s0 (State.deviceSet s a i) := by
  unfold State.deviceSet
  simp (maxDischargeDepth := 40) +contextual [*]

@[simp] theorem State.clearW1c_follows {s0 : State} (s : State) (a : Nat) (w : Word) (h : Safety.Follows s0 s) :
    Safety.Follows s0 (State.clearW1c s a w) := by
  unfold State.clearW1c
  simp (maxDischargeDepth := 40) +contextual [*]

@[simp] theorem State.raise_follows {s0 : State} (s : State) (b i : Nat) (h : Safety.Follows s0 s) :
    Safety.Follows s0 (State.raise s b i) := by
  unfold State.raise
  simp (maxDischargeDepth := 40) +contextual [*]

@[simp] theorem State.good_follows {s0 : State} (s : State) (a : Nat) (h : Safety.Follows s0 s) :
    Safety.Follows s0 (State.good s a) := by
  unfold State.good
  simp (maxDischargeDepth := 40) +contextual [*]

@[simp] theorem State.writeFields_follows {s0 : State} (s : State) (a : Nat) (m w : Word) (h : Safety.Follows s0 s) :
    Safety.Follows s0 (State.writeFields s a m w) := by
  unfold State.writeFields
  simp (maxDischargeDepth := 40) +contextual [*]

@[simp] theorem State.parity_follows {s0 : State} (s : State) (b : Nat) (l : List Nat) (h : Safety.Follows s0 s) :
    Safety.Follows s0 (State.parity s b l) := by
  unfold State.parity
  simp (maxDischargeDepth := 40) +contextual [*]

@[simp] theorem State.parityIn_follows {s0 : State} (s : State) (b lo hi : Nat) (h : Safety.Follows s0 s) :
    Safety.Follows s0 (State.parityIn s b lo hi) := by
  unfold State.parityIn
  simp (maxDischargeDepth := 40) +contextual [*]

@[simp] theorem State.each_follows {s0 : State} {α : Type} (s : State) (l : List α) (f : State → α → State) (h : Safety.Follows s0 s) (h_f : ∀ y0 y1, Safety.Follows s0 y0 → Safety.Follows s0 (f y0 y1)) :
    Safety.Follows s0 (State.each s l f) := by
  exact foldl_follows l f s h h_f

@[simp] theorem State.hostFault_follows {s0 : State} (s : State) (cause addr : Nat) (h : Safety.Follows s0 s) :
    Safety.Follows s0 (State.hostFault s cause addr) := by
  unfold State.hostFault
  simp (maxDischargeDepth := 40) +contextual [*]

@[simp] theorem State.latch_follows {s0 : State} (s : State) (by_ : Requester) (a : Nat) (w : Word) (h : Safety.Follows s0 s) :
    Safety.Follows s0 (State.latch s by_ a w) := by
  unfold State.latch
  split <;> simp (maxDischargeDepth := 40) +contextual [*]

@[simp] theorem State.answer_follows {s0 : State} (s : State) (w : Word) (h : Safety.Follows s0 s) :
    Safety.Follows s0 (State.answer s w) := by
  unfold State.answer
  simp (maxDischargeDepth := 40) +contextual [*]

@[simp] theorem State.domainOff_follows {s0 : State} (s : State) (by_ : Requester) (a : Nat) (h : Safety.Follows s0 s) :
    Safety.Follows s0 (State.domainOff s by_ a) := by
  unfold State.domainOff
  split <;> simp (maxDischargeDepth := 40) +contextual [*]

@[simp] theorem State.hostActs_follows {s0 : State} (s : State) (i : Instr) (f : State → State) (h : Safety.Follows s0 s) (h_f : ∀ y0, Safety.Follows s0 y0 → Safety.Follows s0 (f y0)) :
    Safety.Follows s0 (State.hostActs s i f) := by
  unfold State.hostActs
  simp (maxDischargeDepth := 40) +contextual [*]

@[simp] theorem State.actsBy_follows {s0 : State} (s : State) (by_ : Requester) (i : Instr) (f : State → State) (h : Safety.Follows s0 s) (h_f : ∀ y0, Safety.Follows s0 y0 → Safety.Follows s0 (f y0)) :
    Safety.Follows s0 (State.actsBy s by_ i f) := by
  unfold State.actsBy
  split <;> simp (maxDischargeDepth := 40) +contextual [*]

@[simp] theorem State.setEng_follows {s0 : State} (s : State) (e : Nat) (x : Engine) (h : Safety.Follows s0 s) :
    Safety.Follows s0 (State.setEng s e x) := by
  unfold State.setEng
  simp (maxDischargeDepth := 40) +contextual [*]

@[simp] theorem State.setTb_follows {s0 : State} (s : State) (n : Nat) (x : Timebase) (h : Safety.Follows s0 s) :
    Safety.Follows s0 (State.setTb s n x) := by
  unfold State.setTb
  simp (maxDischargeDepth := 40) +contextual [*]

@[simp] theorem State.setGrp_follows {s0 : State} (s : State) (g : Nat) (x : Group) (h : Safety.Follows s0 s) :
    Safety.Follows s0 (State.setGrp s g x) := by
  unfold State.setGrp
  simp (maxDischargeDepth := 40) +contextual [*]

@[simp] theorem State.setStage_follows {s0 : State} (s : State) (n : Nat) (x : Stage) (h : Safety.Follows s0 s) :
    Safety.Follows s0 (State.setStage s n x) := by
  unfold State.setStage
  simp (maxDischargeDepth := 40) +contextual [*]

@[simp] theorem State.setPort_follows {s0 : State} (s : State) (p : Nat) (x : Port) (h : Safety.Follows s0 s) :
    Safety.Follows s0 (State.setPort s p x) := by
  unfold State.setPort
  simp (maxDischargeDepth := 40) +contextual [*]

@[simp] theorem State.setRx_follows {s0 : State} (s : State) (n : Nat) (x : BpRx) (h : Safety.Follows s0 s) :
    Safety.Follows s0 (State.setRx s n x) := by
  unfold State.setRx
  simp (maxDischargeDepth := 40) +contextual [*]

@[simp] theorem State.setTx_follows {s0 : State} (s : State) (n : Nat) (x : BpTx) (h : Safety.Follows s0 s) :
    Safety.Follows s0 (State.setTx s n x) := by
  unfold State.setTx
  simp (maxDischargeDepth := 40) +contextual [*]

@[simp] theorem State.setChan_follows {s0 : State} (s : State) (c : Nat) (x : Channel) (h : Safety.Follows s0 s) :
    Safety.Follows s0 (State.setChan s c x) := by
  unfold State.setChan
  simp (maxDischargeDepth := 40) +contextual [*]

@[simp] theorem State.bumpBy_follows {s0 : State} (s : State) (a n : Nat) (h : Safety.Follows s0 s) :
    Safety.Follows s0 (State.bumpBy s a n) := by
  unfold State.bumpBy
  simp (maxDischargeDepth := 40) +contextual [*]

@[simp] theorem State.setSrc_follows {s0 : State} (s : State) (i : Nat) (v : Word) (h : Safety.Follows s0 s) :
    Safety.Follows s0 (State.setSrc s i v) := by
  unfold State.setSrc
  simp (maxDischargeDepth := 40) +contextual [*]

end Sys2Proof.Machine
end

