-- ==== Sys2Proof/Laws/Follows/Drawers.lean ====
section
/-!
SUPPORT. Safety.Follows for the operations of Machine/Drawers.lean.
-/

namespace Sys2Proof.Machine

@[simp] theorem State.setOrigin_follows {s0 : State} (s : State) (d : DrawerName) (o : Nat) (h : Safety.Follows s0 s) :
    Safety.Follows s0 (State.setOrigin s d o) := by
  unfold State.setOrigin
  simp (maxDischargeDepth := 40) +contextual [*]

@[simp] theorem State.lowerWait_follows {s0 : State} (s : State) (cls a wait : Nat) (h : Safety.Follows s0 s) :
    Safety.Follows s0 (State.lowerWait s cls a wait) := by
  unfold State.lowerWait
  simp (maxDischargeDepth := 40) +contextual [*]

@[simp] theorem State.bankWaited_follows {s0 : State} (s : State) (cls a hold : Nat) (h : Safety.Follows s0 s) :
    Safety.Follows s0 (State.bankWaited s cls a hold) := by
  unfold State.bankWaited
  simp (maxDischargeDepth := 40) +contextual [*]

@[simp] theorem State.advance_follows {s0 : State} (s : State) (d : DrawerName) (h : Safety.Follows s0 s) :
    Safety.Follows s0 (State.advance s d) := by
  unfold State.advance
  simp (maxDischargeDepth := 40) +contextual [*]

@[simp] theorem State.advanceTick_follows {s0 : State} (s : State) (n : Nat) (h : Safety.Follows s0 s) :
    Safety.Follows s0 (State.advanceTick s n) := by
  unfold State.advanceTick
  simp (maxDischargeDepth := 40) +contextual [*]

@[simp] theorem State.advanceOwner_follows {s0 : State} (s : State) (e : Nat) (h : Safety.Follows s0 s) :
    Safety.Follows s0 (State.advanceOwner s e) := by
  unfold State.advanceOwner
  simp (maxDischargeDepth := 40) +contextual [*]

end Sys2Proof.Machine
end

