-- ==== Sys2Proof/Laws/Follows/Groups.lean ====
section
/-!
SUPPORT. Safety.Follows for the operations of Machine/Groups.lean.
-/

namespace Sys2Proof.Machine

@[simp] theorem State.groupDone_follows {s0 : State} (s : State) (g : Nat) (h : Safety.Follows s0 s) :
    Safety.Follows s0 (State.groupDone s g) := by
  unfold State.groupDone
  simp (maxDischargeDepth := 40) +contextual [*]

@[simp] theorem State.groupTook_follows {s0 : State} (s : State) (g : Nat) (ms : List Member) (h : Safety.Follows s0 s) :
    Safety.Follows s0 (State.groupTook s g ms) := by
  unfold State.groupTook
  simp (maxDischargeDepth := 40) +contextual [*]

@[simp] theorem State.dropLate_follows {s0 : State} (s : State) (g e : Nat) (h : Safety.Follows s0 s) :
    Safety.Follows s0 (State.dropLate s g e) := by
  unfold State.dropLate
  simp (maxDischargeDepth := 40) +contextual [*]

@[simp] theorem State.groupDefer_follows {s0 : State} (s : State) (g n : Nat) (h : Safety.Follows s0 s) :
    Safety.Follows s0 (State.groupDefer s g n) := by
  unfold State.groupDefer
  simp (maxDischargeDepth := 40) +contextual [*]

end Sys2Proof.Machine
end

