-- ==== Sys2Proof/Laws/Follows/EngineCore.lean ====
section
/-!
SUPPORT. Safety.Follows for the operations of Machine/EngineCore.lean.
-/

namespace Sys2Proof.Machine

@[simp] theorem State.engRaise_follows {s0 : State} (s : State) (e i : Nat) (h : Safety.Follows s0 s) :
    Safety.Follows s0 (State.engRaise s e i) := by
  unfold State.engRaise
  simp (maxDischargeDepth := 40) +contextual [*]

@[simp] theorem State.ovg_follows {s0 : State} (s : State) (e : Nat) (h : Safety.Follows s0 s) :
    Safety.Follows s0 (State.ovg s e) := by
  unfold State.ovg
  simp (maxDischargeDepth := 40) +contextual [*]

@[simp] theorem State.lateMark_follows {s0 : State} (s : State) (e : Nat) (h : Safety.Follows s0 s) :
    Safety.Follows s0 (State.lateMark s e) := by
  unfold State.lateMark
  simp (maxDischargeDepth := 40) +contextual [*]

@[simp] theorem State.settle_follows {s0 : State} (s : State) (e : Nat) (h : Safety.Follows s0 s) :
    Safety.Follows s0 (State.settle s e) := by
  unfold State.settle
  simp (maxDischargeDepth := 40) +contextual [*]

@[simp] theorem State.ptrUses_follows {s0 : State} (s : State) (e n : Nat) (ks : List Nat) (h : Safety.Follows s0 s) :
    Safety.Follows s0 (State.ptrUses s e n ks) := by
  unfold State.ptrUses
  simp (maxDischargeDepth := 40) +contextual [*]

@[simp] theorem State.ptrParity_follows {s0 : State} (s : State) (e n : Nat) (upd : Bool) (h : Safety.Follows s0 s) :
    Safety.Follows s0 (State.ptrParity s e n upd) := by
  unfold State.ptrParity
  simp (maxDischargeDepth := 40) +contextual [*]

@[simp] theorem State.ptrUpdate_follows {s0 : State} (s : State) (e n : Nat) (h : Safety.Follows s0 s) :
    Safety.Follows s0 (State.ptrUpdate s e n) := by
  unfold State.ptrUpdate
  simp (maxDischargeDepth := 40) +contextual [*]

@[simp] theorem State.ptrReload_follows {s0 : State} (s : State) (e : Nat) (h : Safety.Follows s0 s) :
    Safety.Follows s0 (State.ptrReload s e) := by
  unfold State.ptrReload
  simp (maxDischargeDepth := 40) +contextual [*]

@[simp] theorem State.ptrMakeLive_follows {s0 : State} (s : State) (e : Nat) (h : Safety.Follows s0 s) :
    Safety.Follows s0 (State.ptrMakeLive s e) := by
  unfold State.ptrMakeLive
  simp (maxDischargeDepth := 40) +contextual [*]

@[simp] theorem State.ptrReduce_follows {s0 : State} (s : State) (e : Nat) (h : Safety.Follows s0 s) :
    Safety.Follows s0 (State.ptrReduce s e) := by
  unfold State.ptrReduce
  simp (maxDischargeDepth := 40) +contextual [*]

@[simp] theorem State.startSub_follows {s0 : State} (s : State) (e i : Nat) (h : Safety.Follows s0 s) :
    Safety.Follows s0 (State.startSub s e i) := by
  unfold State.startSub
  simp (maxDischargeDepth := 40) +contextual [*]

@[simp] theorem State.endSub_follows {s0 : State} (s : State) (e : Nat) (h : Safety.Follows s0 s) :
    Safety.Follows s0 (State.endSub s e) := by
  unfold State.endSub
  simp (maxDischargeDepth := 40) +contextual [*]

@[simp] theorem State.endWord_follows {s0 : State} (s : State) (e : Nat) (h : Safety.Follows s0 s) :
    Safety.Follows s0 (State.endWord s e) := by
  unfold State.endWord
  simp (maxDischargeDepth := 40) +contextual [*]

@[simp] theorem State.slotDone_follows {s0 : State} (s : State) (e : Nat) (slots : List SlotName) (h : Safety.Follows s0 s) :
    Safety.Follows s0 (State.slotDone s e slots) := by
  unfold State.slotDone
  simp (maxDischargeDepth := 40) +contextual [*]

@[simp] theorem State.moveGain_follows {s0 : State} (s : State) (e : Nat) (h : Safety.Follows s0 s) :
    Safety.Follows s0 (State.moveGain s e) := by
  unfold State.moveGain
  simp (maxDischargeDepth := 40) +contextual [*]

@[simp] theorem State.startRamp_follows {s0 : State} (s : State) (e : Nat) (old : Bool) (a : Nat) (h : Safety.Follows s0 s) :
    Safety.Follows s0 (State.startRamp s e old a) := by
  unfold State.startRamp
  split <;> simp (maxDischargeDepth := 40) +contextual [*]

@[simp] theorem State.landBack_follows {s0 : State} (s : State) (place : Nat → Nat) (l : List LandedWrite) (h : Safety.Follows s0 s) :
    Safety.Follows s0 (State.landBack s place l) := by
  unfold State.landBack
  simp (maxDischargeDepth := 40) +contextual [*]

@[simp] theorem State.engExchange_follows {s0 : State} (s : State) (e : Nat) (h : Safety.Follows s0 s) :
    Safety.Follows s0 (State.engExchange s e) := by
  unfold State.engExchange
  simp (maxDischargeDepth := 40) +contextual [*]

@[simp] theorem State.lateTake_follows {s0 : State} (s : State) (e : Nat) (h : Safety.Follows s0 s) :
    Safety.Follows s0 (State.lateTake s e) := by
  unfold State.lateTake
  split <;> simp (maxDischargeDepth := 40) +contextual [*]

@[simp] theorem State.lateSkip_follows {s0 : State} (s : State) (e : Nat) (h : Safety.Follows s0 s) :
    Safety.Follows s0 (State.lateSkip s e) := by
  unfold State.lateSkip
  simp (maxDischargeDepth := 40) +contextual [*]

@[simp] theorem State.endStay_follows {s0 : State} (s : State) (e : Nat) (h : Safety.Follows s0 s) :
    Safety.Follows s0 (State.endStay s e) := by
  unfold State.endStay
  simp (maxDischargeDepth := 40) +contextual [*]

@[simp] theorem State.leaveRunning_follows {s0 : State} (s : State) (e : Nat) (h : Safety.Follows s0 s) :
    Safety.Follows s0 (State.leaveRunning s e) := by
  unfold State.leaveRunning
  simp (maxDischargeDepth := 40) +contextual [*]

@[simp] theorem State.engStopped_follows {s0 : State} (s : State) (e : Nat) (flag : Bool) (h : Safety.Follows s0 s) :
    Safety.Follows s0 (State.engStopped s e flag) := by
  unfold State.engStopped
  simp (maxDischargeDepth := 40) +contextual [*]

@[simp] theorem State.engFault_follows {s0 : State} (s : State) (e cause : Nat) (h : Safety.Follows s0 s) :
    Safety.Follows s0 (State.engFault s e cause) := by
  unfold State.engFault
  simp (maxDischargeDepth := 40) +contextual [*]

@[simp] theorem State.engOff_follows {s0 : State} (s : State) (e : Nat) (h : Safety.Follows s0 s) :
    Safety.Follows s0 (State.engOff s e) := by
  unfold State.engOff
  simp (maxDischargeDepth := 40) +contextual [*]

@[simp] theorem State.engConfigure_follows {s0 : State} (s : State) (e : Nat) (h : Safety.Follows s0 s) :
    Safety.Follows s0 (State.engConfigure s e) := by
  unfold State.engConfigure
  simp (maxDischargeDepth := 40) +contextual [*]

@[simp] theorem State.structCheck_follows {s0 : State} (s : State) (e : Nat) (h : Safety.Follows s0 s) :
    Safety.Follows s0 (State.structCheck s e) := by
  unfold State.structCheck
  simp (maxDischargeDepth := 40) +contextual [*]

@[simp] theorem State.runSlot_follows {s0 : State} (s : State) (e : Nat) (slot : SlotName) (op : Nat) (f : BitVec 64 → State → State) (h : Safety.Follows s0 s) (h_f : ∀ y0 y1, Safety.Follows s0 y1 → Safety.Follows s0 (f y0 y1)) :
    Safety.Follows s0 (State.runSlot s e slot op f) := by
  unfold State.runSlot
  simp (maxDischargeDepth := 40) +contextual [*]

end Sys2Proof.Machine
end

