-- ==== Sys2Proof/Laws/Follows/EngineCtrl.lean ====
section
/-!
SUPPORT. Safety.Follows for the operations of Machine/EngineCtrl.lean.
-/

namespace Sys2Proof.Machine

@[simp] theorem State.ctrlLater_follows {s0 : State} (s : State) (e n : Nat) (v : Word) (h : Safety.Follows s0 s) :
    Safety.Follows s0 (State.ctrlLater s e n v) := by
  unfold State.ctrlLater
  simp (maxDischargeDepth := 40) +contextual [*]

@[simp] theorem State.doOut_follows {s0 : State} (s : State) (e : Nat) (w : BitVec 64) (h : Safety.Follows s0 s) :
    Safety.Follows s0 (State.doOut s e w) := by
  unfold State.doOut
  simp (maxDischargeDepth := 40) +contextual [*]

@[simp] theorem State.doFinal_follows {s0 : State} (s : State) (e : Nat) (w : BitVec 64) (h : Safety.Follows s0 s) :
    Safety.Follows s0 (State.doFinal s e w) := by
  unfold State.doFinal
  simp (maxDischargeDepth := 40) +contextual [*]

@[simp] theorem State.doMovf_follows {s0 : State} (s : State) (e : Nat) (w : BitVec 64) (h : Safety.Follows s0 s) :
    Safety.Follows s0 (State.doMovf s e w) := by
  unfold State.doMovf
  simp (maxDischargeDepth := 40) +contextual [*]

@[simp] theorem State.doSel_follows {s0 : State} (s : State) (e : Nat) (w : BitVec 64) (h : Safety.Follows s0 s) :
    Safety.Follows s0 (State.doSel s e w) := by
  unfold State.doSel
  simp (maxDischargeDepth := 40) +contextual [*]

@[simp] theorem State.doHin_follows {s0 : State} (s : State) (e : Nat) (w : BitVec 64) (h : Safety.Follows s0 s) :
    Safety.Follows s0 (State.doHin s e w) := by
  unfold State.doHin
  simp (maxDischargeDepth := 40) +contextual [*]

@[simp] theorem State.nopFault_follows {s0 : State} (s : State) (e : Nat) (slot : SlotName) (h : Safety.Follows s0 s) :
    Safety.Follows s0 (State.nopFault s e slot) := by
  unfold State.nopFault
  simp (maxDischargeDepth := 40) +contextual [*]

end Sys2Proof.Machine
end

