-- ==== Sys2Proof/Laws/Follows/BiphaseTx.lean ====
section
/-!
SUPPORT. Safety.Follows for the operations of Machine/BiphaseTx.lean.
-/

namespace Sys2Proof.Machine

@[simp] theorem State.setWords_follows {s0 : State} (s : State) (b o : Nat) (l : List Word) (h : Safety.Follows s0 s) :
    Safety.Follows s0 (State.setWords s b o l) := by
  unfold State.setWords
  simp (maxDischargeDepth := 40) +contextual [*]

@[simp] theorem State.txHold_follows {s0 : State} (s : State) (n : Nat) (h : Safety.Follows s0 s) :
    Safety.Follows s0 (State.txHold s n) := by
  unfold State.txHold
  simp (maxDischargeDepth := 40) +contextual [*]

@[simp] theorem State.txRunning_follows {s0 : State} (s : State) (n : Nat) (h : Safety.Follows s0 s) :
    Safety.Follows s0 (State.txRunning s n) := by
  unfold State.txRunning
  simp (maxDischargeDepth := 40) +contextual [*]

@[simp] theorem State.txStarting_follows {s0 : State} (s : State) (n : Nat) (h : Safety.Follows s0 s) :
    Safety.Follows s0 (State.txStarting s n) := by
  unfold State.txStarting
  simp (maxDischargeDepth := 40) +contextual [*]

@[simp] theorem State.txDisabled_follows {s0 : State} (s : State) (n : Nat) (h : Safety.Follows s0 s) :
    Safety.Follows s0 (State.txDisabled s n) := by
  unfold State.txDisabled
  simp (maxDischargeDepth := 40) +contextual [*]

@[simp] theorem State.txStopped_follows {s0 : State} (s : State) (n : Nat) (h : Safety.Follows s0 s) :
    Safety.Follows s0 (State.txStopped s n) := by
  unfold State.txStopped
  simp (maxDischargeDepth := 40) +contextual [*]

@[simp] theorem State.txStopping_follows {s0 : State} (s : State) (n : Nat) (h : Safety.Follows s0 s) :
    Safety.Follows s0 (State.txStopping s n) := by
  unfold State.txStopping
  simp (maxDischargeDepth := 40) +contextual [*]

@[simp] theorem State.txEnable_follows {s0 : State} (s : State) (n : Nat) (h : Safety.Follows s0 s) :
    Safety.Follows s0 (State.txEnable s n) := by
  unfold State.txEnable
  dsimp only
  split <;> simp (maxDischargeDepth := 40) +contextual [*]

@[simp] theorem State.txDisable_follows {s0 : State} (s : State) (n : Nat) (h : Safety.Follows s0 s) :
    Safety.Follows s0 (State.txDisable s n) := by
  unfold State.txDisable
  dsimp only
  split <;> simp (maxDischargeDepth := 40) +contextual [*]

@[simp] theorem State.txFullStop_follows {s0 : State} (s : State) (n : Nat) (h : Safety.Follows s0 s) :
    Safety.Follows s0 (State.txFullStop s n) := by
  unfold State.txFullStop
  split <;> simp (maxDischargeDepth := 40) +contextual [*]

@[simp] theorem State.txArm_follows {s0 : State} (s : State) (n : Nat) (h : Safety.Follows s0 s) :
    Safety.Follows s0 (State.txArm s n) := by
  unfold State.txArm
  simp (maxDischargeDepth := 40) +contextual [*]

@[simp] theorem State.txRevert_follows {s0 : State} (s : State) (n : Nat) (h : Safety.Follows s0 s) :
    Safety.Follows s0 (State.txRevert s n) := by
  unfold State.txRevert
  simp (maxDischargeDepth := 40) +contextual [*]

@[simp] theorem State.setLive_follows {s0 : State} (s : State) (n k : Nat) (l : List Word) (h : Safety.Follows s0 s) :
    Safety.Follows s0 (State.setLive s n k l) := by
  unfold State.setLive
  simp (maxDischargeDepth := 40) +contextual [*]

@[simp] theorem State.liveBank_follows {s0 : State} (s : State) (n k src csA csB : Nat) (swap : Bool) (h : Safety.Follows s0 s) :
    Safety.Follows s0 (State.liveBank s n k src csA csB swap) := by
  unfold State.liveBank
  simp (maxDischargeDepth := 40) +contextual [*]

@[simp] theorem State.computeCrcc_follows {s0 : State} (s : State) (n k : Nat) (h : Safety.Follows s0 s) :
    Safety.Follows s0 (State.computeCrcc s n k) := by
  unfold State.computeCrcc
  simp (maxDischargeDepth := 40) +contextual [*]

@[simp] theorem State.txBlock_follows {s0 : State} (s : State) (n : Nat) (h : Safety.Follows s0 s) :
    Safety.Follows s0 (State.txBlock s n) := by
  unfold State.txBlock
  simp (maxDischargeDepth := 40) +contextual [*]

@[simp] theorem State.txFirst_follows {s0 : State} (s : State) (n : Nat) (h : Safety.Follows s0 s) :
    Safety.Follows s0 (State.txFirst s n) := by
  unfold State.txFirst
  simp (maxDischargeDepth := 40) +contextual [*]

@[simp] theorem State.txAdvance_follows {s0 : State} (s : State) (n : Nat) (tick : Bool) (h : Safety.Follows s0 s) :
    Safety.Follows s0 (State.txAdvance s n tick) := by
  unfold State.txAdvance
  dsimp only
  split <;> simp (maxDischargeDepth := 40) +contextual [*]

@[simp] theorem State.txParity_follows {s0 : State} (s : State) (n : Nat) (h : Safety.Follows s0 s) :
    Safety.Follows s0 (State.txParity s n) := by
  unfold State.txParity
  simp (maxDischargeDepth := 40) +contextual [*]

@[simp] theorem State.txFrame_follows {s0 : State} (s : State) (n : Nat) (tick : Bool) (h : Safety.Follows s0 s) :
    Safety.Follows s0 (State.txFrame s n tick) := by
  unfold State.txFrame
  simp (maxDischargeDepth := 40) +contextual [*]

@[simp] theorem State.txFrames_follows {s0 : State} (s : State) (n : Nat) (x0 : Nat) (h : Safety.Follows s0 s) :
    Safety.Follows s0 (State.txFrames s n x0) := by
  induction x0 generalizing s with
  | zero => exact h
  | succ k ih => exact ih _ (State.txFrame_follows s n false h)

@[simp] theorem State.txTick_follows {s0 : State} (s : State) (n : Nat) (h : Safety.Follows s0 s) :
    Safety.Follows s0 (State.txTick s n) := by
  unfold State.txTick
  simp (maxDischargeDepth := 40) +contextual [*]

@[simp] theorem State.txDeliver_follows {s0 : State} (s : State) (n : Nat) (l : List Word) (h : Safety.Follows s0 s) :
    Safety.Follows s0 (State.txDeliver s n l) := by
  unfold State.txDeliver
  simp (maxDischargeDepth := 40) +contextual [*]

end Sys2Proof.Machine
end

