-- ==== Sys2Proof/Laws/Follows/Rates.lean ====
section
/-!
SUPPORT. Safety.Follows for the operations of Machine/Rates.lean.
-/

namespace Sys2Proof.Machine

@[simp] theorem State.fclkWrite_follows {s0 : State} (s : State) (a : Nat) (w : Word) (h : Safety.Follows s0 s) :
    Safety.Follows s0 (State.fclkWrite s a w) := by
  unfold State.fclkWrite
  simp (maxDischargeDepth := 40) +contextual [*]

@[simp] theorem State.drew_follows {s0 : State} (s : State) (h : Safety.Follows s0 s) :
    Safety.Follows s0 (State.drew s) := by
  unfold State.drew
  simp (maxDischargeDepth := 40) +contextual [*]

@[simp] theorem State.fclkGood_follows {s0 : State} (s : State) (a : Nat) (h : Safety.Follows s0 s) :
    Safety.Follows s0 (State.fclkGood s a) := by
  unfold State.fclkGood
  simp (maxDischargeDepth := 40) +contextual [*]

end Sys2Proof.Machine
end

