-- ==== Sys2Proof/Laws/Follows/Discipline.lean ====
section
/-!
SUPPORT. Safety.Follows for the operations of Machine/Discipline.lean.
-/

namespace Sys2Proof.Machine

@[simp] theorem State.setClocks_follows {s0 : State} (s : State) (c : Clocks) (h : Safety.Follows s0 s) :
    Safety.Follows s0 (State.setClocks s c) := by
  unfold State.setClocks
  simp (maxDischargeDepth := 40) +contextual [*]

@[simp] theorem State.discJudge_follows {s0 : State} (s : State) (err : Int) (h : Safety.Follows s0 s) :
    Safety.Follows s0 (State.discJudge s err) := by
  unfold State.discJudge
  simp (maxDischargeDepth := 40) +contextual [*]

@[simp] theorem State.discDrop_follows {s0 : State} (s : State) (src : Nat) (h : Safety.Follows s0 s) :
    Safety.Follows s0 (State.discDrop s src) := by
  unfold State.discDrop
  simp (maxDischargeDepth := 40) +contextual [*]

@[simp] theorem State.discMark_follows {s0 : State} (s : State) (want : Nat) (h : Safety.Follows s0 s) :
    Safety.Follows s0 (State.discMark s want) := by
  unfold State.discMark
  dsimp only
  repeat' split
  all_goals simp (maxDischargeDepth := 40) +contextual [*]

@[simp] theorem State.discTick_follows {s0 : State} (s : State) (h : Safety.Follows s0 s) :
    Safety.Follows s0 (State.discTick s) := by
  unfold State.discTick
  simp (maxDischargeDepth := 40) +contextual [*]

@[simp] theorem State.discBlock_follows {s0 : State} (s : State) (n : Nat) (h : Safety.Follows s0 s) :
    Safety.Follows s0 (State.discBlock s n) := by
  unfold State.discBlock
  simp (maxDischargeDepth := 40) +contextual [*]

end Sys2Proof.Machine
end

