-- ==== Sys2Proof/Laws/Follows/Fifo.lean ====
section
/-!
SUPPORT. Safety.Follows for the operations of Machine/Fifo.lean.
-/

namespace Sys2Proof.Machine

@[simp] theorem State.noteRx_follows {s0 : State} (s : State) (b ev o : Nat) (n : RxNote) (h : Safety.Follows s0 s) :
    Safety.Follows s0 (State.noteRx s b ev o n) := by
  unfold State.noteRx
  simp (maxDischargeDepth := 40) +contextual [*]

@[simp] theorem State.slipUsed_follows {s0 : State} (s : State) (i : Nat) (h : Safety.Follows s0 s) :
    Safety.Follows s0 (State.slipUsed s i) := by
  unfold State.slipUsed
  simp (maxDischargeDepth := 40) +contextual [*]

@[simp] theorem State.bpTick_follows {s0 : State} (s : State) (i : Nat) (h : Safety.Follows s0 s) :
    Safety.Follows s0 (State.bpTick s i) := by
  unfold State.bpTick
  simp (maxDischargeDepth := 40) +contextual [*]

@[simp] theorem State.loopTick_follows {s0 : State} (s : State) (i : Nat) (h : Safety.Follows s0 s) :
    Safety.Follows s0 (State.loopTick s i) := by
  unfold State.loopTick
  simp (maxDischargeDepth := 40) +contextual [*]

@[simp] theorem State.latTick_follows {s0 : State} (s : State) (e : Nat) (h : Safety.Follows s0 s) :
    Safety.Follows s0 (State.latTick s e) := by
  unfold State.latTick
  simp (maxDischargeDepth := 40) +contextual [*]

end Sys2Proof.Machine
end

