-- ==== Sys2Proof/Laws/Follows/EngineRound.lean ====
section
/-!
SUPPORT. Safety.Follows for the operations of Machine/EngineRound.lean.
-/

namespace Sys2Proof.Machine

@[simp] theorem State.countCycles_follows {s0 : State} (s : State) (e : Nat) (h : Safety.Follows s0 s) :
    Safety.Follows s0 (State.countCycles s e) := by
  unfold State.countCycles
  simp (maxDischargeDepth := 40) +contextual [*]

@[simp] theorem State.publish_follows {s0 : State} (s : State) (e : Nat) (h : Safety.Follows s0 s) :
    Safety.Follows s0 (State.publish s e) := by
  unfold State.publish
  simp (maxDischargeDepth := 40) +contextual [*]

@[simp] theorem State.idleFade_follows {s0 : State} (s : State) (e : Nat) (h : Safety.Follows s0 s) :
    Safety.Follows s0 (State.idleFade s e) := by
  unfold State.idleFade
  simp (maxDischargeDepth := 40) +contextual [*]

@[simp] theorem State.runEntry_follows {s0 : State} (s : State) (e : Nat) (h : Safety.Follows s0 s) :
    Safety.Follows s0 (State.runEntry s e) := by
  unfold State.runEntry
  simp (maxDischargeDepth := 40) +contextual [*]

@[simp] theorem State.tickInRound_follows {s0 : State} (s : State) (e : Nat) (h : Safety.Follows s0 s) :
    Safety.Follows s0 (State.tickInRound s e) := by
  unfold State.tickInRound
  simp (maxDischargeDepth := 40) +contextual [*]

@[simp] theorem State.tickState_follows {s0 : State} (s : State) (e : Nat) (h : Safety.Follows s0 s) :
    Safety.Follows s0 (State.tickState s e) := by
  unfold State.tickState
  dsimp only
  split <;> simp (maxDischargeDepth := 40) +contextual [*]

@[simp] theorem State.planRound_follows {s0 : State} (s : State) (e : Nat) (h : Safety.Follows s0 s) :
    Safety.Follows s0 (State.planRound s e) := by
  unfold State.planRound
  simp (maxDischargeDepth := 40) +contextual [*]

@[simp] theorem State.engTick_follows {s0 : State} (s : State) (e : Nat) (h : Safety.Follows s0 s) :
    Safety.Follows s0 (State.engTick s e) := by
  unfold State.engTick
  simp (maxDischargeDepth := 40) +contextual [*]

@[simp] theorem State.dropRound_follows {s0 : State} (s : State) (e : Nat) (h : Safety.Follows s0 s) :
    Safety.Follows s0 (State.dropRound s e) := by
  unfold State.dropRound
  simp (maxDischargeDepth := 40) +contextual [*]

@[simp] theorem State.holdStep_follows {s0 : State} (s : State) (e : Nat) (h : Safety.Follows s0 s) :
    Safety.Follows s0 (State.holdStep s e) := by
  unfold State.holdStep
  simp (maxDischargeDepth := 40) +contextual [*]

end Sys2Proof.Machine
end

