-- ==== Sys2Proof/Laws/Follows/Advance.lean ====
section
/-!
SUPPORT. Safety.Follows for the operations of Machine/Advance.lean.
-/

namespace Sys2Proof.Machine

@[simp] theorem State.countTo_follows {s0 : State} (s : State) (t : Nat) (h : Safety.Follows s0 s) :
    Safety.Follows s0 (State.countTo s t) := by
  unfold State.countTo
  simp (maxDischargeDepth := 40) +contextual [*]

@[simp] theorem State.tdmParity_follows {s0 : State} (s : State) (p : Nat) (h : Safety.Follows s0 s) :
    Safety.Follows s0 (State.tdmParity s p) := by
  unfold State.tdmParity
  simp (maxDischargeDepth := 40) +contextual [*]

@[simp] theorem State.rxParity_follows {s0 : State} (s : State) (n : Nat) (h : Safety.Follows s0 s) :
    Safety.Follows s0 (State.rxParity s n) := by
  unfold State.rxParity
  simp (maxDischargeDepth := 40) +contextual [*]

@[simp] theorem State.structural_follows {s0 : State} (s : State) (h : Safety.Follows s0 s) :
    Safety.Follows s0 (State.structural s) := by
  unfold State.structural
  simp (maxDischargeDepth := 40) +contextual [*]

@[simp] theorem State.holdSteps_follows {s0 : State} (s : State) (e k : Nat) (h : Safety.Follows s0 s) :
    Safety.Follows s0 (State.holdSteps s e k) := by
  unfold State.holdSteps
  simp (maxDischargeDepth := 40) +contextual [*]

@[simp] theorem State.heldFades_follows {s0 : State} (s : State) (n : Nat) (h : Safety.Follows s0 s) :
    Safety.Follows s0 (State.heldFades s n) := by
  unfold State.heldFades
  simp (maxDischargeDepth := 40) +contextual [*]

@[simp] theorem State.heldFrames_follows {s0 : State} (s : State) (n : Nat) (h : Safety.Follows s0 s) :
    Safety.Follows s0 (State.heldFrames s n) := by
  unfold State.heldFrames
  simp (maxDischargeDepth := 40) +contextual [*]

@[simp] theorem State.heldWrite_follows {s0 : State} (s : State) (h : HeldWrite) (hs : Safety.Follows s0 s) :
    Safety.Follows s0 (State.heldWrite s h) := by
  unfold State.heldWrite
  simp (maxDischargeDepth := 40) +contextual [*]

@[simp] theorem State.heldLand_follows {s0 : State} (s : State) (h : Safety.Follows s0 s) :
    Safety.Follows s0 (State.heldLand s) := by
  unfold State.heldLand
  simp (maxDischargeDepth := 40) +contextual [*]

@[simp] theorem State.upTo_follows {s0 : State} (s : State) (t : Nat) (h : Safety.Follows s0 s) :
    Safety.Follows s0 (State.upTo s t) := by
  unfold State.upTo
  simp (maxDischargeDepth := 40) +contextual [*]

end Sys2Proof.Machine
end

