-- ==== Sys2Proof/Laws/Follows/Checks.lean ====
section
/-!
SUPPORT. Safety.Follows for the operations of Machine/Checks.lean.
-/

namespace Sys2Proof.Machine

end Sys2Proof.Machine
end

