-- ==== Sys2Proof/Laws/Follows/Meter.lean ====
section
/-!
SUPPORT. Safety.Follows for the operations of Machine/Meter.lean.
-/

namespace Sys2Proof.Machine

@[simp] theorem State.setMeter_follows {s0 : State} (s : State) (m : Meter) (h : Safety.Follows s0 s) :
    Safety.Follows s0 (State.setMeter s m) := by
  unfold State.setMeter
  simp (maxDischargeDepth := 40) +contextual [*]

@[simp] theorem State.setMchan_follows {s0 : State} (s : State) (m : Nat) (c : MeterChannel) (h : Safety.Follows s0 s) :
    Safety.Follows s0 (State.setMchan s m c) := by
  unfold State.setMchan
  simp (maxDischargeDepth := 40) +contextual [*]

@[simp] theorem State.setGuard_follows {s0 : State} (s : State) (g : Nat) (x : Guard) (h : Safety.Follows s0 s) :
    Safety.Follows s0 (State.setGuard s g x) := by
  unfold State.setGuard
  simp (maxDischargeDepth := 40) +contextual [*]

@[simp] theorem State.logEntry_follows {s0 : State} (s : State) (type detail d0 d1 : Nat) (h : Safety.Follows s0 s) :
    Safety.Follows s0 (State.logEntry s type detail d0 d1) := by
  unfold State.logEntry
  simp (maxDischargeDepth := 40) +contextual [*]

@[simp] theorem State.meterReject_follows {s0 : State} (s : State) (a : Nat) (w : Word) (h : Safety.Follows s0 s) :
    Safety.Follows s0 (State.meterReject s a w) := by
  unfold State.meterReject
  simp (maxDischargeDepth := 40) +contextual [*]

@[simp] theorem State.meterOk_follows {s0 : State} (s : State) (h : Safety.Follows s0 s) :
    Safety.Follows s0 (State.meterOk s) := by
  unfold State.meterOk
  simp (maxDischargeDepth := 40) +contextual [*]

@[simp] theorem State.meterLog_follows {s0 : State} (s : State) (type detail d0 d1 : Nat) (h : Safety.Follows s0 s) :
    Safety.Follows s0 (State.meterLog s type detail d0 d1) := by
  unfold State.meterLog
  simp (maxDischargeDepth := 40) +contextual [*]

@[simp] theorem State.failsafeLeave_follows {s0 : State} (s : State) (g : Nat) (h : Safety.Follows s0 s) :
    Safety.Follows s0 (State.failsafeLeave s g) := by
  unfold State.failsafeLeave
  simp (maxDischargeDepth := 40) +contextual [*]

@[simp] theorem State.failsafeIn_follows {s0 : State} (s : State) (g : Nat) (h : Safety.Follows s0 s) :
    Safety.Follows s0 (State.failsafeIn s g) := by
  unfold State.failsafeIn
  simp (maxDischargeDepth := 40) +contextual [*]

@[simp] theorem State.failsafeOut_follows {s0 : State} (s : State) (g : Nat) (h : Safety.Follows s0 s) :
    Safety.Follows s0 (State.failsafeOut s g) := by
  unfold State.failsafeOut
  simp (maxDischargeDepth := 40) +contextual [*]

@[simp] theorem State.meterJudge_follows {s0 : State} (s : State) (h : Safety.Follows s0 s) :
    Safety.Follows s0 (State.meterJudge s) := by
  unfold State.meterJudge
  simp (maxDischargeDepth := 40) +contextual [*]

@[simp] theorem State.logInput_follows {s0 : State} (s : State) (m : Nat) (v : Bool) (h : Safety.Follows s0 s) :
    Safety.Follows s0 (State.logInput s m v) := by
  unfold State.logInput
  simp (maxDischargeDepth := 40) +contextual [*]

@[simp] theorem State.setValid_follows {s0 : State} (s : State) (m : Nat) (v : Bool) (h : Safety.Follows s0 s) :
    Safety.Follows s0 (State.setValid s m v) := by
  unfold State.setValid
  simp (maxDischargeDepth := 40) +contextual [*]

@[simp] theorem State.newSource_follows {s0 : State} (s : State) (m : Nat) (h : Safety.Follows s0 s) :
    Safety.Follows s0 (State.newSource s m) := by
  unfold State.newSource
  simp (maxDischargeDepth := 40) +contextual [*]

@[simp] theorem State.meterParams_follows {s0 : State} (s : State) (h : Safety.Follows s0 s) :
    Safety.Follows s0 (State.meterParams s) := by
  unfold State.meterParams
  refine State.meterJudge_follows _ (State.each_follows _ _ _ h fun s m h => ?_)
  have hn := State.newSource_follows s m h
  revert hn
  generalize s.newSource m = s'
  intro hn
  dsimp only
  split <;> simp (maxDischargeDepth := 40) +contextual [hn]

@[simp] theorem State.shadowLost_follows {s0 : State} (s : State) (n : Nat) (h : Safety.Follows s0 s) :
    Safety.Follows s0 (State.shadowLost s n) := by
  unfold State.shadowLost
  refine State.setMeter_follows _ _ (State.each_follows _ _ _ h fun s m h => ?_)
  dsimp only
  split <;> simp (maxDischargeDepth := 40) +contextual [*]

@[simp] theorem State.shadowNow_follows {s0 : State} (s : State) (bad : List Nat) (h : Safety.Follows s0 s) :
    Safety.Follows s0 (State.shadowNow s bad) := by
  unfold State.shadowNow
  simp (maxDischargeDepth := 40) +contextual [*]

@[simp] theorem State.shadowRewritten_follows {s0 : State} (s : State) (l : List (Nat × Word)) (h : Safety.Follows s0 s) :
    Safety.Follows s0 (State.shadowRewritten s l) := by
  unfold State.shadowRewritten
  simp (maxDischargeDepth := 40) +contextual [*]

@[simp] theorem State.fillZero_follows {s0 : State} (s : State) (m : Nat) (h : Safety.Follows s0 s) :
    Safety.Follows s0 (State.fillZero s m) := by
  unfold State.fillZero
  simp (maxDischargeDepth := 40) +contextual [*]

@[simp] theorem State.measure_follows {s0 : State} (s : State) (m : Nat) (x : Word) (h : Safety.Follows s0 s) :
    Safety.Follows s0 (State.measure s m x) := by
  unfold State.measure
  simp (maxDischargeDepth := 40) +contextual [*]

@[simp] theorem State.readings_follows {s0 : State} (s : State) (m : Nat) (peakC peakZ : Rat) (h : Safety.Follows s0 s) :
    Safety.Follows s0 (State.readings s m peakC peakZ) := by
  unfold State.readings
  simp (maxDischargeDepth := 40) +contextual [*]

@[simp] theorem State.endSecond_follows {s0 : State} (s : State) (m : Nat) (clocked : Bool) (h : Safety.Follows s0 s) :
    Safety.Follows s0 (State.endSecond s m clocked) := by
  unfold State.endSecond
  simp (maxDischargeDepth := 40) +contextual [*]

@[simp] theorem State.guardStep_follows {s0 : State} (s : State) (g : Nat) (h : Safety.Follows s0 s) :
    Safety.Follows s0 (State.guardStep s g) := by
  unfold State.guardStep
  simp (maxDischargeDepth := 40) +contextual [*]

@[simp] theorem State.guardFresh_follows {s0 : State} (s : State) (g : Nat) (h : Safety.Follows s0 s) :
    Safety.Follows s0 (State.guardFresh s g) := by
  unfold State.guardFresh
  simp (maxDischargeDepth := 40) +contextual [*]

@[simp] theorem State.guardTick_follows {s0 : State} (s : State) (n : Nat) (h : Safety.Follows s0 s) :
    Safety.Follows s0 (State.guardTick s n) := by
  unfold State.guardTick
  simp (maxDischargeDepth := 40) +contextual [*]

@[simp] theorem State.guardSample_follows {s0 : State} (s : State) (k : Nat) (x : Word) (h : Safety.Follows s0 s) :
    Safety.Follows s0 (State.guardSample s k x).1 := by
  unfold State.guardSample
  split
  · exact h
  · split
    · exact h
    · extract_lets g q cut z gp dt gr ceil gp' y _ s1
      have h1 : Safety.Follows s0 s1 := by simp (maxDischargeDepth := 40) +contextual [s1, h]
      clear_value s1 y
      simp (maxDischargeDepth := 40) +contextual [h1]

@[simp] theorem State.meterPowerUp_follows {s0 : State} (s : State) (h : Safety.Follows s0 s) :
    Safety.Follows s0 (State.meterPowerUp s) := by
  unfold State.meterPowerUp
  simp (maxDischargeDepth := 40) +contextual [*]

@[simp] theorem State.sealRefuse_follows {s0 : State} (s : State) (cause : Nat) (h : Safety.Follows s0 s) :
    Safety.Follows s0 (State.sealRefuse s cause) := by
  unfold State.sealRefuse
  simp (maxDischargeDepth := 40) +contextual [*]

@[simp] theorem State.doSeal_follows {s0 : State} (s : State) (burnOk : Bool) (h : Safety.Follows s0 s) :
    Safety.Follows s0 (State.doSeal s burnOk) := by
  unfold State.doSeal
  simp (maxDischargeDepth := 40) +contextual [*]

@[simp] theorem State.doUnseal_follows {s0 : State} (s : State) (burnOk : Bool) (h : Safety.Follows s0 s) :
    Safety.Follows s0 (State.doUnseal s burnOk) := by
  unfold State.doUnseal
  dsimp only
  split <;> simp (maxDischargeDepth := 40) +contextual [*]

@[simp] theorem State.clockJudge_follows {s0 : State} (s : State) (dco : Nat) (h : Safety.Follows s0 s) :
    Safety.Follows s0 (State.clockJudge s dco) := by
  unfold State.clockJudge
  simp (maxDischargeDepth := 40) +contextual [*]

end Sys2Proof.Machine
end

