-- ==== Sys2Proof/Laws/Follows/Router.lean ====
section
/-!
SUPPORT. Safety.Follows for the operations of Machine/Router.lean.
-/

namespace Sys2Proof.Machine

@[simp] theorem State.setRouter_follows {s0 : State} (s : State) (r : Router) (h : Safety.Follows s0 s) :
    Safety.Follows s0 (State.setRouter s r) := by
  unfold State.setRouter
  simp (maxDischargeDepth := 40) +contextual [*]

@[simp] theorem State.setGen_follows {s0 : State} (s : State) (n : Nat) (g : Gen) (h : Safety.Follows s0 s) :
    Safety.Follows s0 (State.setGen s n g) := by
  unfold State.setGen
  simp (maxDischargeDepth := 40) +contextual [*]

@[simp] theorem State.genWritten_follows {s0 : State} (s : State) (n : Nat) (old : Word) (h : Safety.Follows s0 s) :
    Safety.Follows s0 (State.genWritten s n old) := by
  unfold State.genWritten
  simp (maxDischargeDepth := 40) +contextual [*]

@[simp] theorem State.genTick_follows {s0 : State} (s : State) (n : Nat) (h : Safety.Follows s0 s) :
    Safety.Follows s0 (State.genTick s n) := by
  unfold State.genTick
  simp (maxDischargeDepth := 40) +contextual [*]

@[simp] theorem State.hpfCommit_follows {s0 : State} (s : State) (h : Safety.Follows s0 s) :
    Safety.Follows s0 (State.hpfCommit s) := by
  unfold State.hpfCommit
  simp (maxDischargeDepth := 40) +contextual [*]

@[simp] theorem State.hpfTake_follows {s0 : State} (s : State) (n : Nat) (h : Safety.Follows s0 s) :
    Safety.Follows s0 (State.hpfTake s n) := by
  unfold State.hpfTake
  simp (maxDischargeDepth := 40) +contextual [*]

@[simp] theorem State.hpfRevert_follows {s0 : State} (s : State) (h : Safety.Follows s0 s) :
    Safety.Follows s0 (State.hpfRevert s) := by
  unfold State.hpfRevert
  simp (maxDischargeDepth := 40) +contextual [*]

@[simp] theorem State.portSource_follows {s0 : State} (s : State) (i input tb : Nat) (v : Word) (h : Safety.Follows s0 s) :
    Safety.Follows s0 (State.portSource s i input tb v) := by
  unfold State.portSource
  simp (maxDischargeDepth := 40) +contextual [*]

@[simp] theorem State.streamParity_follows {s0 : State} (s : State) (sink : Bool) (m : Nat) (h : Safety.Follows s0 s) :
    Safety.Follows s0 (State.streamParity s sink m) := by
  unfold State.streamParity
  simp (maxDischargeDepth := 40) +contextual [*]

@[simp] theorem State.streamTick_follows {s0 : State} (s : State) (m : Nat) (h : Safety.Follows s0 s) :
    Safety.Follows s0 (State.streamTick s m) := by
  unfold State.streamTick
  dsimp only
  split <;> simp (maxDischargeDepth := 40) +contextual [*]

@[simp] theorem State.streamLand_follows {s0 : State} (s : State) (a : Nat) (v : Word) (h : Safety.Follows s0 s) :
    Safety.Follows s0 (State.streamLand s a v) := by
  unfold State.streamLand
  simp (maxDischargeDepth := 40) +contextual [*]

@[simp] theorem State.streamWrite_follows {s0 : State} (s : State) (m : Nat) (v : Word) (h : Safety.Follows s0 s) :
    Safety.Follows s0 (State.streamWrite s m v) := by
  unfold State.streamWrite
  dsimp only
  split <;> simp (maxDischargeDepth := 40) +contextual [*]

@[simp] theorem State.columnResult_follows {s0 : State} (s : State) (c : Nat) (sum : Int) (h : Safety.Follows s0 s) :
    Safety.Follows s0 (State.columnResult s c sum) := by
  unfold State.columnResult
  simp (maxDischargeDepth := 40) +contextual [*]

@[simp] theorem State.matrixClose_follows {s0 : State} (s : State) (elapsed : Nat) (h : Safety.Follows s0 s) :
    Safety.Follows s0 (State.matrixClose s elapsed) := by
  unfold State.matrixClose
  simp (maxDischargeDepth := 40) +contextual [*]

@[simp] theorem State.setZc_follows {s0 : State} (s : State) (n : Nat) (w : ZcWait) (h : Safety.Follows s0 s) :
    Safety.Follows s0 (State.setZc s n w) := by
  unfold State.setZc
  simp (maxDischargeDepth := 40) +contextual [*]

@[simp] theorem State.patchChanged_follows {s0 : State} (s : State) (k : Nat) (old : Word) (h : Safety.Follows s0 s) :
    Safety.Follows s0 (State.patchChanged s k old) := by
  unfold State.patchChanged
  dsimp only
  repeat' split
  all_goals simp (maxDischargeDepth := 40) +contextual [*]

@[simp] theorem State.entryChanged_follows {s0 : State} (s : State) (a : Nat) (old eff : Word) (h : Safety.Follows s0 s) :
    Safety.Follows s0 (State.entryChanged s a old eff) := by
  unfold State.entryChanged
  simp (maxDischargeDepth := 40) +contextual [*]

@[simp] theorem State.sinkTick_follows {s0 : State} (s : State) (n : Nat) (h : Safety.Follows s0 s) :
    Safety.Follows s0 (State.sinkTick s n) := by
  unfold State.sinkTick
  simp (maxDischargeDepth := 40) +contextual [*]

@[simp] theorem State.routerExchange_follows {s0 : State} (s : State) (h : Safety.Follows s0 s) :
    Safety.Follows s0 (State.routerExchange s) := by
  unfold State.routerExchange
  simp (maxDischargeDepth := 40) +contextual [*]

@[simp] theorem State.routerRestart_follows {s0 : State} (s : State) (h : Safety.Follows s0 s) :
    Safety.Follows s0 (State.routerRestart s) := by
  unfold State.routerRestart
  simp (maxDischargeDepth := 40) +contextual [*]

@[simp] theorem State.zcApply_follows {s0 : State} (s : State) (n k : Nat) (h : Safety.Follows s0 s) :
    Safety.Follows s0 (State.zcApply s n k) := by
  unfold State.zcApply
  dsimp only
  split <;> simp (maxDischargeDepth := 40) +contextual [*]

@[simp] theorem State.zcTimeout_follows {s0 : State} (s : State) (n tb : Nat) (h : Safety.Follows s0 s) :
    Safety.Follows s0 (State.zcTimeout s n tb) := by
  unfold State.zcTimeout
  simp (maxDischargeDepth := 40) +contextual [*]

@[simp] theorem State.writeGenB_follows {s0 : State} (s : State) (n : Nat) (w : Word) (h : Safety.Follows s0 s) :
    Safety.Follows s0 (State.writeGenB s n w) := by
  unfold State.writeGenB
  simp (maxDischargeDepth := 40) +contextual [*]

end Sys2Proof.Machine
end

