-- ==== Sys2Proof/Laws/Follows/Tdm.lean ====
section
/-!
SUPPORT. Safety.Follows for the operations of Machine/Tdm.lean.
-/

namespace Sys2Proof.Machine

@[simp] theorem State.sdoZeros_follows {s0 : State} (s : State) (p : Nat) (h : Safety.Follows s0 s) :
    Safety.Follows s0 (State.sdoZeros s p) := by
  unfold State.sdoZeros
  simp (maxDischargeDepth := 40) +contextual [*]

@[simp] theorem State.sdoOff_follows {s0 : State} (s : State) (p : Nat) (h : Safety.Follows s0 s) :
    Safety.Follows s0 (State.sdoOff s p) := by
  unfold State.sdoOff
  simp (maxDischargeDepth := 40) +contextual [*]

@[simp] theorem State.tdmQuiet_follows {s0 : State} (s : State) (p : Nat) (h : Safety.Follows s0 s) :
    Safety.Follows s0 (State.tdmQuiet s p) := by
  unfold State.tdmQuiet
  simp (maxDischargeDepth := 40) +contextual [*]

@[simp] theorem State.tdmDisabled_follows {s0 : State} (s : State) (p : Nat) (h : Safety.Follows s0 s) :
    Safety.Follows s0 (State.tdmDisabled s p) := by
  unfold State.tdmDisabled
  simp (maxDischargeDepth := 40) +contextual [*]

@[simp] theorem State.tdmStarting_follows {s0 : State} (s : State) (p : Nat) (h : Safety.Follows s0 s) :
    Safety.Follows s0 (State.tdmStarting s p) := by
  unfold State.tdmStarting
  simp (maxDischargeDepth := 40) +contextual [*]

@[simp] theorem State.tdmStopped_follows {s0 : State} (s : State) (p : Nat) (h : Safety.Follows s0 s) :
    Safety.Follows s0 (State.tdmStopped s p) := by
  unfold State.tdmStopped
  simp (maxDischargeDepth := 40) +contextual [*]

@[simp] theorem State.tdmStopping_follows {s0 : State} (s : State) (p : Nat) (h : Safety.Follows s0 s) :
    Safety.Follows s0 (State.tdmStopping s p) := by
  unfold State.tdmStopping
  simp (maxDischargeDepth := 40) +contextual [*]

@[simp] theorem State.tdmRunning_follows {s0 : State} (s : State) (p : Nat) (h : Safety.Follows s0 s) :
    Safety.Follows s0 (State.tdmRunning s p) := by
  unfold State.tdmRunning
  simp (maxDischargeDepth := 40) +contextual [*]

@[simp] theorem State.tdmHold_follows {s0 : State} (s : State) (p : Nat) (noMarks : Bool) (h : Safety.Follows s0 s) :
    Safety.Follows s0 (State.tdmHold s p noMarks) := by
  unfold State.tdmHold
  simp (maxDischargeDepth := 40) +contextual [*]

@[simp] theorem State.tdmEnable_follows {s0 : State} (s : State) (p : Nat) (h : Safety.Follows s0 s) :
    Safety.Follows s0 (State.tdmEnable s p) := by
  unfold State.tdmEnable
  dsimp only
  split <;> simp (maxDischargeDepth := 40) +contextual [*]

@[simp] theorem State.tdmDisable_follows {s0 : State} (s : State) (p : Nat) (h : Safety.Follows s0 s) :
    Safety.Follows s0 (State.tdmDisable s p) := by
  unfold State.tdmDisable
  dsimp only
  split <;> simp (maxDischargeDepth := 40) +contextual [*]

@[simp] theorem State.tdmFullStop_follows {s0 : State} (s : State) (p : Nat) (h : Safety.Follows s0 s) :
    Safety.Follows s0 (State.tdmFullStop s p) := by
  unfold State.tdmFullStop
  split <;> simp (maxDischargeDepth := 40) +contextual [*]

@[simp] theorem State.maskStart_follows {s0 : State} (s : State) (p : Nat) (m : Word × Word) (h : Safety.Follows s0 s) :
    Safety.Follows s0 (State.maskStart s p m) := by
  unfold State.maskStart
  simp (maxDischargeDepth := 40) +contextual [*]

@[simp] theorem State.tdmCommit_follows {s0 : State} (s : State) (p : Nat) (h : Safety.Follows s0 s) :
    Safety.Follows s0 (State.tdmCommit s p) := by
  unfold State.tdmCommit
  simp (maxDischargeDepth := 40) +contextual [*]

@[simp] theorem State.tdmRevert_follows {s0 : State} (s : State) (p : Nat) (h : Safety.Follows s0 s) :
    Safety.Follows s0 (State.tdmRevert s p) := by
  unfold State.tdmRevert
  simp (maxDischargeDepth := 40) +contextual [*]

@[simp] theorem State.maskEnd_follows {s0 : State} (s : State) (p : Nat) (h : Safety.Follows s0 s) :
    Safety.Follows s0 (State.maskEnd s p) := by
  unfold State.maskEnd
  dsimp only
  split <;> simp (maxDischargeDepth := 40) +contextual [*]

@[simp] theorem State.maskCheck_follows {s0 : State} (s : State) (p : Nat) (h : Safety.Follows s0 s) :
    Safety.Follows s0 (State.maskCheck s p) := by
  unfold State.maskCheck
  dsimp only
  split <;> simp (maxDischargeDepth := 40) +contextual [*]

@[simp] theorem State.maskFrame_follows {s0 : State} (s : State) (p : Nat) (h : Safety.Follows s0 s) :
    Safety.Follows s0 (State.maskFrame s p) := by
  unfold State.maskFrame
  dsimp only
  split <;> simp (maxDischargeDepth := 40) +contextual [*]

@[simp] theorem State.maskTick_follows {s0 : State} (s : State) (p : Nat) (h : Safety.Follows s0 s) :
    Safety.Follows s0 (State.maskTick s p) := by
  unfold State.maskTick
  dsimp only
  split <;> simp (maxDischargeDepth := 40) +contextual [*]

@[simp] theorem State.tdmSend_follows {s0 : State} (s : State) (p : Nat) (h : Safety.Follows s0 s) :
    Safety.Follows s0 (State.tdmSend s p) := by
  unfold State.tdmSend
  simp (maxDischargeDepth := 40) +contextual [*]

@[simp] theorem State.tdmDeliver_follows {s0 : State} (s : State) (p : Nat) (vals : List Word) (h : Safety.Follows s0 s) :
    Safety.Follows s0 (State.tdmDeliver s p vals) := by
  unfold State.tdmDeliver
  extract_lets x
  refine ite_follows _ _ _ h ?_
  repeat' refine ite_follows _ _ _ ?_ ?_
  all_goals simp (maxDischargeDepth := 40) +contextual +zetaDelta [h]

@[simp] theorem State.tdmTick_follows {s0 : State} (s : State) (p : Nat) (h : Safety.Follows s0 s) :
    Safety.Follows s0 (State.tdmTick s p) := by
  unfold State.tdmTick
  simp (maxDischargeDepth := 40) +contextual [*]

@[simp] theorem State.stableCount_follows {s0 : State} (s : State) (p : Nat) (stable : Bool) (h : Safety.Follows s0 s) :
    Safety.Follows s0 (State.stableCount s p stable) := by
  unfold State.stableCount
  simp (maxDischargeDepth := 40) +contextual [*]

@[simp] theorem State.frameDone_follows {s0 : State} (s : State) (p bits half : Nat) (raw : List Word) (since : Nat) (h : Safety.Follows s0 s) :
    Safety.Follows s0 (State.frameDone s p bits half raw since) := by
  unfold State.frameDone
  extract_lets cfg short whole near x stable s1 s2 raw q _ s3
  have h3 : Safety.Follows s0 s3 := by simp (maxDischargeDepth := 40) +contextual [s3, s2, s1, h]
  clear_value s3 stable
  repeat' split
  all_goals simp (maxDischargeDepth := 40) +contextual +zetaDelta [h3]

@[simp] theorem State.tdmStamp_follows {s0 : State} (s : State) (p : Nat) (h : Safety.Follows s0 s) :
    Safety.Follows s0 (State.tdmStamp s p) := by
  unfold State.tdmStamp
  simp (maxDischargeDepth := 40) +contextual [*]

@[simp] theorem State.stampTick_follows {s0 : State} (s : State) (h : Safety.Follows s0 s) :
    Safety.Follows s0 (State.stampTick s) := by
  unfold State.stampTick
  refine ite_follows _ _ _ (State.each_follows _ _ _ h fun s p hs => ?_) h
  dsimp only
  split <;> simp (maxDischargeDepth := 40) +contextual [hs]

@[simp] theorem State.stopCount_follows {s0 : State} (s : State) (p : Nat) (h : Safety.Follows s0 s) :
    Safety.Follows s0 (State.stopCount s p) := by
  unfold State.stopCount
  simp (maxDischargeDepth := 40) +contextual [*]

@[simp] theorem State.frameBegins_follows {s0 : State} (s : State) (p : Nat) (h : Safety.Follows s0 s) :
    Safety.Follows s0 (State.frameBegins s p) := by
  unfold State.frameBegins
  simp (maxDischargeDepth := 40) +contextual [*]

@[simp] theorem State.writeMask_follows {s0 : State} (s : State) (p : Nat) (m : MaskName) (w : Word) (h : Safety.Follows s0 s) :
    Safety.Follows s0 (State.writeMask s p m w) := by
  unfold State.writeMask
  simp (maxDischargeDepth := 40) +contextual [*]

@[simp] theorem State.tdmNoMarks_follows {s0 : State} (s : State) (p : Nat) (h : Safety.Follows s0 s) :
    Safety.Follows s0 (State.tdmNoMarks s p) := by
  unfold State.tdmNoMarks
  simp (maxDischargeDepth := 40) +contextual [*]

@[simp] theorem State.readStamp_follows {s0 : State} (s : State) (by_ : Requester) (p : Nat) (h : Safety.Follows s0 s) :
    Safety.Follows s0 (State.readStamp s by_ p) := by
  unfold State.readStamp
  dsimp only
  split <;> simp (maxDischargeDepth := 40) +contextual [*]

end Sys2Proof.Machine
end

