-- ==== Sys2Proof/Laws/Follows/Biphase.lean ====
section
/-!
SUPPORT. Safety.Follows for the operations of Machine/Biphase.lean.
-/

namespace Sys2Proof.Machine

@[simp] theorem State.rxSearching_follows {s0 : State} (s : State) (n : Nat) (h : Safety.Follows s0 s) :
    Safety.Follows s0 (State.rxSearching s n) := by
  unfold State.rxSearching
  simp (maxDischargeDepth := 40) +contextual [*]

@[simp] theorem State.rxDisabled_follows {s0 : State} (s : State) (n : Nat) (flag : Bool) (h : Safety.Follows s0 s) :
    Safety.Follows s0 (State.rxDisabled s n flag) := by
  unfold State.rxDisabled
  simp (maxDischargeDepth := 40) +contextual [*]

@[simp] theorem State.rxLeave_follows {s0 : State} (s : State) (n : Nat) (h : Safety.Follows s0 s) :
    Safety.Follows s0 (State.rxLeave s n) := by
  unfold State.rxLeave
  dsimp only
  split <;> simp (maxDischargeDepth := 40) +contextual [*]

@[simp] theorem State.rxFullStop_follows {s0 : State} (s : State) (n : Nat) (h : Safety.Follows s0 s) :
    Safety.Follows s0 (State.rxFullStop s n) := by
  unfold State.rxFullStop
  simp (maxDischargeDepth := 40) +contextual [*]

@[simp] theorem State.rxEnable_follows {s0 : State} (s : State) (n : Nat) (h : Safety.Follows s0 s) :
    Safety.Follows s0 (State.rxEnable s n) := by
  unfold State.rxEnable
  simp (maxDischargeDepth := 40) +contextual [*]

@[simp] theorem State.rxDisable_follows {s0 : State} (s : State) (n : Nat) (h : Safety.Follows s0 s) :
    Safety.Follows s0 (State.rxDisable s n) := by
  unfold State.rxDisable
  simp (maxDischargeDepth := 40) +contextual [*]

@[simp] theorem State.rxHold_follows {s0 : State} (s : State) (n : Nat) (h : Safety.Follows s0 s) :
    Safety.Follows s0 (State.rxHold s n) := by
  unfold State.rxHold
  simp (maxDischargeDepth := 40) +contextual [*]

@[simp] theorem State.rxRunning_follows {s0 : State} (s : State) (n : Nat) (h : Safety.Follows s0 s) :
    Safety.Follows s0 (State.rxRunning s n) := by
  unfold State.rxRunning
  simp (maxDischargeDepth := 40) +contextual [*]

@[simp] theorem State.channelBlock_follows {s0 : State} (s : State) (n cs user dec stale : Nat) (good : Bool) (c : RxChannel) (h : Safety.Follows s0 s) :
    Safety.Follows s0 (State.channelBlock s n cs user dec stale good c).1 := by
  unfold State.channelBlock
  dsimp only
  split <;> simp (maxDischargeDepth := 40) +contextual [*]

@[simp] theorem State.rxBlock_follows {s0 : State} (s : State) (n : Nat) (h : Safety.Follows s0 s) :
    Safety.Follows s0 (State.rxBlock s n) := by
  unfold State.rxBlock
  simp (maxDischargeDepth := 40) +contextual [*]

@[simp] theorem State.rxAdvance_follows {s0 : State} (s : State) (n : Nat) (good : Bool) (period : Nat) (h : Safety.Follows s0 s) :
    Safety.Follows s0 (State.rxAdvance s n good period) := by
  unfold State.rxAdvance
  simp (maxDischargeDepth := 40) +contextual [*]

@[simp] theorem State.rxTakeFrame_follows {s0 : State} (s : State) (n : Nat) (f : BiphaseFrame) (h : Safety.Follows s0 s) :
    Safety.Follows s0 (State.rxTakeFrame s n f) := by
  unfold State.rxTakeFrame
  extract_lets x b j s1 s2 s3 a c run s4 aux al unread cut q s5 s6 s7 s8
  have h1 : Safety.Follows s0 s1 := by simp (maxDischargeDepth := 40) +contextual [s1, h]
  have h2 : Safety.Follows s0 s2 := by simp (maxDischargeDepth := 40) +contextual [s2, h1]
  have h3 : Safety.Follows s0 s3 := by simp (maxDischargeDepth := 40) +contextual [s3, h2]
  have h4 : Safety.Follows s0 s4 := by simp (maxDischargeDepth := 40) +contextual [s4, h3]
  clear_value s4 q run al cut
  have h5 : Safety.Follows s0 s5 := by simp (maxDischargeDepth := 40) +contextual [s5, h4]
  have h6 : Safety.Follows s0 s6 := by simp (maxDischargeDepth := 40) +contextual [s6, h5]
  have h7 : Safety.Follows s0 s7 := by simp (maxDischargeDepth := 40) +contextual [s7, h6]
  have h8 : Safety.Follows s0 s8 := by simp (maxDischargeDepth := 40) +contextual [s8, h7]
  simp (maxDischargeDepth := 40) +contextual [h8]

@[simp] theorem State.rxTick_follows {s0 : State} (s : State) (n : Nat) (h : Safety.Follows s0 s) :
    Safety.Follows s0 (State.rxTick s n) := by
  unfold State.rxTick
  extract_lets zeros
  have hz : ∀ s, Safety.Follows s0 s → Safety.Follows s0 (zeros s) := fun s h => by simp (maxDischargeDepth := 40) +contextual [zeros, h]
  clear_value zeros
  refine ite_follows _ _ _ (hz _ h) ?_
  rename_i s1 x run slip q gone cut up len src y s2 s3 s4 s5
  have h2 : Safety.Follows s0 s2 := by simp (maxDischargeDepth := 40) +contextual [s2, s1, h]
  clear_value s2 y slip
  have h3 : Safety.Follows s0 s3 := by simp (maxDischargeDepth := 40) +contextual [s3, h2]
  clear_value s3
  have h5 : Safety.Follows s0 s5 := by simp (maxDischargeDepth := 40) +contextual [s5, s4, h3]
  exact ite_follows _ _ _ (hz _ (State.rxDisabled_follows _ _ _ h5)) h5

end Sys2Proof.Machine
end

