-- ==== Sys2Proof/Laws/Follows/Cross.lean ====
section
/-!
SUPPORT. Safety.Follows for the operations of Machine/Cross.lean.
-/

namespace Sys2Proof.Machine

@[simp] theorem State.setCore_follows {s0 : State} (s : State) (c : Core) (h : Safety.Follows s0 s) :
    Safety.Follows s0 (State.setCore s c) := by
  unfold State.setCore
  simp (maxDischargeDepth := 40) +contextual [*]

@[simp] theorem State.setCross_follows {s0 : State} (s : State) (k : Nat) (x : Crossing) (h : Safety.Follows s0 s) :
    Safety.Follows s0 (State.setCross s k x) := by
  unfold State.setCross
  simp (maxDischargeDepth := 40) +contextual [*]

@[simp] theorem State.sideReset_follows {s0 : State} (s : State) (b : Nat) (h : Safety.Follows s0 s) :
    Safety.Follows s0 (State.sideReset s b) := by
  unfold State.sideReset
  simp (maxDischargeDepth := 40) +contextual [*]

@[simp] theorem State.crossReset_follows {s0 : State} (s : State) (k : Nat) (l : Sparse Word) (len : Nat) (h : Safety.Follows s0 s) :
    Safety.Follows s0 (State.crossReset s k l len) := by
  unfold State.crossReset
  simp (maxDischargeDepth := 40) +contextual [*]

@[simp] theorem State.crossSources_follows {s0 : State} (s : State) (k lo n : Nat) (good : Bool) (len : Nat) (h : Safety.Follows s0 s) :
    Safety.Follows s0 (State.crossSources s k lo n good len) := by
  unfold State.crossSources
  simp (maxDischargeDepth := 40) +contextual [*]

@[simp] theorem State.crossTick_follows {s0 : State} (s : State) (n : Nat) (h : Safety.Follows s0 s) :
    Safety.Follows s0 (State.crossTick s n) := by
  unfold State.crossTick
  simp (maxDischargeDepth := 40) +contextual [*]

@[simp] theorem State.crossSinks_follows {s0 : State} (s : State) (k len : Nat) (sinks : List Nat) (h : Safety.Follows s0 s) :
    Safety.Follows s0 (State.crossSinks s k len sinks) := by
  unfold State.crossSinks
  simp (maxDischargeDepth := 40) +contextual [*]

end Sys2Proof.Machine
end

