-- ==== Sys2Proof/Laws/Follows/Delivery.lean ====
section
/-!
SUPPORT. Safety.Follows for the operations of Machine/Delivery.lean.
-/

namespace Sys2Proof.Machine

@[simp] theorem State.muteAct_follows {s0 : State} (s : State) (k : Nat) (h : Safety.Follows s0 s) :
    Safety.Follows s0 (State.muteAct s k) := by
  unfold State.muteAct
  repeat' (first | assumption | split | dsimp only)
  all_goals simp (maxDischargeDepth := 40) +contextual [h]

@[simp] theorem State.zcCheck_follows {s0 : State} (s : State) (tb k : Nat) (h : Safety.Follows s0 s) :
    Safety.Follows s0 (State.zcCheck s tb k) := by
  unfold State.zcCheck
  split <;> simp (maxDischargeDepth := 40) +contextual [*]

@[simp] theorem State.deliverSink_follows {s0 : State} (s : State) (tb k : Nat) (h : Safety.Follows s0 s) :
    Safety.Follows s0 (State.deliverSink s tb k) := by
  unfold State.deliverSink
  simp (maxDischargeDepth := 40) +contextual [*]

@[simp] theorem State.mixTick_follows {s0 : State} (s : State) (n : Nat) (h : Safety.Follows s0 s) :
    Safety.Follows s0 (State.mixTick s n) := by
  unfold State.mixTick
  simp (maxDischargeDepth := 40) +contextual [*]

@[simp] theorem State.portValues_follows {s0 : State} (s : State) (p : Nat) (h : Safety.Follows s0 s) :
    Safety.Follows s0 (State.portValues s p).1 := by
  refine foldl_fst_follows _ _ _ h fun o k ho => ?_
  simp (maxDischargeDepth := 40) +contextual [ho]

@[simp] theorem State.guardRest_follows {s0 : State} (s : State) (n : Nat) (h : Safety.Follows s0 s) :
    Safety.Follows s0 (State.guardRest s n) := by
  unfold State.guardRest
  simp (maxDischargeDepth := 40) +contextual [*]

@[simp] theorem State.handOn_follows {s0 : State} (s : State) (n : Nat) (h : Safety.Follows s0 s) :
    Safety.Follows s0 (State.handOn s n) := by
  unfold State.handOn
  simp (maxDischargeDepth := 40) +contextual [*]

@[simp] theorem State.crossDelivered_follows {s0 : State} (s : State) (n : Nat) (h : Safety.Follows s0 s) :
    Safety.Follows s0 (State.crossDelivered s n) := by
  unfold State.crossDelivered
  simp (maxDischargeDepth := 40) +contextual [*]

@[simp] theorem State.deliver_follows {s0 : State} (s : State) (n : Nat) (h : Safety.Follows s0 s) :
    Safety.Follows s0 (State.deliver s n) := by
  unfold State.deliver
  simp (maxDischargeDepth := 40) +contextual [*]

end Sys2Proof.Machine
end

