-- ==== Sys2Proof/Laws/Follows/AddrMap.lean ====
section
/-!
SUPPORT. Safety.Follows for the operations of Machine/AddrMap.lean.
-/

namespace Sys2Proof.Machine

end Sys2Proof.Machine
end

