-- ==== Sys2Proof/Laws/Follows/Dma.lean ====
section
/-!
SUPPORT. Safety.Follows for the operations of Machine/Dma.lean.
-/

namespace Sys2Proof.Machine

@[simp] theorem State.setDma_follows {s0 : State} (s : State) (d : Dma) (h : Safety.Follows s0 s) :
    Safety.Follows s0 (State.setDma s d) := by
  unfold State.setDma
  simp (maxDischargeDepth := 40) +contextual [*]

@[simp] theorem State.chanStopped_follows {s0 : State} (s : State) (c : Nat) (cause : BitVec 4) (h : Safety.Follows s0 s) :
    Safety.Follows s0 (State.chanStopped s c cause) := by
  unfold State.chanStopped
  simp (maxDischargeDepth := 40) +contextual [*]

@[simp] theorem State.chanEnd_follows {s0 : State} (s : State) (c : Nat) (cause : BitVec 4) (h : Safety.Follows s0 s) :
    Safety.Follows s0 (State.chanEnd s c cause) := by
  unfold State.chanEnd
  simp (maxDischargeDepth := 40) +contextual [*]

@[simp] theorem State.chanStart_follows {s0 : State} (s : State) (c : Nat) (h : Safety.Follows s0 s) :
    Safety.Follows s0 (State.chanStart s c) := by
  unfold State.chanStart
  simp (maxDischargeDepth := 40) +contextual [*]

@[simp] theorem State.chanStop_follows {s0 : State} (s : State) (c : Nat) (h : Safety.Follows s0 s) :
    Safety.Follows s0 (State.chanStop s c) := by
  unfold State.chanStop
  dsimp only
  split <;> simp (maxDischargeDepth := 40) +contextual [*]

@[simp] theorem State.chanImage_follows {s0 : State} (s : State) (c : Nat) (h : Safety.Follows s0 s) :
    Safety.Follows s0 (State.chanImage s c) := by
  unfold State.chanImage
  simp (maxDischargeDepth := 40) +contextual [*]

@[simp] theorem State.dmaStopAll_follows {s0 : State} (s : State) (h : Safety.Follows s0 s) :
    Safety.Follows s0 (State.dmaStopAll s) := by
  unfold State.dmaStopAll
  simp (maxDischargeDepth := 40) +contextual [*]

@[simp] theorem State.dmaClearHalt_follows {s0 : State} (s : State) (h : Safety.Follows s0 s) :
    Safety.Follows s0 (State.dmaClearHalt s) := by
  unfold State.dmaClearHalt
  simp (maxDischargeDepth := 40) +contextual [*]

@[simp] theorem State.dmaOff_follows {s0 : State} (s : State) (h : Safety.Follows s0 s) :
    Safety.Follows s0 (State.dmaOff s) := by
  unfold State.dmaOff
  simp (maxDischargeDepth := 40) +contextual [*]

@[simp] theorem State.dmaReturns_follows {s0 : State} (s : State) (h : Safety.Follows s0 s) :
    Safety.Follows s0 (State.dmaReturns s) := by
  unfold State.dmaReturns
  simp (maxDischargeDepth := 40) +contextual [*]

@[simp] theorem State.dmaCommand_follows {s0 : State} (s : State) (w : Word) (h : Safety.Follows s0 s) :
    Safety.Follows s0 (State.dmaCommand s w) := by
  unfold State.dmaCommand
  split <;> simp (maxDischargeDepth := 40) +contextual [*]

@[simp] theorem State.chanCommand_follows {s0 : State} (s : State) (c : Nat) (w : Word) (h : Safety.Follows s0 s) :
    Safety.Follows s0 (State.chanCommand s c w) := by
  unfold State.chanCommand
  split <;> simp (maxDischargeDepth := 40) +contextual [*]

@[simp] theorem State.descRefuse_follows {s0 : State} (s : State) (c : Nat) (cause : BitVec 4) (h : Safety.Follows s0 s) :
    Safety.Follows s0 (State.descRefuse s c cause) := by
  unfold State.descRefuse
  simp (maxDischargeDepth := 40) +contextual [*]

@[simp] theorem State.descIrq_follows {s0 : State} (s : State) (c : Nat) (ctrl : Word) (h : Safety.Follows s0 s) :
    Safety.Follows s0 (State.descIrq s c ctrl) := by
  unfold State.descIrq
  simp (maxDischargeDepth := 40) +contextual [*]

@[simp] theorem State.descLink_follows {s0 : State} (s : State) (c : Nat) (ctrl : Word) (h : Safety.Follows s0 s) :
    Safety.Follows s0 (State.descLink s c ctrl) := by
  unfold State.descLink
  simp (maxDischargeDepth := 40) +contextual [*]

@[simp] theorem State.descTake_follows {s0 : State} (s : State) (c i : Nat) (src dst len ctrl : Word) (h : Safety.Follows s0 s) :
    Safety.Follows s0 (State.descTake s c i src dst len ctrl) := by
  unfold State.descTake
  simp (maxDischargeDepth := 40) +contextual [*]

@[simp] theorem State.dmaCounts_follows {s0 : State} (s : State) (h : Safety.Follows s0 s) :
    Safety.Follows s0 (State.dmaCounts s) := by
  unfold State.dmaCounts
  simp (maxDischargeDepth := 40) +contextual [*]

@[simp] theorem State.chanIssue_follows {s0 : State} (s : State) (c by_ : Nat) (h : Safety.Follows s0 s) :
    Safety.Follows s0 (State.chanIssue s c by_) := by
  unfold State.chanIssue
  simp (maxDischargeDepth := 40) +contextual [*]

@[simp] theorem State.chanReads_follows {s0 : State} (s : State) (c : Nat) (x0 : Nat) (h : Safety.Follows s0 s) :
    Safety.Follows s0 (State.chanReads s c x0) := by
  induction x0 generalizing s with
  | zero => exact h
  | succ n ih => exact ih _ (State.chanIssue_follows s c s.now h)

@[simp] theorem State.wordLands_follows {s0 : State} (s : State) (c : Nat) (w : DmaWord) (h : Safety.Follows s0 s) :
    Safety.Follows s0 (State.wordLands s c w) := by
  unfold State.wordLands
  dsimp only
  split <;> simp (maxDischargeDepth := 40) +contextual [*]

@[simp] theorem State.chanLand_follows {s0 : State} (s : State) (c : Nat) (h : Safety.Follows s0 s) :
    Safety.Follows s0 (State.chanLand s c) := by
  unfold State.chanLand
  dsimp only
  repeat' split
  all_goals simp (maxDischargeDepth := 40) +contextual [*]

@[simp] theorem State.chanIssued_follows {s0 : State} (s : State) (c n : Nat) (h : Safety.Follows s0 s) :
    Safety.Follows s0 (State.chanIssued s c n) := by
  unfold State.chanIssued
  simp (maxDischargeDepth := 40) +contextual [*]

end Sys2Proof.Machine
end

