-- ==== Sys2Proof/Laws/Follows/EngineCmd.lean ====
section
/-!
SUPPORT. Safety.Follows for the operations of Machine/EngineCmd.lean.
-/

namespace Sys2Proof.Machine

@[simp] theorem State.engArm_follows {s0 : State} (s : State) (e : Nat) (start : StartAt) (h : Safety.Follows s0 s) :
    Safety.Follows s0 (State.engArm s e start) := by
  unfold State.engArm
  simp (maxDischargeDepth := 40) +contextual [*]

@[simp] theorem State.cmdStart_follows {s0 : State} (s : State) (e : Nat) (h : Safety.Follows s0 s) :
    Safety.Follows s0 (State.cmdStart s e) := by
  unfold State.cmdStart
  simp (maxDischargeDepth := 40) +contextual [*]

@[simp] theorem State.cmdArm_follows {s0 : State} (s : State) (e : Nat) (h : Safety.Follows s0 s) :
    Safety.Follows s0 (State.cmdArm s e) := by
  unfold State.cmdArm
  simp (maxDischargeDepth := 40) +contextual [*]

@[simp] theorem State.cmdStop_follows {s0 : State} (s : State) (e : Nat) (h : Safety.Follows s0 s) :
    Safety.Follows s0 (State.cmdStop s e) := by
  unfold State.cmdStop
  dsimp only
  split <;> simp (maxDischargeDepth := 40) +contextual [*]

@[simp] theorem State.cmdRecover_follows {s0 : State} (s : State) (e : Nat) (h : Safety.Follows s0 s) :
    Safety.Follows s0 (State.cmdRecover s e) := by
  unfold State.cmdRecover
  simp (maxDischargeDepth := 40) +contextual [*]

@[simp] theorem State.engCommand_follows {s0 : State} (s : State) (e : Nat) (w : Word) (h : Safety.Follows s0 s) :
    Safety.Follows s0 (State.engCommand s e w) := by
  unfold State.engCommand
  split <;> simp (maxDischargeDepth := 40) +contextual [*]

@[simp] theorem State.engFullStop_follows {s0 : State} (s : State) (e : Nat) (h : Safety.Follows s0 s) :
    Safety.Follows s0 (State.engFullStop s e) := by
  unfold State.engFullStop
  dsimp only
  split <;> simp (maxDischargeDepth := 40) +contextual [*]

@[simp] theorem State.writeProgram_follows {s0 : State} (s : State) (a : Nat) (w : Word) (h : Safety.Follows s0 s) :
    Safety.Follows s0 (State.writeProgram s a w) := by
  unfold State.writeProgram
  simp (maxDischargeDepth := 40) +contextual [*]

@[simp] theorem State.writePointer_follows {s0 : State} (s : State) (e a : Nat) (w : Word) (h : Safety.Follows s0 s) :
    Safety.Follows s0 (State.writePointer s e a w) := by
  unfold State.writePointer
  simp (maxDischargeDepth := 40) +contextual [*]

@[simp] theorem State.clearSet_follows {s0 : State} (s : State) (n : Nat) (h : Safety.Follows s0 s) :
    Safety.Follows s0 (State.clearSet s n) := by
  unfold State.clearSet
  simp (maxDischargeDepth := 40) +contextual [*]

end Sys2Proof.Machine
end

