-- ==== Sys2Proof/Laws/Follows/Image.lean ====
section
/-!
SUPPORT. Safety.Follows for the operations of Machine/Image.lean.
-/

namespace Sys2Proof.Machine

end Sys2Proof.Machine
end

