-- ==== Sys2Proof/Laws/Follows/Mailbox.lean ====
section
/-!
SUPPORT. Safety.Follows for the operations of Machine/Mailbox.lean.
-/

namespace Sys2Proof.Machine

@[simp] theorem State.putReply_follows {s0 : State} (s : State) (l : List Word) (h : Safety.Follows s0 s) :
    Safety.Follows s0 (State.putReply s l) := by
  unfold State.putReply
  simp (maxDischargeDepth := 40) +contextual [*]

@[simp] theorem State.post_follows {s0 : State} (s : State) (l : List Word) (h : Safety.Follows s0 s) :
    Safety.Follows s0 (State.post s l) := by
  unfold State.post
  simp (maxDischargeDepth := 40) +contextual [*]

@[simp] theorem State.drainReplies_follows {s0 : State} (s : State) (h : Safety.Follows s0 s) :
    Safety.Follows s0 (State.drainReplies s) := by
  unfold State.drainReplies
  simp (maxDischargeDepth := 40) +contextual [*]

@[simp] theorem State.takeSlot_follows {s0 : State} (s : State) (h : Safety.Follows s0 s) :
    Safety.Follows s0 (State.takeSlot s) := by
  unfold State.takeSlot
  simp (maxDischargeDepth := 40) +contextual [*]

end Sys2Proof.Machine
end

