-- ==== Sys2Proof/Laws/Follows/Commit.lean ====
section
/-!
SUPPORT. Safety.Follows for the operations of Machine/Commit.lean.
-/

namespace Sys2Proof.Machine

@[simp] theorem State.stageRefuse_follows {s0 : State} (s : State) (n cause : Nat) (h : Safety.Follows s0 s) :
    Safety.Follows s0 (State.stageRefuse s n cause) := by
  unfold State.stageRefuse
  simp (maxDischargeDepth := 40) +contextual [*]

@[simp] theorem State.writeStage_follows {s0 : State} (s : State) (n f : Nat) (w : Word) (h : Safety.Follows s0 s) :
    Safety.Follows s0 (State.writeStage s n f w) := by
  unfold State.writeStage
  simp (maxDischargeDepth := 40) +contextual [*]

@[simp] theorem State.stageCommand_follows {s0 : State} (s : State) (n cmd : Nat) (h : Safety.Follows s0 s) :
    Safety.Follows s0 (State.stageCommand s n cmd) := by
  unfold State.stageCommand
  split <;> simp (maxDischargeDepth := 40) +contextual [*]

@[simp] theorem State.setLane_follows {s0 : State} (s : State) (l : LaneName) (x : Lane) (h : Safety.Follows s0 s) :
    Safety.Follows s0 (State.setLane s l x) := by
  unfold State.setLane
  split <;> simp (maxDischargeDepth := 40) +contextual [*]

@[simp] theorem State.landShelf_follows {s0 : State} (s : State) (l : LaneName) (a : Nat) (w : Word) (h : Safety.Follows s0 s) :
    Safety.Follows s0 (State.landShelf s l a w) := by
  unfold State.landShelf
  simp (maxDischargeDepth := 40) +contextual [*]

@[simp] theorem State.writeShelf_follows {s0 : State} (s : State) (l : LaneName) (a : Nat) (w : Word) (h : Safety.Follows s0 s) :
    Safety.Follows s0 (State.writeShelf s l a w) := by
  unfold State.writeShelf
  simp (maxDischargeDepth := 40) +contextual [*]

@[simp] theorem State.fclkShelf_follows {s0 : State} (s : State) (l : LaneName) (a : Nat) (w : Word) (h : Safety.Follows s0 s) :
    Safety.Follows s0 (State.fclkShelf s l a w) := by
  unfold State.fclkShelf
  simp (maxDischargeDepth := 40) +contextual [*]

@[simp] theorem State.laneCopy_follows {s0 : State} (s : State) (l : LaneName) (words : List Nat) (h : Safety.Follows s0 s) :
    Safety.Follows s0 (State.laneCopy s l words) := by
  unfold State.laneCopy
  simp (maxDischargeDepth := 40) +contextual [*]

@[simp] theorem State.laneDrain_follows {s0 : State} (s : State) (l : LaneName) (x0 : List LaneWait) (h : Safety.Follows s0 s) :
    Safety.Follows s0 (State.laneDrain s l x0) := by
  induction x0 generalizing s with
  | nil => unfold State.laneDrain; simp (maxDischargeDepth := 40) +contextual [h]
  | cons w r ih =>
    cases w with
    | write a w => exact ih _ (State.landShelf_follows s l a w h)
    | revert g => unfold State.laneDrain; simp (maxDischargeDepth := 40) +contextual [h]

@[simp] theorem State.laneEnd_follows {s0 : State} (s : State) (l : LaneName) (words : List Nat) (h : Safety.Follows s0 s) :
    Safety.Follows s0 (State.laneEnd s l words) := by
  unfold State.laneEnd
  simp (maxDischargeDepth := 40) +contextual [*]

@[simp] theorem State.writeRouterShelf_follows {s0 : State} (s : State) (a : Nat) (w : Word) (h : Safety.Follows s0 s) :
    Safety.Follows s0 (State.writeRouterShelf s a w) := by
  unfold State.writeRouterShelf
  split <;> simp (maxDischargeDepth := 40) +contextual [*]

@[simp] theorem State.routerShelfBy_follows {s0 : State} (s : State) (by_ : Requester) (a : Nat) (w : Word) (h : Safety.Follows s0 s) :
    Safety.Follows s0 (State.routerShelfBy s by_ a w) := by
  unfold State.routerShelfBy
  split <;> simp (maxDischargeDepth := 40) +contextual [*]

@[simp] theorem State.yShelfBy_follows {s0 : State} (s : State) (by_ : Requester) (e a : Nat) (w : Word) (h : Safety.Follows s0 s) :
    Safety.Follows s0 (State.yShelfBy s by_ e a w) := by
  unfold State.yShelfBy
  split <;> simp (maxDischargeDepth := 40) +contextual [*]

@[simp] theorem State.stageApply_follows {s0 : State} (s : State) (n : Nat) (h : Safety.Follows s0 s) :
    Safety.Follows s0 (State.stageApply s n) := by
  unfold State.stageApply
  simp (maxDischargeDepth := 40) +contextual [*]

@[simp] theorem State.memberTake_follows {s0 : State} (s : State) (m : Member) (h : Safety.Follows s0 s) :
    Safety.Follows s0 (State.memberTake s m) := by
  unfold State.memberTake
  repeat' split
  all_goals simp (maxDischargeDepth := 40) +contextual [*]

@[simp] theorem State.groupFree_follows {s0 : State} (s : State) (g n : Nat) (h : Safety.Follows s0 s) :
    Safety.Follows s0 (State.groupFree s g n) := by
  unfold State.groupFree
  simp (maxDischargeDepth := 40) +contextual [*]

@[simp] theorem State.groupLate_follows {s0 : State} (s : State) (g : Nat) (ms : List Member) (h : Safety.Follows s0 s) :
    Safety.Follows s0 (State.groupLate s g ms) := by
  unfold State.groupLate
  simp (maxDischargeDepth := 40) +contextual [*]

@[simp] theorem State.groupAct_follows {s0 : State} (s : State) (g n : Nat) (h : Safety.Follows s0 s) :
    Safety.Follows s0 (State.groupAct s g n) := by
  unfold State.groupAct
  simp (maxDischargeDepth := 40) +contextual [*]

@[simp] theorem State.commitGroup_follows {s0 : State} (s : State) (g : Nat) (h : Safety.Follows s0 s) :
    Safety.Follows s0 (State.commitGroup s g) := by
  unfold State.commitGroup
  simp (maxDischargeDepth := 40) +contextual [*]

@[simp] theorem State.scheduleGroup_follows {s0 : State} (s : State) (g c : Nat) (h : Safety.Follows s0 s) :
    Safety.Follows s0 (State.scheduleGroup s g c) := by
  unfold State.scheduleGroup
  simp (maxDischargeDepth := 40) +contextual [*]

@[simp] theorem State.laneRevert_follows {s0 : State} (s : State) (l : LaneName) (g : Nat) (h : Safety.Follows s0 s) :
    Safety.Follows s0 (State.laneRevert s l g) := by
  unfold State.laneRevert
  simp (maxDischargeDepth := 40) +contextual [*]

@[simp] theorem State.ptrStale_follows {s0 : State} (s : State) (e : Nat) (h : Safety.Follows s0 s) :
    Safety.Follows s0 (State.ptrStale s e) := by
  unfold State.ptrStale
  simp (maxDischargeDepth := 40) +contextual [*]

@[simp] theorem State.ptrRevert_follows {s0 : State} (s : State) (e : Nat) (h : Safety.Follows s0 s) :
    Safety.Follows s0 (State.ptrRevert s e) := by
  unfold State.ptrRevert
  simp (maxDischargeDepth := 40) +contextual [*]

@[simp] theorem State.memberRevert_follows {s0 : State} (s : State) (g : Nat) (x0 : Member) (h : Safety.Follows s0 s) :
    Safety.Follows s0 (State.memberRevert s g x0) := by
  unfold State.memberRevert
  split <;> simp (maxDischargeDepth := 40) +contextual [h]

@[simp] theorem State.revertGroup_follows {s0 : State} (s : State) (g : Nat) (h : Safety.Follows s0 s) :
    Safety.Follows s0 (State.revertGroup s g) := by
  unfold State.revertGroup
  simp (maxDischargeDepth := 40) +contextual [*]

@[simp] theorem State.groupCommand_follows {s0 : State} (s : State) (g action c : Nat) (h : Safety.Follows s0 s) :
    Safety.Follows s0 (State.groupCommand s g action c) := by
  unfold State.groupCommand
  split <;> simp (maxDischargeDepth := 40) +contextual [*]

@[simp] theorem State.commitCmd_follows {s0 : State} (s : State) (w : Word) (h : Safety.Follows s0 s) :
    Safety.Follows s0 (State.commitCmd s w) := by
  unfold State.commitCmd
  simp (maxDischargeDepth := 40) +contextual [*]

@[simp] theorem State.autoDone_follows {s0 : State} (s : State) (a : AutoWait) (h : Safety.Follows s0 s) :
    Safety.Follows s0 (State.autoDone s a) := by
  unfold State.autoDone
  split <;> simp (maxDischargeDepth := 40) +contextual [*]

@[simp] theorem State.coreDoes_follows {s0 : State} (s : State) (a : AutoWait) (h : Safety.Follows s0 s) :
    Safety.Follows s0 (State.coreDoes s a) := by
  unfold State.coreDoes
  simp (maxDischargeDepth := 40) +contextual [*]

@[simp] theorem State.autoLanded_follows {s0 : State} (s : State) (l : LaneName) (h : Safety.Follows s0 s) :
    Safety.Follows s0 (State.autoLanded s l) := by
  unfold State.autoLanded
  simp (maxDischargeDepth := 40) +contextual [*]

end Sys2Proof.Machine
end

