-- ==== Sys2Proof/Laws/Follows/EventList.lean ====
section
/-!
SUPPORT. Safety.Follows for the operations of Machine/EventList.lean.
-/

namespace Sys2Proof.Machine

@[simp] theorem State.mapWrite_follows {s0 : State} (s : State) (i v : Nat) (h : Safety.Follows s0 s) :
    Safety.Follows s0 (State.mapWrite s i v).1 := by
  unfold State.mapWrite
  dsimp only
  repeat' split
  all_goals simp (maxDischargeDepth := 40) +contextual [*]

@[simp] theorem State.setControl_follows {s0 : State} (s : State) (c v : Nat) (reply : Option (List Word)) (h : Safety.Follows s0 s) :
    Safety.Follows s0 (State.setControl s c v reply) := by
  unfold State.setControl
  extract_lets all s1 bad s2 good groups q
  have h2 : Safety.Follows s0 s2 := by simp (maxDischargeDepth := 40) +contextual [s2, s1, h]
  clear_value s2
  have hq : Safety.Follows s0 q.1 := foldl_fst_follows _ _ _ h2 fun o i ho => by simp (maxDischargeDepth := 40) +contextual [ho]
  clear_value q
  simp (maxDischargeDepth := 40) +contextual [hq]

@[simp] theorem State.portEnable_follows {s0 : State} (s : State) (arg : Word) (h : Safety.Follows s0 s) :
    Safety.Follows s0 (State.portEnable s arg) := by
  unfold State.portEnable
  split <;> simp (maxDischargeDepth := 40) +contextual [*]

@[simp] theorem State.evlAction_follows {s0 : State} (s : State) (action : Nat) (arg : Word) (h : Safety.Follows s0 s) :
    Safety.Follows s0 (State.evlAction s action arg) := by
  unfold State.evlAction
  split <;> simp (maxDischargeDepth := 40) +contextual [*]

@[simp] theorem State.evlAct_follows {s0 : State} (s : State) (i : Nat) (h : Safety.Follows s0 s) :
    Safety.Follows s0 (State.evlAct s i) := by
  unfold State.evlAct
  simp (maxDischargeDepth := 40) +contextual [*]

@[simp] theorem State.evlWrite_follows {s0 : State} (s : State) (i tick : Nat) (w2 : Word) (h : Safety.Follows s0 s) :
    Safety.Follows s0 (State.evlWrite s i tick w2) := by
  unfold State.evlWrite
  simp (maxDischargeDepth := 40) +contextual [*]

@[simp] theorem State.evlNext_follows {s0 : State} (s : State) (i : Nat) (fired : Bool) (h : Safety.Follows s0 s) :
    Safety.Follows s0 (State.evlNext s i fired) := by
  unfold State.evlNext
  simp (maxDischargeDepth := 40) +contextual [*]

@[simp] theorem State.evlWrote_follows {s0 : State} (s : State) (i : Nat) (words : List Word) (h : Safety.Follows s0 s) :
    Safety.Follows s0 (State.evlWrote s i words) := by
  unfold State.evlWrote
  simp (maxDischargeDepth := 40) +contextual [*]

@[simp] theorem State.dropWriteBack_follows {s0 : State} (s : State) (a : Nat) (h : Safety.Follows s0 s) :
    Safety.Follows s0 (State.dropWriteBack s a) := by
  unfold State.dropWriteBack
  split <;> simp (maxDischargeDepth := 40) +contextual [*]

@[simp] theorem State.evlSkip_follows {s0 : State} (s : State) (h : Safety.Follows s0 s) :
    Safety.Follows s0 (State.evlSkip s) := by
  unfold State.evlSkip
  simp (maxDischargeDepth := 40) +contextual [*]

@[simp] theorem State.setLevel_follows {s0 : State} (s : State) (i : Nat) (b : Bool) (h : Safety.Follows s0 s) :
    Safety.Follows s0 (State.setLevel s i b) := by
  unfold State.setLevel
  simp (maxDischargeDepth := 40) +contextual [*]

@[simp] theorem State.gpioStamp_follows {s0 : State} (s : State) (i : Nat) (h : Safety.Follows s0 s) :
    Safety.Follows s0 (State.gpioStamp s i) := by
  unfold State.gpioStamp
  simp (maxDischargeDepth := 40) +contextual [*]

@[simp] theorem State.gpioFire_follows {s0 : State} (s : State) (i : Nat) (h : Safety.Follows s0 s) :
    Safety.Follows s0 (State.gpioFire s i) := by
  unfold State.gpioFire
  simp (maxDischargeDepth := 40) +contextual [*]

@[simp] theorem State.gpioWaits_follows {s0 : State} (s : State) (i : Nat) (b : Bool) (h : Safety.Follows s0 s) :
    Safety.Follows s0 (State.gpioWaits s i b) := by
  unfold State.gpioWaits
  simp (maxDischargeDepth := 40) +contextual [*]

@[simp] theorem State.gpioDrain_follows {s0 : State} (s : State) (h : Safety.Follows s0 s) :
    Safety.Follows s0 (State.gpioDrain s) := by
  unfold State.gpioDrain
  simp (maxDischargeDepth := 40) +contextual [*]

@[simp] theorem State.writeFunc_follows {s0 : State} (s : State) (i : Nat) (w : Word) (h : Safety.Follows s0 s) :
    Safety.Follows s0 (State.writeFunc s i w) := by
  unfold State.writeFunc
  simp (maxDischargeDepth := 40) +contextual [*]

end Sys2Proof.Machine
end

