-- ==== Sys2Proof/Laws/Follows/Time.lean ====
section
/-!
SUPPORT. Safety.Follows for the operations of Machine/Time.lean.
-/

namespace Sys2Proof.Machine

@[simp] theorem State.mapTb_follows {s0 : State} (s : State) (n : Nat) (f : Timebase → Timebase) (h : Safety.Follows s0 s) :
    Safety.Follows s0 (State.mapTb s n f) := by
  unfold State.mapTb
  simp (maxDischargeDepth := 40) +contextual [*]

@[simp] theorem State.tickOut_follows {s0 : State} (s : State) (n : Nat) (h : Safety.Follows s0 s) :
    Safety.Follows s0 (State.tickOut s n) := by
  unfold State.tickOut
  simp (maxDischargeDepth := 40) +contextual [*]

@[simp] theorem State.tickOutHold_follows {s0 : State} (s : State) (n : Nat) (h : Safety.Follows s0 s) :
    Safety.Follows s0 (State.tickOutHold s n) := by
  unfold State.tickOutHold
  simp (maxDischargeDepth := 40) +contextual [*]

@[simp] theorem State.countTick_follows {s0 : State} (s : State) (before : Nat) (h : Safety.Follows s0 s) :
    Safety.Follows s0 (State.countTick s before) := by
  unfold State.countTick
  split <;> simp (maxDischargeDepth := 40) +contextual [*]

@[simp] theorem State.routerSources_follows {s0 : State} (s : State) (n : Nat) (h : Safety.Follows s0 s) :
    Safety.Follows s0 (State.routerSources s n) := by
  unfold State.routerSources
  simp (maxDischargeDepth := 40) +contextual [*]

@[simp] theorem State.provokeTick_follows {s0 : State} (s : State) (n : Nat) (h : Safety.Follows s0 s) :
    Safety.Follows s0 (State.provokeTick s n) := by
  unfold State.provokeTick
  simp (maxDischargeDepth := 40) +contextual [*]

@[simp] theorem State.tickUnits_follows {s0 : State} (s : State) (n : Nat) (h : Safety.Follows s0 s) :
    Safety.Follows s0 (State.tickUnits s n) := by
  unfold State.tickUnits
  simp (maxDischargeDepth := 40) +contextual [*]

@[simp] theorem State.slipCheck_follows {s0 : State} (s : State) (n interval : Nat) (h : Safety.Follows s0 s) :
    Safety.Follows s0 (State.slipCheck s n interval) := by
  unfold State.slipCheck
  simp (maxDischargeDepth := 40) +contextual [*]

@[simp] theorem State.tick_follows {s0 : State} (s : State) (n : Nat) (slips real : Bool) (h : Safety.Follows s0 s) :
    Safety.Follows s0 (State.tick s n slips real) := by
  unfold State.tick
  extract_lets x d now interval s1 hist period s2 s3 s4 s5 s6
  have h1 : Safety.Follows s0 s1 := by simp (maxDischargeDepth := 40) +contextual [s1, h]
  clear_value s1 hist period
  have h3 : Safety.Follows s0 s3 := by simp (maxDischargeDepth := 40) +contextual [s3, s2, h1]
  clear_value s3
  have h4 : Safety.Follows s0 s4 := by simp (maxDischargeDepth := 40) +contextual [s4, h3]
  clear_value s4
  have h5 : Safety.Follows s0 s5 := by simp (maxDischargeDepth := 40) +contextual [s5, h4]
  clear_value s5
  have h6 : Safety.Follows s0 s6 := by simp (maxDischargeDepth := 40) +contextual [s6, h5]
  simp (maxDischargeDepth := 40) +contextual [h6]

@[simp] theorem State.tbStops_follows {s0 : State} (s : State) (n : Nat) (h : Safety.Follows s0 s) :
    Safety.Follows s0 (State.tbStops s n) := by
  unfold State.tbStops
  simp (maxDischargeDepth := 40) +contextual [*]

@[simp] theorem State.tbHold_follows {s0 : State} (s : State) (n : Nat) (mark : Option Nat) (h : Safety.Follows s0 s) :
    Safety.Follows s0 (State.tbHold s n mark) := by
  unfold State.tbHold
  simp (maxDischargeDepth := 40) +contextual [*]

@[simp] theorem State.tbEnter_follows {s0 : State} (s : State) (n : Nat) (h : Safety.Follows s0 s) :
    Safety.Follows s0 (State.tbEnter s n) := by
  unfold State.tbEnter
  simp (maxDischargeDepth := 40) +contextual [*]

@[simp] theorem State.tbAcquire_follows {s0 : State} (s : State) (n : Nat) (h : Safety.Follows s0 s) :
    Safety.Follows s0 (State.tbAcquire s n) := by
  unfold State.tbAcquire
  simp (maxDischargeDepth := 40) +contextual [*]

@[simp] theorem State.tbParity_follows {s0 : State} (s : State) (n : Nat) (h : Safety.Follows s0 s) :
    Safety.Follows s0 (State.tbParity s n) := by
  unfold State.tbParity
  simp (maxDischargeDepth := 40) +contextual [*]

@[simp] theorem State.tbClock_follows {s0 : State} (s : State) (h : Safety.Follows s0 s) :
    Safety.Follows s0 (State.tbClock s) := by
  unfold State.tbClock
  simp (maxDischargeDepth := 40) +contextual [*]

@[simp] theorem State.tbTrack_follows {s0 : State} (s : State) (n : Nat) (l : List Nat) (h : Safety.Follows s0 s) :
    Safety.Follows s0 (State.tbTrack s n l) := by
  unfold State.tbTrack
  simp (maxDischargeDepth := 40) +contextual [*]

@[simp] theorem State.markAcquire_follows {s0 : State} (s : State) (n : Nat) (h : Safety.Follows s0 s) :
    Safety.Follows s0 (State.markAcquire s n) := by
  unfold State.markAcquire
  dsimp only
  split <;> simp (maxDischargeDepth := 40) +contextual [*]

@[simp] theorem State.closeInterval_follows {s0 : State} (s : State) (n : Nat) (h : Safety.Follows s0 s) :
    Safety.Follows s0 (State.closeInterval s n) := by
  unfold State.closeInterval
  simp (maxDischargeDepth := 40) +contextual [*]

@[simp] theorem State.markTracking_follows {s0 : State} (s : State) (n : Nat) (h : Safety.Follows s0 s) :
    Safety.Follows s0 (State.markTracking s n) := by
  unfold State.markTracking
  simp (maxDischargeDepth := 40) +contextual [*]

@[simp] theorem State.markFly_follows {s0 : State} (s : State) (n : Nat) (h : Safety.Follows s0 s) :
    Safety.Follows s0 (State.markFly s n) := by
  unfold State.markFly
  simp (maxDischargeDepth := 40) +contextual [*]

@[simp] theorem State.suppress_follows {s0 : State} (s : State) (h : Safety.Follows s0 s) :
    Safety.Follows s0 (State.suppress s) := by
  unfold State.suppress
  simp (maxDischargeDepth := 40) +contextual [*]

@[simp] theorem State.mark_follows {s0 : State} (s : State) (n : Nat) (h : Safety.Follows s0 s) :
    Safety.Follows s0 (State.mark s n) := by
  unfold State.mark
  dsimp only
  split <;> simp (maxDischargeDepth := 40) +contextual [*]

@[simp] theorem State.flyTick_follows {s0 : State} (s : State) (n : Nat) (h : Safety.Follows s0 s) :
    Safety.Follows s0 (State.flyTick s n) := by
  unfold State.flyTick
  simp (maxDischargeDepth := 40) +contextual [*]

@[simp] theorem State.askAlign_follows {s0 : State} (s : State) (h : Safety.Follows s0 s) :
    Safety.Follows s0 (State.askAlign s) := by
  unfold State.askAlign
  simp (maxDischargeDepth := 40) +contextual [*]

@[simp] theorem State.alignStarts_follows {s0 : State} (s : State) (h : Safety.Follows s0 s) :
    Safety.Follows s0 (State.alignStarts s) := by
  unfold State.alignStarts
  simp (maxDischargeDepth := 40) +contextual [*]

end Sys2Proof.Machine
end

