-- ==== Sys2Proof/Laws/Follows/Clocks.lean ====
section
/-!
SUPPORT. Safety.Follows for the operations of Machine/Clocks.lean.
-/

namespace Sys2Proof.Machine

@[simp] theorem State.clockChanged_follows {s0 : State} (s : State) (c : ClockName) (h : Safety.Follows s0 s) :
    Safety.Follows s0 (State.clockChanged s c) := by
  unfold State.clockChanged
  simp (maxDischargeDepth := 40) +contextual [*]

@[simp] theorem State.setClock_follows {s0 : State} (s : State) (c : ClockName) (w : Word) (h : Safety.Follows s0 s) :
    Safety.Follows s0 (State.setClock s c w) := by
  unfold State.setClock
  simp (maxDischargeDepth := 40) +contextual [*]

@[simp] theorem State.selectClock_follows {s0 : State} (s : State) (c : ClockName) (w : Word) (h : Safety.Follows s0 s) :
    Safety.Follows s0 (State.selectClock s c w) := by
  unfold State.selectClock
  simp (maxDischargeDepth := 40) +contextual [*]

@[simp] theorem State.switchDone_follows {s0 : State} (s : State) (c : ClockName) (forced : Bool) (h : Safety.Follows s0 s) :
    Safety.Follows s0 (State.switchDone s c forced) := by
  unfold State.switchDone
  split <;> simp (maxDischargeDepth := 40) +contextual [*]

@[simp] theorem State.clocksToXclk_follows {s0 : State} (s : State) (h : Safety.Follows s0 s) :
    Safety.Follows s0 (State.clocksToXclk s) := by
  unfold State.clocksToXclk
  simp (maxDischargeDepth := 40) +contextual [*]

@[simp] theorem State.steerZero_follows {s0 : State} (s : State) (h : Safety.Follows s0 s) :
    Safety.Follows s0 (State.steerZero s) := by
  unfold State.steerZero
  simp (maxDischargeDepth := 40) +contextual [*]

@[simp] theorem State.bootSwitch_follows {s0 : State} (s : State) (h : Safety.Follows s0 s) :
    Safety.Follows s0 (State.bootSwitch s) := by
  unfold State.bootSwitch
  simp (maxDischargeDepth := 40) +contextual [*]

@[simp] theorem State.bootReady_follows {s0 : State} (s : State) (h : Safety.Follows s0 s) :
    Safety.Follows s0 (State.bootReady s) := by
  unfold State.bootReady
  simp (maxDischargeDepth := 40) +contextual [*]

@[simp] theorem State.windowStarts_follows {s0 : State} (s : State) (h : Safety.Follows s0 s) :
    Safety.Follows s0 (State.windowStarts s) := by
  unfold State.windowStarts
  simp (maxDischargeDepth := 40) +contextual [*]

@[simp] theorem State.dcoLocks_follows {s0 : State} (s : State) (h : Safety.Follows s0 s) :
    Safety.Follows s0 (State.dcoLocks s) := by
  unfold State.dcoLocks
  simp (maxDischargeDepth := 40) +contextual [*]

@[simp] theorem State.dcoHolds_follows {s0 : State} (s : State) (word : Word × Int) (h : Safety.Follows s0 s) :
    Safety.Follows s0 (State.dcoHolds s word) := by
  unfold State.dcoHolds
  simp (maxDischargeDepth := 40) +contextual [*]

@[simp] theorem State.dcoStarts_follows {s0 : State} (s : State) (h : Safety.Follows s0 s) :
    Safety.Follows s0 (State.dcoStarts s) := by
  unfold State.dcoStarts
  simp (maxDischargeDepth := 40) +contextual [*]

@[simp] theorem State.dcoStops_follows {s0 : State} (s : State) (h : Safety.Follows s0 s) :
    Safety.Follows s0 (State.dcoStops s) := by
  unfold State.dcoStops
  simp (maxDischargeDepth := 40) +contextual [*]

@[simp] theorem State.writeDcoCfg_follows {s0 : State} (s : State) (w : Word) (h : Safety.Follows s0 s) :
    Safety.Follows s0 (State.writeDcoCfg s w) := by
  unfold State.writeDcoCfg
  simp (maxDischargeDepth := 40) +contextual [*]

@[simp] theorem State.openGates_follows {s0 : State} (s : State) (h : Safety.Follows s0 s) :
    Safety.Follows s0 (State.openGates s) := by
  unfold State.openGates
  simp (maxDischargeDepth := 40) +contextual [*]

@[simp] theorem State.writeDisc_follows {s0 : State} (s : State) (w : Word) (h : Safety.Follows s0 s) :
    Safety.Follows s0 (State.writeDisc s w) := by
  unfold State.writeDisc
  simp (maxDischargeDepth := 40) +contextual [*]

@[simp] theorem State.writeClk_follows {s0 : State} (s : State) (a : Nat) (w : Word) (h : Safety.Follows s0 s) :
    Safety.Follows s0 (State.writeClk s a w) := by
  unfold State.writeClk
  split <;> simp (maxDischargeDepth := 40) +contextual [*]

@[simp] theorem State.clockWords_follows {s0 : State} (s : State) (x0 : List (Nat × Word)) (h : Safety.Follows s0 s) :
    Safety.Follows s0 (State.clockWords s x0) := by
  induction x0 generalizing s with
  | nil => unfold State.clockWords; simp (maxDischargeDepth := 40) +contextual [h]
  | cons c r ih =>
    obtain ⟨a, w⟩ := c
    unfold State.clockWords
    extract_lets acts s1 s2
    have h2 : Safety.Follows s0 s2 := by
      simp only [s2, s1]
      split <;> simp (maxDischargeDepth := 40) +contextual [h]
    clear_value s2
    split
    · simp (maxDischargeDepth := 40) +contextual [h2]
    · exact ih _ h2

@[simp] theorem State.loadClocks_follows {s0 : State} (s : State) (h : Safety.Follows s0 s) :
    Safety.Follows s0 (State.loadClocks s) := by
  unfold State.loadClocks
  simp (maxDischargeDepth := 40) +contextual [*]

@[simp] theorem State.spoilRates_follows {s0 : State} (s : State) (h : Safety.Follows s0 s) :
    Safety.Follows s0 (State.spoilRates s) := by
  unfold State.spoilRates
  simp (maxDischargeDepth := 40) +contextual [*]

@[simp] theorem State.setRate_follows {s0 : State} (s : State) (i c fs : Nat) (valid : Bool) (h : Safety.Follows s0 s) :
    Safety.Follows s0 (State.setRate s i c fs valid) := by
  unfold State.setRate
  simp (maxDischargeDepth := 40) +contextual [*]

@[simp] theorem State.rateDeviation_follows {s0 : State} (s : State) (i fs : Nat) (h : Safety.Follows s0 s) :
    Safety.Follows s0 (State.rateDeviation s i fs) := by
  unfold State.rateDeviation
  simp (maxDischargeDepth := 40) +contextual [*]

@[simp] theorem State.rateReceiver_follows {s0 : State} (s : State) (i was : Nat) (h : Safety.Follows s0 s) :
    Safety.Follows s0 (State.rateReceiver s i was) := by
  unfold State.rateReceiver
  simp (maxDischargeDepth := 40) +contextual [*]

@[simp] theorem State.ratePorts_follows {s0 : State} (s : State) (h : Safety.Follows s0 s) :
    Safety.Follows s0 (State.ratePorts s) := by
  unfold State.ratePorts
  simp (maxDischargeDepth := 40) +contextual [*]

@[simp] theorem State.rateTaken_follows {s0 : State} (s : State) (i : Nat) (count : Nat) (clean : Bool) (h : Safety.Follows s0 s) :
    Safety.Follows s0 (State.rateTaken s i count clean) := by
  unfold State.rateTaken
  simp (maxDischargeDepth := 40) +contextual [*]

@[simp] theorem State.rateGone_follows {s0 : State} (s : State) (i : Nat) (h : Safety.Follows s0 s) :
    Safety.Follows s0 (State.rateGone s i) := by
  unfold State.rateGone
  simp (maxDischargeDepth := 40) +contextual [*]

end Sys2Proof.Machine
end

