-- ==== Sys2Proof/Laws/Follows/EngineFar.lean ====
section
/-!
SUPPORT. Safety.Follows for the operations of Machine/EngineFar.lean.
-/

namespace Sys2Proof.Machine

@[simp] theorem State.doFrd_follows {s0 : State} (s : State) (e : Nat) (w : BitVec 64) (h : Safety.Follows s0 s) :
    Safety.Follows s0 (State.doFrd s e w) := by
  unfold State.doFrd
  simp (maxDischargeDepth := 40) +contextual [*]

@[simp] theorem State.doFwr_follows {s0 : State} (s : State) (e : Nat) (w : BitVec 64) (h : Safety.Follows s0 s) :
    Safety.Follows s0 (State.doFwr s e w) := by
  unfold State.doFwr
  dsimp only
  repeat' split
  all_goals simp (maxDischargeDepth := 40) +contextual [*]

@[simp] theorem State.engineWait_follows {s0 : State} (s : State) (a wait : Nat) (h : Safety.Follows s0 s) :
    Safety.Follows s0 (State.engineWait s a wait) := by
  unfold State.engineWait
  simp (maxDischargeDepth := 40) +contextual [*]

@[simp] theorem State.farWait_follows {s0 : State} (s : State) (q : FarReq) (second : Bool) (t extra : Nat) (h : Safety.Follows s0 s) :
    Safety.Follows s0 (State.farWait s q second t extra) := by
  unfold State.farWait
  split <;> simp (maxDischargeDepth := 40) +contextual [*]

@[simp] theorem State.farArrive_follows {s0 : State} (s : State) (e i : Nat) (q : FarReq) (t : Nat) (h : Safety.Follows s0 s) :
    Safety.Follows s0 (State.farArrive s e i q t) := by
  unfold State.farArrive
  simp (maxDischargeDepth := 40) +contextual [*]

@[simp] theorem State.farDone_follows {s0 : State} (s : State) (e : Nat) (h : Safety.Follows s0 s) :
    Safety.Follows s0 (State.farDone s e) := by
  unfold State.farDone
  dsimp only
  split <;> simp (maxDischargeDepth := 40) +contextual [*]

@[simp] theorem State.farLost_follows {s0 : State} (s : State) (e : Nat) (h : Safety.Follows s0 s) :
    Safety.Follows s0 (State.farLost s e) := by
  unfold State.farLost
  simp (maxDischargeDepth := 40) +contextual [*]

end Sys2Proof.Machine
end

