-- ==== Sys2Proof/Laws/Follows/Perturb.lean ====
section
/-!
SUPPORT. Safety.Follows for the operations of Machine/Perturb.lean.
-/

namespace Sys2Proof.Machine

@[simp] theorem State.setPerturb_follows {s0 : State} (s : State) (p : Perturb) (h : Safety.Follows s0 s) :
    Safety.Follows s0 (State.setPerturb s p) := by
  unfold State.setPerturb
  simp (maxDischargeDepth := 40) +contextual [*]

@[simp] theorem State.holdsAgain_follows {s0 : State} (s : State) (h : Safety.Follows s0 s) :
    Safety.Follows s0 (State.holdsAgain s) := by
  unfold State.holdsAgain
  simp (maxDischargeDepth := 40) +contextual [*]

@[simp] theorem State.lowerSet_follows {s0 : State} (s : State) (h : Safety.Follows s0 s) :
    Safety.Follows s0 (State.lowerSet s) := by
  unfold State.lowerSet
  simp (maxDischargeDepth := 40) +contextual [*]

@[simp] theorem State.perturbZero_follows {s0 : State} (s : State) (h : Safety.Follows s0 s) :
    Safety.Follows s0 (State.perturbZero s) := by
  unfold State.perturbZero
  simp (maxDischargeDepth := 40) +contextual [*]

@[simp] theorem State.keyBreak_follows {s0 : State} (s : State) (h : Safety.Follows s0 s) :
    Safety.Follows s0 (State.keyBreak s) := by
  unfold State.keyBreak
  simp (maxDischargeDepth := 40) +contextual [*]

@[simp] theorem State.writeUnlock_follows {s0 : State} (s : State) (w : Word) (h : Safety.Follows s0 s) :
    Safety.Follows s0 (State.writeUnlock s w) := by
  unfold State.writeUnlock
  simp (maxDischargeDepth := 40) +contextual [*]

@[simp] theorem State.writeControl_follows {s0 : State} (s : State) (o : Nat) (w : Word) (h : Safety.Follows s0 s) :
    Safety.Follows s0 (State.writeControl s o w) := by
  unfold State.writeControl
  simp (maxDischargeDepth := 40) +contextual [*]

end Sys2Proof.Machine
end

