-- ==== Sys2Proof/Laws/Follows/Power.lean ====
section
/-!
SUPPORT. Safety.Follows for the operations of Machine/Power.lean.
-/

namespace Sys2Proof.Machine

@[simp] theorem State.setPower_follows {s0 : State} (s : State) (p : Power) (h : Safety.Follows s0 s) :
    Safety.Follows s0 (State.setPower s p) := by
  unfold State.setPower
  simp (maxDischargeDepth := 40) +contextual [*]

@[simp] theorem State.auxFollow_follows {s0 : State} (s : State) (o : AuxName) (h : Safety.Follows s0 s) :
    Safety.Follows s0 (State.auxFollow s o) := by
  unfold State.auxFollow
  simp (maxDischargeDepth := 40) +contextual [*]

@[simp] theorem State.auxBoth_follows {s0 : State} (s : State) (h : Safety.Follows s0 s) :
    Safety.Follows s0 (State.auxBoth s) := by
  unfold State.auxBoth
  simp (maxDischargeDepth := 40) +contextual [*]

@[simp] theorem State.writeAux_follows {s0 : State} (s : State) (w : Word) (h : Safety.Follows s0 s) :
    Safety.Follows s0 (State.writeAux s w) := by
  unfold State.writeAux
  simp (maxDischargeDepth := 40) +contextual [*]

@[simp] theorem State.statusReset_follows {s0 : State} (s : State) (b : Nat) (h : Safety.Follows s0 s) :
    Safety.Follows s0 (State.statusReset s b) := by
  unfold State.statusReset
  simp (maxDischargeDepth := 40) +contextual [*]

@[simp] theorem State.setLost_follows {s0 : State} (s : State) (n : Nat) (h : Safety.Follows s0 s) :
    Safety.Follows s0 (State.setLost s n) := by
  unfold State.setLost
  simp (maxDischargeDepth := 40) +contextual [*]

@[simp] theorem State.quarterLost_follows {s0 : State} (s : State) (q : Nat) (h : Safety.Follows s0 s) :
    Safety.Follows s0 (State.quarterLost s q) := by
  unfold State.quarterLost
  simp (maxDischargeDepth := 40) +contextual [*]

@[simp] theorem State.engLost_follows {s0 : State} (s : State) (e : Nat) (h : Safety.Follows s0 s) :
    Safety.Follows s0 (State.engLost s e) := by
  unfold State.engLost
  simp (maxDischargeDepth := 40) +contextual [*]

@[simp] theorem State.sourcesOff_follows {s0 : State} (s : State) (lo hi : Nat) (h : Safety.Follows s0 s) :
    Safety.Follows s0 (State.sourcesOff s lo hi) := by
  unfold State.sourcesOff
  simp (maxDischargeDepth := 40) +contextual [*]

@[simp] theorem State.sourcesZero_follows {s0 : State} (s : State) (n : Nat) (h : Safety.Follows s0 s) :
    Safety.Follows s0 (State.sourcesZero s n) := by
  unfold State.sourcesZero
  simp (maxDischargeDepth := 40) +contextual [*]

@[simp] theorem State.tdmLost_follows {s0 : State} (s : State) (p : Nat) (h : Safety.Follows s0 s) :
    Safety.Follows s0 (State.tdmLost s p) := by
  unfold State.tdmLost
  simp (maxDischargeDepth := 40) +contextual [*]

@[simp] theorem State.biphaseLost_follows {s0 : State} (s : State) (k : Nat) (h : Safety.Follows s0 s) :
    Safety.Follows s0 (State.biphaseLost s k) := by
  unfold State.biphaseLost
  simp (maxDischargeDepth := 40) +contextual [*]

@[simp] theorem State.engHalt_follows {s0 : State} (s : State) (e : Nat) (h : Safety.Follows s0 s) :
    Safety.Follows s0 (State.engHalt s e) := by
  unfold State.engHalt
  simp (maxDischargeDepth := 40) +contextual [*]

@[simp] theorem State.portsGone_follows {s0 : State} (s : State) (h : Safety.Follows s0 s) :
    Safety.Follows s0 (State.portsGone s) := by
  unfold State.portsGone
  simp (maxDischargeDepth := 40) +contextual [*]

@[simp] theorem State.unitsOff_follows {s0 : State} (s : State) (n : Nat) (h : Safety.Follows s0 s) :
    Safety.Follows s0 (State.unitsOff s n) := by
  unfold State.unitsOff
  split <;> simp (maxDischargeDepth := 40) +contextual [*]

@[simp] theorem State.domainOffNow_follows {s0 : State} (s : State) (n : Nat) (h : Safety.Follows s0 s) :
    Safety.Follows s0 (State.domainOffNow s n) := by
  unfold State.domainOffNow
  simp (maxDischargeDepth := 40) +contextual [*]

@[simp] theorem State.domainRise_follows {s0 : State} (s : State) (n : Nat) (h : Safety.Follows s0 s) :
    Safety.Follows s0 (State.domainRise s n) := by
  unfold State.domainRise
  simp (maxDischargeDepth := 40) +contextual [*]

@[simp] theorem State.domainsFollow_follows {s0 : State} (s : State) (h : Safety.Follows s0 s) :
    Safety.Follows s0 (State.domainsFollow s) := by
  unfold State.domainsFollow
  simp (maxDischargeDepth := 40) +contextual [*]

@[simp] theorem State.portsStart_follows {s0 : State} (s : State) (h : Safety.Follows s0 s) :
    Safety.Follows s0 (State.portsStart s) := by
  unfold State.portsStart
  simp (maxDischargeDepth := 40) +contextual [*]

@[simp] theorem State.unitsOn_follows {s0 : State} (s : State) (n : Nat) (h : Safety.Follows s0 s) :
    Safety.Follows s0 (State.unitsOn s n) := by
  unfold State.unitsOn
  extract_lets s1 s2 l s3
  have h1 : Safety.Follows s0 s1 := by simp (maxDischargeDepth := 40) +contextual [s1, h]
  have h2 : Safety.Follows s0 s2 := by simp (maxDischargeDepth := 40) +contextual [s2, h1]
  have h3 : Safety.Follows s0 s3 := by simp (maxDischargeDepth := 40) +contextual [s3, h1]
  clear_value s3 l s2 s1
  repeat' split
  all_goals simp (maxDischargeDepth := 40) +contextual [h1, h2, h3]

@[simp] theorem State.writeDomainEn_follows {s0 : State} (s : State) (w : Word) (h : Safety.Follows s0 s) :
    Safety.Follows s0 (State.writeDomainEn s w) := by
  unfold State.writeDomainEn
  simp (maxDischargeDepth := 40) +contextual [*]

@[simp] theorem State.enginesSleep_follows {s0 : State} (s : State) (h : Safety.Follows s0 s) :
    Safety.Follows s0 (State.enginesSleep s) := by
  unfold State.enginesSleep
  simp (maxDischargeDepth := 40) +contextual [*]

@[simp] theorem State.evlPause_follows {s0 : State} (s : State) (h : Safety.Follows s0 s) :
    Safety.Follows s0 (State.evlPause s) := by
  unfold State.evlPause
  simp (maxDischargeDepth := 40) +contextual [*]

@[simp] theorem State.guardMute_follows {s0 : State} (s : State) (h : Safety.Follows s0 s) :
    Safety.Follows s0 (State.guardMute s) := by
  unfold State.guardMute
  simp (maxDischargeDepth := 40) +contextual [*]

@[simp] theorem State.guardResume_follows {s0 : State} (s : State) (h : Safety.Follows s0 s) :
    Safety.Follows s0 (State.guardResume s) := by
  unfold State.guardResume
  simp (maxDischargeDepth := 40) +contextual [*]

@[simp] theorem State.portsLeave_follows {s0 : State} (s : State) (h : Safety.Follows s0 s) :
    Safety.Follows s0 (State.portsLeave s) := by
  unfold State.portsLeave
  simp (maxDischargeDepth := 40) +contextual [*]

@[simp] theorem State.portsHurry_follows {s0 : State} (s : State) (h : Safety.Follows s0 s) :
    Safety.Follows s0 (State.portsHurry s) := by
  unfold State.portsHurry
  simp (maxDischargeDepth := 40) +contextual [*]

@[simp] theorem State.modeBegin_follows {s0 : State} (s : State) (m : PowerMode) (h : Safety.Follows s0 s) :
    Safety.Follows s0 (State.modeBegin s m) := by
  unfold State.modeBegin
  simp (maxDischargeDepth := 40) +contextual [*]

@[simp] theorem State.enterSleep_follows {s0 : State} (s : State) (h : Safety.Follows s0 s) :
    Safety.Follows s0 (State.enterSleep s) := by
  unfold State.enterSleep
  simp (maxDischargeDepth := 40) +contextual [*]

@[simp] theorem State.enterDeep_follows {s0 : State} (s : State) (h : Safety.Follows s0 s) :
    Safety.Follows s0 (State.enterDeep s) := by
  unfold State.enterDeep
  simp (maxDischargeDepth := 40) +contextual [*]

@[simp] theorem State.allOff_follows {s0 : State} (s : State) (h : Safety.Follows s0 s) :
    Safety.Follows s0 (State.allOff s) := by
  unfold State.allOff
  simp (maxDischargeDepth := 40) +contextual [*]

@[simp] theorem State.coreSleeps_follows {s0 : State} (s : State) (h : Safety.Follows s0 s) :
    Safety.Follows s0 (State.coreSleeps s) := by
  unfold State.coreSleeps
  simp (maxDischargeDepth := 40) +contextual [*]

@[simp] theorem State.coreWakes_follows {s0 : State} (s : State) (h : Safety.Follows s0 s) :
    Safety.Follows s0 (State.coreWakes s) := by
  unfold State.coreWakes
  simp (maxDischargeDepth := 40) +contextual [*]

@[simp] theorem State.deepNow_follows {s0 : State} (s : State) (h : Safety.Follows s0 s) :
    Safety.Follows s0 (State.deepNow s) := by
  unfold State.deepNow
  simp (maxDischargeDepth := 40) +contextual [*]

@[simp] theorem State.exitBegin_follows {s0 : State} (s : State) (to_ : PowerMode) (h : Safety.Follows s0 s) :
    Safety.Follows s0 (State.exitBegin s to_) := by
  unfold State.exitBegin
  simp (maxDischargeDepth := 40) +contextual [*]

@[simp] theorem State.wakeBy_follows {s0 : State} (s : State) (cause : BitVec 3) (h : Safety.Follows s0 s) :
    Safety.Follows s0 (State.wakeBy s cause) := by
  unfold State.wakeBy
  dsimp only
  repeat' split
  all_goals simp (maxDischargeDepth := 40) +contextual [*]

@[simp] theorem State.writeMode_follows {s0 : State} (s : State) (m : PowerMode) (h : Safety.Follows s0 s) :
    Safety.Follows s0 (State.writeMode s m) := by
  unfold State.writeMode
  split <;> simp (maxDischargeDepth := 40) +contextual [*]

@[simp] theorem State.enginesCut_follows {s0 : State} (s : State) (h : Safety.Follows s0 s) :
    Safety.Follows s0 (State.enginesCut s) := by
  unfold State.enginesCut
  simp (maxDischargeDepth := 40) +contextual [*]

@[simp] theorem State.wakeAgain_follows {s0 : State} (s : State) (h : Safety.Follows s0 s) :
    Safety.Follows s0 (State.wakeAgain s) := by
  unfold State.wakeAgain
  split <;> simp (maxDischargeDepth := 40) +contextual [*]

@[simp] theorem State.clocksReturn_follows {s0 : State} (s : State) (h : Safety.Follows s0 s) :
    Safety.Follows s0 (State.clocksReturn s) := by
  unfold State.clocksReturn
  split <;> simp (maxDischargeDepth := 40) +contextual [*]

@[simp] theorem State.enginesResume_follows {s0 : State} (s : State) (h : Safety.Follows s0 s) :
    Safety.Follows s0 (State.enginesResume s) := by
  unfold State.enginesResume
  simp (maxDischargeDepth := 40) +contextual [*]

@[simp] theorem State.evlResume_follows {s0 : State} (s : State) (h : Safety.Follows s0 s) :
    Safety.Follows s0 (State.evlResume s) := by
  unfold State.evlResume
  simp (maxDischargeDepth := 40) +contextual [*]

@[simp] theorem State.vinWarn_follows {s0 : State} (s : State) (vin : Nat) (h : Safety.Follows s0 s) :
    Safety.Follows s0 (State.vinWarn s vin) := by
  unfold State.vinWarn
  simp (maxDischargeDepth := 40) +contextual [*]

@[simp] theorem State.thermWarn_follows {s0 : State} (s : State) (temp : Int) (h : Safety.Follows s0 s) :
    Safety.Follows s0 (State.thermWarn s temp) := by
  unfold State.thermWarn
  simp (maxDischargeDepth := 40) +contextual [*]

@[simp] theorem State.tempMax_follows {s0 : State} (s : State) (temp : BitVec 16) (h : Safety.Follows s0 s) :
    Safety.Follows s0 (State.tempMax s temp) := by
  unfold State.tempMax
  simp (maxDischargeDepth := 40) +contextual [*]

@[simp] theorem State.thermEnter_follows {s0 : State} (s : State) (h : Safety.Follows s0 s) :
    Safety.Follows s0 (State.thermEnter s) := by
  unfold State.thermEnter
  simp (maxDischargeDepth := 40) +contextual [*]

end Sys2Proof.Machine
end

