-- ==== Sys2Proof/Laws/Follows/LoaderCheck.lean ====
section
/-!
SUPPORT. Safety.Follows for the operations of Machine/LoaderCheck.lean.
-/

namespace Sys2Proof.Machine

@[simp] theorem State.setLoader_follows {s0 : State} (s : State) (l : Loader) (h : Safety.Follows s0 s) :
    Safety.Follows s0 (State.setLoader s l) := by
  unfold State.setLoader
  simp (maxDischargeDepth := 40) +contextual [*]

@[simp] theorem State.fieldsReset_follows {s0 : State} (s : State) (h : Safety.Follows s0 s) :
    Safety.Follows s0 (State.fieldsReset s) := by
  unfold State.fieldsReset
  generalize imgCleared = r
  exact ⟨h.pending, h.now, h.uid, fun m => foldl_delRange_wf r (h.mem m)⟩

@[simp] theorem State.landTo_follows {s0 : State} (s : State) (exact : Bool) (a : Nat) (w : Word) (h : Safety.Follows s0 s) :
    Safety.Follows s0 (State.landTo s exact a w) := by
  unfold State.landTo
  simp (maxDischargeDepth := 40) +contextual [*]

@[simp] theorem State.landGood_follows {s0 : State} (s : State) (exact : Bool) (a : Nat) (w : Word) (h : Safety.Follows s0 s) :
    Safety.Follows s0 (State.landGood s exact a w) := by
  unfold State.landGood
  simp (maxDischargeDepth := 40) +contextual [*]

@[simp] theorem State.landBoth_follows {s0 : State} (s : State) (exact : Bool) (l : LaneName) (a : Nat) (w : Word) (h : Safety.Follows s0 s) :
    Safety.Follows s0 (State.landBoth s exact l a w) := by
  unfold State.landBoth
  simp (maxDischargeDepth := 40) +contextual [*]

@[simp] theorem State.landWord_follows {s0 : State} (s : State) (exact shelf : Bool) (a : Nat) (w : Word) (h : Safety.Follows s0 s) :
    Safety.Follows s0 (State.landWord s exact shelf a w) := by
  unfold State.landWord
  repeat' split
  all_goals simp (maxDischargeDepth := 40) +contextual [*]

@[simp] theorem State.landWords_follows {s0 : State} (s : State) (exact shelf : Bool) (l : List (Nat × Word)) (h : Safety.Follows s0 s) :
    Safety.Follows s0 (State.landWords s exact shelf l) := by
  unfold State.landWords
  simp (maxDischargeDepth := 40) +contextual [*]

@[simp] theorem State.landSection_follows {s0 : State} (exact : Bool) (s : State) (c : ImgSection) (h : Safety.Follows s0 s) :
    Safety.Follows s0 (State.landSection exact s c) := by
  unfold State.landSection
  simp (maxDischargeDepth := 40) +contextual [*]

@[simp] theorem State.wouldBe_follows {s0 : State} (s : State) (full : Bool) (l : List Word) (h : Safety.Follows s0 s) :
    Safety.Follows s0 (State.wouldBe s full l) := by
  unfold State.wouldBe
  simp (maxDischargeDepth := 40) +contextual [*]

end Sys2Proof.Machine
end

