-- ==== Sys2Proof/Laws/Follows/Loader.lean ====
section
/-!
SUPPORT. Safety.Follows for the operations of Machine/Loader.lean.
-/

namespace Sys2Proof.Machine

@[simp] theorem State.fullStop_follows {s0 : State} (s : State) (h : Safety.Follows s0 s) :
    Safety.Follows s0 (State.fullStop s) := by
  unfold State.fullStop
  simp (maxDischargeDepth := 40) +contextual [*]

@[simp] theorem State.stageBanks_follows {s0 : State} (s : State) (h : Safety.Follows s0 s) :
    Safety.Follows s0 (State.stageBanks s) := by
  unfold State.stageBanks
  simp (maxDischargeDepth := 40) +contextual [*]

@[simp] theorem State.loadReply_follows {s0 : State} (s : State) (failed : Bool) (h : Safety.Follows s0 s) :
    Safety.Follows s0 (State.loadReply s failed) := by
  unfold State.loadReply
  split <;> simp (maxDischargeDepth := 40) +contextual [*]

@[simp] theorem State.loadError_follows {s0 : State} (s : State) (e : ImgErr) (h : Safety.Follows s0 s) :
    Safety.Follows s0 (State.loadError s e) := by
  unfold State.loadError
  simp (maxDischargeDepth := 40) +contextual [*]

@[simp] theorem State.bootFail_follows {s0 : State} (s : State) (cause : BitVec 4) (h : Safety.Follows s0 s) :
    Safety.Follows s0 (State.bootFail s cause) := by
  unfold State.bootFail
  simp (maxDischargeDepth := 40) +contextual [*]

@[simp] theorem State.setHost_follows {s0 : State} (s : State) (h : HostPort) (hs : Safety.Follows s0 s) :
    Safety.Follows s0 (State.setHost s h) := by
  unfold State.setHost
  simp (maxDischargeDepth := 40) +contextual [*]

@[simp] theorem State.flashOver_follows {s0 : State} (s : State) (h : Safety.Follows s0 s) :
    Safety.Follows s0 (State.flashOver s) := by
  unfold State.flashOver
  simp (maxDischargeDepth := 40) +contextual [*]

@[simp] theorem State.loadFail_follows {s0 : State} (s : State) (e : ImgErr) (cause : BitVec 4) (h : Safety.Follows s0 s) :
    Safety.Follows s0 (State.loadFail s e cause) := by
  unfold State.loadFail
  simp (maxDischargeDepth := 40) +contextual [*]

@[simp] theorem State.loadVerify_follows {s0 : State} (s : State) (h : Safety.Follows s0 s) :
    Safety.Follows s0 (State.loadVerify s) := by
  unfold State.loadVerify
  simp (maxDischargeDepth := 40) +contextual [*]

@[simp] theorem State.loadWord_follows {s0 : State} (s : State) (w : Word) (h : Safety.Follows s0 s) :
    Safety.Follows s0 (State.loadWord s w) := by
  unfold State.loadWord
  simp (maxDischargeDepth := 40) +contextual [*]

@[simp] theorem State.loadMany_follows {s0 : State} (s : State) (x0 : List Word) (h : Safety.Follows s0 s) :
    Safety.Follows s0 (State.loadMany s x0) := by
  induction x0 generalizing s with
  | nil => exact h
  | cons w r ih => exact ih _ (State.loadWord_follows s w h)

@[simp] theorem State.sourceWaits_follows {s0 : State} (s : State) (a n : Nat) (h : Safety.Follows s0 s) :
    Safety.Follows s0 (State.sourceWaits s a n) := by
  unfold State.sourceWaits
  simp (maxDischargeDepth := 40) +contextual [*]

@[simp] theorem State.loadReceive_follows {s0 : State} (s : State) (h : Safety.Follows s0 s) :
    Safety.Follows s0 (State.loadReceive s) := by
  unfold State.loadReceive
  dsimp only
  repeat' split
  all_goals simp (maxDischargeDepth := 40) +contextual [*]

@[simp] theorem State.queueEnds_follows {s0 : State} (s : State) (h : Safety.Follows s0 s) :
    Safety.Follows s0 (State.queueEnds s) := by
  unfold State.queueEnds
  simp (maxDischargeDepth := 40) +contextual [*]

@[simp] theorem State.loadBegin_follows {s0 : State} (s : State) (full : Bool) (path : LoadPath) (h : Safety.Follows s0 s) :
    Safety.Follows s0 (State.loadBegin s full path) := by
  unfold State.loadBegin
  simp (maxDischargeDepth := 40) +contextual [*]

@[simp] theorem State.loadAbort_follows {s0 : State} (s : State) (h : Safety.Follows s0 s) :
    Safety.Follows s0 (State.loadAbort s) := by
  unfold State.loadAbort
  simp (maxDischargeDepth := 40) +contextual [*]

@[simp] theorem State.coreReset_follows {s0 : State} (s : State) (h : Safety.Follows s0 s) :
    Safety.Follows s0 (State.coreReset s) := by
  unfold State.coreReset
  simp (maxDischargeDepth := 40) +contextual [*]

@[simp] theorem State.powerWord_follows {s0 : State} (s : State) (c : Nat × Word) (h : Safety.Follows s0 s) :
    Safety.Follows s0 (State.powerWord s c) := by
  unfold State.powerWord
  repeat' split
  all_goals simp (maxDischargeDepth := 40) +contextual [*]

@[simp] theorem State.applyPower_follows {s0 : State} (s : State) (h : Safety.Follows s0 s) :
    Safety.Follows s0 (State.applyPower s) := by
  unfold State.applyPower
  simp (maxDischargeDepth := 40) +contextual [*]

@[simp] theorem State.fullReset_follows {s0 : State} (s : State) (h : Safety.Follows s0 s) :
    Safety.Follows s0 (State.fullReset s) := by
  unfold State.fullReset
  simp (maxDischargeDepth := 40) +contextual [*]

@[simp] theorem State.loadApply_follows {s0 : State} (s : State) (h : Safety.Follows s0 s) :
    Safety.Follows s0 (State.loadApply s) := by
  unfold State.loadApply
  simp (maxDischargeDepth := 40) +contextual [*]

@[simp] theorem State.clearData_follows {s0 : State} (s : State) (h : Safety.Follows s0 s) :
    Safety.Follows s0 (State.clearData s) := by
  unfold State.clearData
  simp (maxDischargeDepth := 40) +contextual [*]

@[simp] theorem State.applySealed_follows {s0 : State} (s : State) (c : ImgSection) (crc : Word) (h : Safety.Follows s0 s) :
    Safety.Follows s0 (State.applySealed s c crc) := by
  unfold State.applySealed
  simp (maxDischargeDepth := 40) +contextual [*]

@[simp] theorem State.originZero_follows {s0 : State} (s : State) (a : Nat) (h : Safety.Follows s0 s) :
    Safety.Follows s0 (State.originZero s a) := by
  unfold State.originZero
  split <;> simp (maxDischargeDepth := 40) +contextual [*]

@[simp] theorem State.stagesDrop_follows {s0 : State} (s : State) (h : Safety.Follows s0 s) :
    Safety.Follows s0 (State.stagesDrop s) := by
  unfold State.stagesDrop
  simp (maxDischargeDepth := 40) +contextual [*]

@[simp] theorem State.landedAt_follows {s0 : State} (s : State) (a : Nat) (h : Safety.Follows s0 s) :
    Safety.Follows s0 (State.landedAt s a) := by
  unfold State.landedAt
  simp (maxDischargeDepth := 40) +contextual [*]

@[simp] theorem State.applyUnits_follows {s0 : State} (s : State) (gens : List Word) (h : Safety.Follows s0 s) :
    Safety.Follows s0 (State.applyUnits s gens) := by
  unfold State.applyUnits
  simp (maxDischargeDepth := 40) +contextual [*]

@[simp] theorem State.loadStart_follows {s0 : State} (s : State) (entries : List StartEntry) (startAt : Nat) (h : Safety.Follows s0 s) :
    Safety.Follows s0 (State.loadStart s entries startAt) := by
  unfold State.loadStart
  simp (maxDischargeDepth := 40) +contextual [*]

@[simp] theorem State.loadDirect_follows {s0 : State} (s : State) (h : Safety.Follows s0 s) :
    Safety.Follows s0 (State.loadDirect s) := by
  unfold State.loadDirect
  dsimp only
  split <;> simp (maxDischargeDepth := 40) +contextual [*]

@[simp] theorem State.loadDone_follows {s0 : State} (s : State) (h : Safety.Follows s0 s) :
    Safety.Follows s0 (State.loadDone s) := by
  unfold State.loadDone
  extract_lets l full s1 s2 gens s3 s4 s5 s6 s7 s8 _ s9 s10 _ s11 s12 s13
  have h1 : Safety.Follows s0 s1 := by simp (maxDischargeDepth := 40) +contextual [s1, h]
  clear_value s1
  have h2 : Safety.Follows s0 s2 := by simp (maxDischargeDepth := 40) +contextual [s2, h1]
  clear_value s2
  have h3 : Safety.Follows s0 s3 := by simp (maxDischargeDepth := 40) +contextual [s3, h2]
  clear_value s3
  have h4 : Safety.Follows s0 s4 := by simp (maxDischargeDepth := 40) +contextual [s4, h3]
  clear_value s4
  have h5 : Safety.Follows s0 s5 := by simp (maxDischargeDepth := 40) +contextual [s5, h4]
  clear_value s5
  have h6 : Safety.Follows s0 s6 := by simp (maxDischargeDepth := 40) +contextual [s6, h5]
  clear_value s6
  have h7 : Safety.Follows s0 s7 := by simp (maxDischargeDepth := 40) +contextual [s7, h6]
  clear_value s7
  have h8 : Safety.Follows s0 s8 := by simp (maxDischargeDepth := 40) +contextual [s8, h7]
  clear_value s8
  have h9 : Safety.Follows s0 s9 := by simp (maxDischargeDepth := 40) +contextual [s9, h8]
  clear_value s9
  have h10 : Safety.Follows s0 s10 := by simp (maxDischargeDepth := 40) +contextual [s10, h9]
  clear_value s10
  have h11 : Safety.Follows s0 s11 := by simp (maxDischargeDepth := 40) +contextual [s11, h10]
  clear_value s11
  have h12 : Safety.Follows s0 s12 := by simp (maxDischargeDepth := 40) +contextual [s12, h11]
  clear_value s12
  have h13 : Safety.Follows s0 s13 := by simp (maxDischargeDepth := 40) +contextual [s13, h12]
  clear_value s13
  split <;> simp (maxDischargeDepth := 40) +contextual [h13]

@[simp] theorem State.imageCommand_follows {s0 : State} (s : State) (w : Word) (h : Safety.Follows s0 s) :
    Safety.Follows s0 (State.imageCommand s w) := by
  unfold State.imageCommand
  split <;> simp (maxDischargeDepth := 40) +contextual [*]

@[simp] theorem State.hostImage_follows {s0 : State} (s : State) (cmd : Word) (h : Safety.Follows s0 s) :
    Safety.Follows s0 (State.hostImage s cmd) := by
  unfold State.hostImage
  simp (maxDischargeDepth := 40) +contextual [*]

@[simp] theorem State.windowWrite_follows {s0 : State} (s : State) (w : Word) (h : Safety.Follows s0 s) :
    Safety.Follows s0 (State.windowWrite s w) := by
  unfold State.windowWrite
  simp (maxDischargeDepth := 40) +contextual [*]

@[simp] theorem State.startUnit_follows {s0 : State} (s : State) (i : Nat) (x : StartEntry) (h : Safety.Follows s0 s) :
    Safety.Follows s0 (State.startUnit s i x) := by
  unfold State.startUnit
  split <;> simp (maxDischargeDepth := 40) +contextual [*]

end Sys2Proof.Machine
end

