-- ==== Sys2Proof/Laws/Follows/CoreCmd.lean ====
section
/-!
SUPPORT. Safety.Follows for the operations of Machine/CoreCmd.lean.
-/

namespace Sys2Proof.Machine

@[simp] theorem State.ring_follows {s0 : State} (s : State) (w : Word) (h : Safety.Follows s0 s) :
    Safety.Follows s0 (State.ring s w) := by
  unfold State.ring
  simp (maxDischargeDepth := 40) +contextual [*]

@[simp] theorem State.freeReplies_follows {s0 : State} (s : State) (w : Word) (h : Safety.Follows s0 s) :
    Safety.Follows s0 (State.freeReplies s w) := by
  unfold State.freeReplies
  simp (maxDischargeDepth := 40) +contextual [*]

end Sys2Proof.Machine
end

