-- ==== Sys2Proof/Laws/Follows/Views.lean ====
section
/-!
SUPPORT. Safety.Follows for the operations of Machine/Views.lean.
-/

namespace Sys2Proof.Machine

end Sys2Proof.Machine
end

