-- ==== Sys2Proof/Laws/Follows/Bus.lean ====
section
/-!
SUPPORT. Safety.Follows for the operations of Machine/Bus.lean.
-/

namespace Sys2Proof.Machine

@[simp] theorem State.accessFault_follows {s0 : State} (s : State) (by_ : Requester) (cause a : Nat) (h : Safety.Follows s0 s) :
    Safety.Follows s0 (State.accessFault s by_ cause a) := by
  unfold State.accessFault
  split <;> simp (maxDischargeDepth := 40) +contextual [*]

@[simp] theorem State.writeWide_follows {s0 : State} (s : State) (a : Nat) (w : Word) (h : Safety.Follows s0 s) :
    Safety.Follows s0 (State.writeWide s a w) := by
  unfold State.writeWide
  repeat' split
  all_goals simp (maxDischargeDepth := 40) +contextual [*]

@[simp] theorem State.rawAsk_follows {s0 : State} (s : State) (h : Safety.Follows s0 s) :
    Safety.Follows s0 (State.rawAsk s) := by
  unfold State.rawAsk
  simp (maxDischargeDepth := 40) +contextual [*]

@[simp] theorem State.clearEvents_follows {s0 : State} (s : State) (a : Nat) (w : Word) (h : Safety.Follows s0 s) :
    Safety.Follows s0 (State.clearEvents s a w) := by
  unfold State.clearEvents
  simp (maxDischargeDepth := 40) +contextual [*]

@[simp] theorem State.writeMeter_follows {s0 : State} (s : State) (a : Nat) (w : Word) (h : Safety.Follows s0 s) :
    Safety.Follows s0 (State.writeMeter s a w) := by
  unfold State.writeMeter
  split <;> simp (maxDischargeDepth := 40) +contextual [*]

@[simp] theorem State.writePerturb_follows {s0 : State} (s : State) (a : Nat) (w : Word) (h : Safety.Follows s0 s) :
    Safety.Follows s0 (State.writePerturb s a w) := by
  unfold State.writePerturb
  simp (maxDischargeDepth := 40) +contextual [*]

@[simp] theorem State.writePwr_follows {s0 : State} (s : State) (a : Nat) (w : Word) (h : Safety.Follows s0 s) :
    Safety.Follows s0 (State.writePwr s a w) := by
  unfold State.writePwr
  split <;> simp (maxDischargeDepth := 40) +contextual [*]

@[simp] theorem State.writeCore_follows {s0 : State} (s : State) (a : Nat) (w : Word) (h : Safety.Follows s0 s) :
    Safety.Follows s0 (State.writeCore s a w) := by
  unfold State.writeCore
  simp (maxDischargeDepth := 40) +contextual [*]

@[simp] theorem State.writeTdm_follows {s0 : State} (s : State) (p a : Nat) (w : Word) (h : Safety.Follows s0 s) :
    Safety.Follows s0 (State.writeTdm s p a w) := by
  unfold State.writeTdm
  simp (maxDischargeDepth := 40) +contextual [*]

@[simp] theorem State.writeRx_follows {s0 : State} (s : State) (n a : Nat) (w : Word) (h : Safety.Follows s0 s) :
    Safety.Follows s0 (State.writeRx s n a w) := by
  unfold State.writeRx
  simp (maxDischargeDepth := 40) +contextual [*]

@[simp] theorem State.writeTx_follows {s0 : State} (s : State) (n a : Nat) (w : Word) (h : Safety.Follows s0 s) :
    Safety.Follows s0 (State.writeTx s n a w) := by
  unfold State.writeTx
  simp (maxDischargeDepth := 40) +contextual [*]

@[simp] theorem State.writeSource_follows {s0 : State} (s : State) (a : Nat) (w : Word) (h : Safety.Follows s0 s) :
    Safety.Follows s0 (State.writeSource s a w) := by
  unfold State.writeSource
  simp (maxDischargeDepth := 40) +contextual [*]

@[simp] theorem State.writeStore_follows {s0 : State} (s : State) (a : Nat) (w : Word) (h : Safety.Follows s0 s) :
    Safety.Follows s0 (State.writeStore s a w) := by
  unfold State.writeStore
  simp (maxDischargeDepth := 40) +contextual [*]

@[simp] theorem State.writeEngine_follows {s0 : State} (s : State) (e a : Nat) (w : Word) (h : Safety.Follows s0 s) :
    Safety.Follows s0 (State.writeEngine s e a w) := by
  unfold State.writeEngine
  simp (maxDischargeDepth := 40) +contextual [*]

@[simp] theorem State.writeTime_follows {s0 : State} (s : State) (a : Nat) (w : Word) (h : Safety.Follows s0 s) :
    Safety.Follows s0 (State.writeTime s a w) := by
  unfold State.writeTime
  simp (maxDischargeDepth := 40) +contextual [*]

@[simp] theorem State.writeCommit_follows {s0 : State} (s : State) (a : Nat) (w : Word) (h : Safety.Follows s0 s) :
    Safety.Follows s0 (State.writeCommit s a w) := by
  unfold State.writeCommit
  simp (maxDischargeDepth := 40) +contextual [*]

@[simp] theorem State.writeReg_follows {s0 : State} (s : State) (a : Nat) (w : Word) (h : Safety.Follows s0 s) :
    Safety.Follows s0 (State.writeReg s a w) := by
  unfold State.writeReg
  extract_lets b o s'
  have hw : ∀ m, Safety.Follows s0 (s.writeFields a m w) := fun m => State.writeFields_follows _ _ _ _ h
  have hs : Safety.Follows s0 s' := hw _
  clear_value s' b o
  repeat' with_reducible refine ite_follows _ _ _ ?_ ?_
  all_goals simp (maxDischargeDepth := 40) +contextual [h, hs, hw]

@[simp] theorem State.readReg_follows {s0 : State} (s : State) (by_ : Requester) (a : Nat) (coincident : Bool) (h : Safety.Follows s0 s) :
    Safety.Follows s0 (State.readReg s by_ a coincident) := by
  unfold State.readReg
  extract_lets b o s1
  have h1 : Safety.Follows s0 s1 := by simp (maxDischargeDepth := 40) +contextual [s1, h]
  clear_value s1
  refine ite_follows _ _ _ (State.readStamp_follows _ _ _ h1) (ite_follows _ _ _ (State.answer_follows _ _ h1) ?_)
  refine State.answer_follows _ _ (ite_follows _ _ _ (State.setMeter_follows _ _ ?_) ?_)
  all_goals
    refine ite_follows _ _ _ (State.setPower_follows _ _ ?_) ?_
  all_goals
    refine ite_follows _ _ _ ?_ (State.setReg_follows _ _ _ ?_)
  all_goals exact State.each_follows _ _ _ h1 fun s k hs => State.latch_follows _ _ _ _ hs

@[simp] theorem State.stale_follows {s0 : State} (s : State) (by_ : Requester) (a : Nat) (h : Safety.Follows s0 s) :
    Safety.Follows s0 (State.stale s by_ a) := by
  unfold State.stale
  simp (maxDischargeDepth := 40) +contextual [*]

@[simp] theorem State.busRead_follows {s0 : State} (s : State) (by_ : Requester) (addr : Nat) (coincident : Bool) (h : Safety.Follows s0 s) :
    Safety.Follows s0 (State.busRead s by_ addr coincident) := by
  unfold State.busRead
  dsimp only
  repeat' split
  all_goals simp (maxDischargeDepth := 40) +contextual [*]

@[simp] theorem State.landWrite_follows {s0 : State} (s : State) (by_ : Requester) (r : Region) (a : Nat) (w : Word) (h : Safety.Follows s0 s) :
    Safety.Follows s0 (State.landWrite s by_ r a w) := by
  unfold State.landWrite
  repeat' split
  all_goals simp (maxDischargeDepth := 40) +contextual [*]

@[simp] theorem State.busWrite_follows {s0 : State} (s : State) (by_ : Requester) (addr : Nat) (w : Word) (h : Safety.Follows s0 s) :
    Safety.Follows s0 (State.busWrite s by_ addr w) := by
  unfold State.busWrite
  dsimp only
  split <;> simp (maxDischargeDepth := 40) +contextual [*]

@[simp] theorem State.busRequest_follows {s0 : State} (s : State) (by_ : Requester) (addr : Nat) (w : Word) (h : Safety.Follows s0 s) :
    Safety.Follows s0 (State.busRequest s by_ addr w) := by
  unfold State.busRequest
  simp (maxDischargeDepth := 40) +contextual [*]

@[simp] theorem State.busFetch_follows {s0 : State} (s : State) (by_ : Requester) (addr : Nat) (coincident : Bool) (h : Safety.Follows s0 s) :
    Safety.Follows s0 (State.busFetch s by_ addr coincident) := by
  unfold State.busFetch
  simp (maxDischargeDepth := 40) +contextual [*]

end Sys2Proof.Machine
end

