-- ==== Sys2Proof/Laws/Follows/Reset.lean ====
section
/-!
SUPPORT. Safety.Follows for the operations of Machine/Reset.lean.
-/

namespace Sys2Proof.Machine

@[simp] theorem State.rstLast_follows {s0 : State} (s : State) (scope : Nat) (h : Safety.Follows s0 s) :
    Safety.Follows s0 (State.rstLast s scope) := by
  unfold State.rstLast
  simp (maxDischargeDepth := 40) +contextual [*]

@[simp] theorem State.logReset_follows {s0 : State} (s : State) (scope : Nat) (h : Safety.Follows s0 s) :
    Safety.Follows s0 (State.logReset s scope) := by
  unfold State.logReset
  simp (maxDischargeDepth := 40) +contextual [*]

@[simp] theorem State.moduleReset_follows {s0 : State} (s : State) (straps : Straps) (hostKept : Bool) (scope : Nat) (h : Safety.Follows s0 s) :
    Safety.Follows s0 (State.moduleReset s straps hostKept scope) := by
  unfold State.moduleReset
  extract_lets s1 keep en r _ _ t t1 t2 t3 t4
  have h1 : Safety.Follows s0 s1 := by simp (maxDischargeDepth := 40) +contextual [s1, h]
  clear_value s1
  have ht : Safety.Follows s0 t := follows_cleared h1 ..
  clear_value t
  have h2 : Safety.Follows s0 t2 := by simp (maxDischargeDepth := 40) +contextual [t2, t1, ht]
  clear_value t2
  have h3 : Safety.Follows s0 t3 := by simp (maxDischargeDepth := 40) +contextual [t3, h2]
  clear_value t3
  simp (maxDischargeDepth := 40) +contextual [t4, h3]

@[simp] theorem State.bootFrom_follows {s0 : State} (s : State) (h : Safety.Follows s0 s) :
    Safety.Follows s0 (State.bootFrom s) := by
  unfold State.bootFrom
  repeat' split
  all_goals simp (maxDischargeDepth := 40) +contextual [*]

@[simp] theorem State.romChecked_follows {s0 : State} (s : State) (h : Safety.Follows s0 s) :
    Safety.Follows s0 (State.romChecked s) := by
  unfold State.romChecked
  simp (maxDischargeDepth := 40) +contextual [*]

@[simp] theorem State.romFailed_follows {s0 : State} (s : State) (h : Safety.Follows s0 s) :
    Safety.Follows s0 (State.romFailed s) := by
  unfold State.romFailed
  simp (maxDischargeDepth := 40) +contextual [*]

@[simp] theorem State.rstCore_follows {s0 : State} (s : State) (h : Safety.Follows s0 s) :
    Safety.Follows s0 (State.rstCore s) := by
  unfold State.rstCore
  simp (maxDischargeDepth := 40) +contextual [*]

@[simp] theorem State.maybeLand_follows {s0 : State} (s : State) (reaches : Bool) (a : Nat) (w : Word) (h : Safety.Follows s0 s) :
    Safety.Follows s0 (State.maybeLand s reaches a w) := by
  unfold State.maybeLand
  simp (maxDischargeDepth := 40) +contextual [*]

@[simp] theorem State.rstDma_follows {s0 : State} (s : State) (h : Safety.Follows s0 s) :
    Safety.Follows s0 (State.rstDma s) := by
  unfold State.rstDma
  simp (maxDischargeDepth := 40) +contextual [*]

@[simp] theorem State.portStarves_follows {s0 : State} (s : State) (p : Nat) (h : Safety.Follows s0 s) :
    Safety.Follows s0 (State.portStarves s p) := by
  unfold State.portStarves
  simp (maxDischargeDepth := 40) +contextual [*]

@[simp] theorem State.rstRouter_follows {s0 : State} (s : State) (h : Safety.Follows s0 s) :
    Safety.Follows s0 (State.rstRouter s) := by
  unfold State.rstRouter
  simp (maxDischargeDepth := 40) +contextual [*]

@[simp] theorem State.rstTdm_follows {s0 : State} (s : State) (lo : Nat) (h : Safety.Follows s0 s) :
    Safety.Follows s0 (State.rstTdm s lo) := by
  unfold State.rstTdm
  simp (maxDischargeDepth := 40) +contextual [*]

@[simp] theorem State.rstBiphase_follows {s0 : State} (s : State) (h : Safety.Follows s0 s) :
    Safety.Follows s0 (State.rstBiphase s) := by
  unfold State.rstBiphase
  simp (maxDischargeDepth := 40) +contextual [*]

@[simp] theorem State.rstEngine_follows {s0 : State} (s : State) (e : Nat) (h : Safety.Follows s0 s) :
    Safety.Follows s0 (State.rstEngine s e) := by
  unfold State.rstEngine
  extract_lets x s1 s2 s3
  have h1 : Safety.Follows s0 s1 := by simp (maxDischargeDepth := 40) +contextual [s1, h]
  clear_value s1
  have h2 : Safety.Follows s0 s2 := by
    refine State.each_follows _ _ _ h1 fun s q hs => ?_
    split <;> simp (maxDischargeDepth := 40) +contextual [hs]
  clear_value s2
  simp (maxDischargeDepth := 40) +contextual [s3, h2]

@[simp] theorem State.rstSet_follows {s0 : State} (s : State) (k : Nat) (h : Safety.Follows s0 s) :
    Safety.Follows s0 (State.rstSet s k) := by
  unfold State.rstSet
  simp (maxDischargeDepth := 40) +contextual [*]

@[simp] theorem State.resetScope_follows {s0 : State} (s : State) (scope : Nat) (h : Safety.Follows s0 s) :
    Safety.Follows s0 (State.resetScope s scope) := by
  unfold State.resetScope
  repeat' split
  all_goals simp (maxDischargeDepth := 40) +contextual [*]

@[simp] theorem State.unpowered_follows {s0 : State} (s : State) (h : Safety.Follows s0 s) :
    Safety.Follows s0 (State.unpowered s) := by
  exact follows_cleared h ..

@[simp] theorem State.powersUp_follows {s0 : State} (s : State) (straps : Straps) (h : Safety.Follows s0 s) :
    Safety.Follows s0 (State.powersUp s straps) := by
  unfold State.powersUp
  simp (maxDischargeDepth := 40) +contextual [*]

end Sys2Proof.Machine
end

