-- ==== Sys2Proof/Laws/Follows/Host.lean ====
section
/-!
SUPPORT. Safety.Follows for the operations of Machine/Host.lean.
-/

namespace Sys2Proof.Machine

@[simp] theorem State.inFrame_follows {s0 : State} (s : State) (f : State → State) (h : Safety.Follows s0 s) (h_f : ∀ y0, Safety.Follows s0 y0 → Safety.Follows s0 (f y0)) :
    Safety.Follows s0 (State.inFrame s f) := by
  unfold State.inFrame
  simp (maxDischargeDepth := 40) +contextual [*]

@[simp] theorem State.frameFault_follows {s0 : State} (s : State) (cause addr : Nat) (h : Safety.Follows s0 s) :
    Safety.Follows s0 (State.frameFault s cause addr) := by
  unfold State.frameFault
  simp (maxDischargeDepth := 40) +contextual [*]

@[simp] theorem State.checkErr_follows {s0 : State} (s : State) (h : Safety.Follows s0 s) :
    Safety.Follows s0 (State.checkErr s) := by
  unfold State.checkErr
  simp (maxDischargeDepth := 40) +contextual [*]

@[simp] theorem State.silenceRestart_follows {s0 : State} (s : State) (h : Safety.Follows s0 s) :
    Safety.Follows s0 (State.silenceRestart s) := by
  unfold State.silenceRestart
  simp (maxDischargeDepth := 40) +contextual [*]

@[simp] theorem State.portsRestart_follows {s0 : State} (s : State) (h : Safety.Follows s0 s) :
    Safety.Follows s0 (State.portsRestart s) := by
  unfold State.portsRestart
  simp (maxDischargeDepth := 40) +contextual [*]

@[simp] theorem State.release_follows {s0 : State} (s : State) (h : Safety.Follows s0 s) :
    Safety.Follows s0 (State.release s) := by
  unfold State.release
  split <;> simp (maxDischargeDepth := 40) +contextual [*]

@[simp] theorem State.portsSilence_follows {s0 : State} (s : State) (h : Safety.Follows s0 s) :
    Safety.Follows s0 (State.portsSilence s) := by
  unfold State.portsSilence
  simp (maxDischargeDepth := 40) +contextual [*]

@[simp] theorem State.supersede_follows {s0 : State} (s : State) (h : Safety.Follows s0 s) :
    Safety.Follows s0 (State.supersede s) := by
  unfold State.supersede
  simp (maxDischargeDepth := 40) +contextual [*]

@[simp] theorem State.directedSeen_follows {s0 : State} (s : State) (h : Safety.Follows s0 s) :
    Safety.Follows s0 (State.directedSeen s) := by
  unfold State.directedSeen
  simp (maxDischargeDepth := 40) +contextual [*]

@[simp] theorem State.judge_follows {s0 : State} (s : State) (h : Head) (hs : Safety.Follows s0 s) :
    Safety.Follows s0 (State.judge s h).1 := by
  unfold State.judge
  dsimp only
  repeat' split
  all_goals simp (maxDischargeDepth := 40) +contextual [*]

@[simp] theorem State.frameHead_follows {s0 : State} (s : State) (op : BitVec 5) (address : List Bool) (h : Head) (hs : Safety.Follows s0 s) :
    Safety.Follows s0 (State.frameHead s op address h).1 := by
  unfold State.frameHead
  refine (apply_ite (fun p : State × Option FrameForm => Safety.Follows s0 p.1) _ _ _).mpr (ite_prop_iff_or.mpr ?_)
  by_cases c : (s.host.mastering || h.ownLow || !s.power.vin || !s.clkRuns .hclk) = true
  · exact .inl ⟨c, hs⟩
  · refine .inr ⟨c, ?_⟩
    extract_lets _ t
    have ht : Safety.Follows s0 t := by simp (maxDischargeDepth := 40) +contextual [t, hs]
    clear_value t
    split
    · exact ht
    · split
      · simp (maxDischargeDepth := 40) +contextual [ht]
      · have hj := State.judge_follows t h ht
        split
        · rename_i q; rw [q] at hj; exact hj
        · rename_i q; rw [q] at hj
          repeat' split
          all_goals first | exact hj | simp (maxDischargeDepth := 40) +contextual [hj]

@[simp] theorem State.hostTurn_follows {s0 : State} (s : State) (h : Safety.Follows s0 s) :
    Safety.Follows s0 (State.hostTurn s) := by
  unfold State.hostTurn
  simp (maxDischargeDepth := 40) +contextual [*]

@[simp] theorem State.postEntry_follows {s0 : State} (s : State) (p : Posted) (h : Safety.Follows s0 s) :
    Safety.Follows s0 (State.postEntry s p) := by
  unfold State.postEntry
  simp (maxDischargeDepth := 40) +contextual [*]

@[simp] theorem State.postWrite_follows {s0 : State} (s : State) (checked : Bool) (a : Word) (words : List Word) (h : Safety.Follows s0 s) :
    Safety.Follows s0 (State.postWrite s checked a words) := by
  unfold State.postWrite
  split <;> simp (maxDischargeDepth := 40) +contextual [*]

@[simp] theorem State.checkedBody_follows {s0 : State} (s : State) (op : BitVec 5) (h : Head) (address : List Bool) (need : Option Nat) (b : Body) (hs : Safety.Follows s0 s) :
    Safety.Follows s0 (State.checkedBody s op h address need b).1 := by
  unfold State.checkedBody
  dsimp only
  repeat' split
  all_goals simp (maxDischargeDepth := 40) +contextual [*]

@[simp] theorem State.commandFrame_follows {s0 : State} (s : State) (op : BitVec 5) (h : Head) (need : Nat) (b : Body) (act : FrameForm → List Word → State → State) (hs : Safety.Follows s0 s) (h_act : ∀ y0 y1 y2, Safety.Follows s0 y2 → Safety.Follows s0 (act y0 y1 y2)) :
    Safety.Follows s0 (State.commandFrame s op h need b act) := by
  unfold State.commandFrame
  have h1 := State.frameHead_follows s op [] h hs
  split
  · rename_i q; rw [q] at h1; exact h1
  · rename_i t f q
    rw [q] at h1
    have h2 := State.checkedBody_follows t op h [] (some need) b h1
    split
    · rename_i q; rw [q] at h2; exact h2
    · rename_i q; rw [q] at h2; exact h_act _ _ _ h2

@[simp] theorem State.adopted_follows {s0 : State} (s : State) (w : Word) (h : Safety.Follows s0 s) :
    Safety.Follows s0 (State.adopted s w) := by
  unfold State.adopted
  simp (maxDischargeDepth := 40) +contextual [*]

@[simp] theorem State.entryWaited_follows {s0 : State} (s : State) (p : Posted) (wait : Nat) (h : Safety.Follows s0 s) :
    Safety.Follows s0 (State.entryWaited s p wait) := by
  unfold State.entryWaited
  repeat' split
  all_goals first | exact h | simp (maxDischargeDepth := 40) +contextual [*]

@[simp] theorem State.entryActs_follows {s0 : State} (s : State) (p : Posted) (h : Safety.Follows s0 s) :
    Safety.Follows s0 (State.entryActs s p) := by
  unfold State.entryActs
  split <;> simp (maxDischargeDepth := 40) +contextual [*]

@[simp] theorem State.sendReady_follows {s0 : State} (s : State) (h : Safety.Follows s0 s) :
    Safety.Follows s0 (State.sendReady s) := by
  unfold State.sendReady
  simp (maxDischargeDepth := 40) +contextual [*]

@[simp] theorem State.readFrame_follows {s0 : State} (s : State) (op : BitVec 5) (h : Head) (a : Word) (words : Option Nat) (hs : Safety.Follows s0 s) :
    Safety.Follows s0 (State.readFrame s op h a words) := by
  unfold State.readFrame
  have h1 := State.frameHead_follows s op (s.addressBits a) h hs
  split
  · rename_i q; rw [q] at h1; exact h1
  · rename_i q
    rw [q] at h1
    split <;> simp (maxDischargeDepth := 40) +contextual [h1]

@[simp] theorem State.fetchWords_follows {s0 : State} (s : State) (j : ReadJob) (lo hi : Nat) (h : Safety.Follows s0 s) :
    Safety.Follows s0 (State.fetchWords s j lo hi).1 := by
  refine foldl_fst_follows _ _ _ h fun o k ho => ?_
  simp (maxDischargeDepth := 40) +contextual [ho]

@[simp] theorem State.rawFill_follows {s0 : State} (s : State) (l : List Word) (h : Safety.Follows s0 s) :
    Safety.Follows s0 (State.rawFill s l) := by
  unfold State.rawFill
  simp (maxDischargeDepth := 40) +contextual [*]

@[simp] theorem State.master_follows {s0 : State} (s : State) (on : Bool) (h : Safety.Follows s0 s) :
    Safety.Follows s0 (State.master s on) := by
  unfold State.master
  simp (maxDischargeDepth := 40) +contextual [*]

end Sys2Proof.Machine
end

