-- ==== Sys2Proof/Laws/Follows/Access.lean ====
section
/-!
SUPPORT. Safety.Follows for the commands that are host accesses (R5, R58), and for the accesses that waited through APPLYING.
-/

namespace Sys2Proof.Machine

theorem execProgramWrite_follows {s0 r : State} (e : Fin 32) (n : BitVec 12) (hi : Bool) (w : Word) (t : Nat) (s : State) (h : Safety.Follows s0 s)
    (e0 : execProgramWrite e n hi w t s = .next r) : Safety.Follows s0 r := by
  rw [execProgramWrite] at e0
  exact Host.Outcome.next.inj e0 ▸ by simp (maxDischargeDepth := 40) +contextual [h]

theorem execPointerConfigWrite_follows {s0 r : State} (by_ : Requester) (e : Fin 32) (p : Fin 8) (f : PtrField) (w : Word) (t : Nat) (s : State) (h : Safety.Follows s0 s)
    (e0 : execPointerConfigWrite by_ e p f w t s = .next r) : Safety.Follows s0 r := by
  rw [execPointerConfigWrite] at e0
  exact Host.Outcome.next.inj e0 ▸ by simp (maxDischargeDepth := 40) +contextual [h]

theorem execEngineStart_follows {s0 r : State} (e : Fin 32) (t : Nat) (s : State) (h : Safety.Follows s0 s)
    (e0 : execEngineStart e t s = .next r) : Safety.Follows s0 r := by
  rw [execEngineStart] at e0
  exact Host.Outcome.next.inj e0 ▸ by simp (maxDischargeDepth := 40) +contextual [h]

theorem execEngineArm_follows {s0 r : State} (e : Fin 32) (t : Nat) (s : State) (h : Safety.Follows s0 s)
    (e0 : execEngineArm e t s = .next r) : Safety.Follows s0 r := by
  rw [execEngineArm] at e0
  exact Host.Outcome.next.inj e0 ▸ by simp (maxDischargeDepth := 40) +contextual [h]

theorem execEngineStop_follows {s0 r : State} (e : Fin 32) (t : Nat) (s : State) (h : Safety.Follows s0 s)
    (e0 : execEngineStop e t s = .next r) : Safety.Follows s0 r := by
  rw [execEngineStop] at e0
  exact Host.Outcome.next.inj e0 ▸ by simp (maxDischargeDepth := 40) +contextual [h]

theorem execRecover_follows {s0 r : State} (e : Fin 32) (t : Nat) (s : State) (h : Safety.Follows s0 s)
    (e0 : execRecover e t s = .next r) : Safety.Follows s0 r := by
  rw [execRecover] at e0
  exact Host.Outcome.next.inj e0 ▸ by simp (maxDischargeDepth := 40) +contextual [h]

theorem execStageEntryWrite_follows {s0 r : State} (n : Fin 16) (field : Fin 3) (w : Word) (t : Nat) (s : State) (h : Safety.Follows s0 s)
    (e0 : execStageEntryWrite n field w t s = .next r) : Safety.Follows s0 r := by
  rw [execStageEntryWrite] at e0
  exact Host.Outcome.next.inj e0 ▸ by simp (maxDischargeDepth := 40) +contextual [h]

theorem execStageArm_follows {s0 r : State} (n : Fin 16) (t : Nat) (s : State) (h : Safety.Follows s0 s)
    (e0 : execStageArm n t s = .next r) : Safety.Follows s0 r := by
  rw [execStageArm] at e0
  exact Host.Outcome.next.inj e0 ▸ by simp (maxDischargeDepth := 40) +contextual [h]

theorem execStageCancel_follows {s0 r : State} (n : Fin 16) (t : Nat) (s : State) (h : Safety.Follows s0 s)
    (e0 : execStageCancel n t s = .next r) : Safety.Follows s0 r := by
  rw [execStageCancel] at e0
  exact Host.Outcome.next.inj e0 ▸ by simp (maxDischargeDepth := 40) +contextual [h]

theorem execShelfWrite_follows {s0 r : State} (by_ : Requester) (a : Addr) (w : Word) (t : Nat) (s : State) (h : Safety.Follows s0 s)
    (e0 : execShelfWrite by_ a w t s = .next r) : Safety.Follows s0 r := by
  rw [execShelfWrite] at e0
  rw [← Host.Outcome.next.inj e0]
  refine State.actsBy_follows _ _ _ _ (State.upTo_follows _ _ h) fun s h => ?_
  split <;> simp (maxDischargeDepth := 40) +contextual [h]

theorem execCommitNow_follows {s0 r : State} (g : Fin 32) (t : Nat) (s : State) (h : Safety.Follows s0 s)
    (e0 : execCommitNow g t s = .next r) : Safety.Follows s0 r := by
  rw [execCommitNow] at e0
  exact Host.Outcome.next.inj e0 ▸ by simp (maxDischargeDepth := 40) +contextual [h]

theorem execSchedule_follows {s0 r : State} (g : Fin 32) (t : Nat) (s : State) (h : Safety.Follows s0 s)
    (e0 : execSchedule g t s = .next r) : Safety.Follows s0 r := by
  rw [execSchedule] at e0
  exact Host.Outcome.next.inj e0 ▸ by simp (maxDischargeDepth := 40) +contextual [h]

theorem execCancel_follows {s0 r : State} (g : Fin 32) (t : Nat) (s : State) (h : Safety.Follows s0 s)
    (e0 : execCancel g t s = .next r) : Safety.Follows s0 r := by
  rw [execCancel] at e0
  exact Host.Outcome.next.inj e0 ▸ by simp (maxDischargeDepth := 40) +contextual [h]

theorem execRevert_follows {s0 r : State} (g : Fin 32) (t : Nat) (s : State) (h : Safety.Follows s0 s)
    (e0 : execRevert g t s = .next r) : Safety.Follows s0 r := by
  rw [execRevert] at e0
  exact Host.Outcome.next.inj e0 ▸ by simp (maxDischargeDepth := 40) +contextual [h]

theorem execMuteWrite_follows {s0 r : State} (n : Fin 35) (w : Word) (t : Nat) (s : State) (h : Safety.Follows s0 s)
    (e0 : execMuteWrite n w t s = .next r) : Safety.Follows s0 r := by
  rw [execMuteWrite] at e0
  exact Host.Outcome.next.inj e0 ▸ by simp (maxDischargeDepth := 40) +contextual [h]

theorem execFire_follows {s0 r : State} (n : Fin 8) (w : Word) (t : Nat) (s : State) (h : Safety.Follows s0 s)
    (e0 : execFire n w t s = .next r) : Safety.Follows s0 r := by
  rw [execFire] at e0
  exact Host.Outcome.next.inj e0 ▸ by simp (maxDischargeDepth := 40) +contextual [h]

theorem execTdmEnable_follows {s0 r : State} (p : Fin 16) (t : Nat) (s : State) (h : Safety.Follows s0 s)
    (e0 : execTdmEnable p t s = .next r) : Safety.Follows s0 r := by
  rw [execTdmEnable] at e0
  exact Host.Outcome.next.inj e0 ▸ by simp (maxDischargeDepth := 40) +contextual [h]

theorem execTdmDisable_follows {s0 r : State} (p : Fin 16) (t : Nat) (s : State) (h : Safety.Follows s0 s)
    (e0 : execTdmDisable p t s = .next r) : Safety.Follows s0 r := by
  rw [execTdmDisable] at e0
  exact Host.Outcome.next.inj e0 ▸ by simp (maxDischargeDepth := 40) +contextual [h]

theorem execMaskWrite_follows {s0 r : State} (p : Fin 16) (m : MaskName) (w : Word) (t : Nat) (s : State) (h : Safety.Follows s0 s)
    (e0 : execMaskWrite p m w t s = .next r) : Safety.Follows s0 r := by
  unfold execMaskWrite at e0
  exact Host.Outcome.next.inj e0 ▸ by simp (maxDischargeDepth := 40) +contextual [h]

theorem execStampRead_follows {s0 r : State} (by_ : Requester) (p : Fin 16) (t : Nat) (s : State) (h : Safety.Follows s0 s)
    (e0 : execStampRead by_ p t s = .next r) : Safety.Follows s0 r := by
  rw [execStampRead] at e0
  exact Host.Outcome.next.inj e0 ▸ by simp (maxDischargeDepth := 40) +contextual [h]

theorem execBprxEnable_follows {s0 r : State} (n : Fin 4) (t : Nat) (s : State) (h : Safety.Follows s0 s)
    (e0 : execBprxEnable n t s = .next r) : Safety.Follows s0 r := by
  rw [execBprxEnable] at e0
  exact Host.Outcome.next.inj e0 ▸ by simp (maxDischargeDepth := 40) +contextual [h]

theorem execBprxDisable_follows {s0 r : State} (n : Fin 4) (t : Nat) (s : State) (h : Safety.Follows s0 s)
    (e0 : execBprxDisable n t s = .next r) : Safety.Follows s0 r := by
  rw [execBprxDisable] at e0
  exact Host.Outcome.next.inj e0 ▸ by simp (maxDischargeDepth := 40) +contextual [h]

theorem execBptxEnable_follows {s0 r : State} (n : Fin 4) (t : Nat) (s : State) (h : Safety.Follows s0 s)
    (e0 : execBptxEnable n t s = .next r) : Safety.Follows s0 r := by
  rw [execBptxEnable] at e0
  exact Host.Outcome.next.inj e0 ▸ by simp (maxDischargeDepth := 40) +contextual [h]

theorem execBptxDisable_follows {s0 r : State} (n : Fin 4) (t : Nat) (s : State) (h : Safety.Follows s0 s)
    (e0 : execBptxDisable n t s = .next r) : Safety.Follows s0 r := by
  rw [execBptxDisable] at e0
  exact Host.Outcome.next.inj e0 ▸ by simp (maxDischargeDepth := 40) +contextual [h]

theorem execSwap_follows {s0 r : State} (n : Fin 4) (t : Nat) (s : State) (h : Safety.Follows s0 s)
    (e0 : execSwap n t s = .next r) : Safety.Follows s0 r := by
  rw [execSwap] at e0
  exact Host.Outcome.next.inj e0 ▸ by simp (maxDischargeDepth := 40) +contextual [h]

theorem execDcoCfgWrite_follows {s0 r : State} (w : Word) (t : Nat) (s : State) (h : Safety.Follows s0 s)
    (e0 : execDcoCfgWrite w t s = .next r) : Safety.Follows s0 r := by
  rw [execDcoCfgWrite] at e0
  exact Host.Outcome.next.inj e0 ▸ by simp (maxDischargeDepth := 40) +contextual [h]

theorem execClockSelectWrite_follows {s0 r : State} (c : ClockName) (w : Word) (t : Nat) (s : State) (h : Safety.Follows s0 s)
    (e0 : execClockSelectWrite c w t s = .next r) : Safety.Follows s0 r := by
  rw [execClockSelectWrite] at e0
  exact Host.Outcome.next.inj e0 ▸ by simp (maxDischargeDepth := 40) +contextual [h]

theorem execAlign_follows {s0 r : State} (t : Nat) (s : State) (h : Safety.Follows s0 s)
    (e0 : execAlign t s = .next r) : Safety.Follows s0 r := by
  rw [execAlign] at e0
  exact Host.Outcome.next.inj e0 ▸ by simp (maxDischargeDepth := 40) +contextual [h]

theorem execBeginFull_follows {s0 r : State} (t : Nat) (s : State) (h : Safety.Follows s0 s)
    (e0 : execBeginFull t s = .next r) : Safety.Follows s0 r := by
  rw [execBeginFull] at e0
  exact Host.Outcome.next.inj e0 ▸ by simp (maxDischargeDepth := 40) +contextual [h]

theorem execBeginPartial_follows {s0 r : State} (t : Nat) (s : State) (h : Safety.Follows s0 s)
    (e0 : execBeginPartial t s = .next r) : Safety.Follows s0 r := by
  rw [execBeginPartial] at e0
  exact Host.Outcome.next.inj e0 ▸ by simp (maxDischargeDepth := 40) +contextual [h]

theorem execAbort_follows {s0 r : State} (t : Nat) (s : State) (h : Safety.Follows s0 s)
    (e0 : execAbort t s = .next r) : Safety.Follows s0 r := by
  rw [execAbort] at e0
  exact Host.Outcome.next.inj e0 ▸ by simp (maxDischargeDepth := 40) +contextual [h]

theorem execRestart_follows {s0 r : State} (t : Nat) (s : State) (h : Safety.Follows s0 s)
    (e0 : execRestart t s = .next r) : Safety.Follows s0 r := by
  rw [execRestart] at e0
  exact Host.Outcome.next.inj e0 ▸ by simp (maxDischargeDepth := 40) +contextual [h]

theorem execImageStart_follows {s0 r : State} (t : Nat) (s : State) (h : Safety.Follows s0 s)
    (e0 : execImageStart t s = .next r) : Safety.Follows s0 r := by
  rw [execImageStart] at e0
  exact Host.Outcome.next.inj e0 ▸ by simp (maxDischargeDepth := 40) +contextual [h]

theorem execLoadWindowWrite_follows {s0 r : State} (w : Word) (t : Nat) (s : State) (h : Safety.Follows s0 s)
    (e0 : execLoadWindowWrite w t s = .next r) : Safety.Follows s0 r := by
  rw [execLoadWindowWrite] at e0
  exact Host.Outcome.next.inj e0 ▸ by simp (maxDischargeDepth := 40) +contextual [h]

theorem execChannelStart_follows {s0 r : State} (c : Fin 16) (t : Nat) (s : State) (h : Safety.Follows s0 s)
    (e0 : execChannelStart c t s = .next r) : Safety.Follows s0 r := by
  rw [execChannelStart] at e0
  exact Host.Outcome.next.inj e0 ▸ by simp (maxDischargeDepth := 40) +contextual [h]

theorem execChannelStop_follows {s0 r : State} (c : Fin 16) (t : Nat) (s : State) (h : Safety.Follows s0 s)
    (e0 : execChannelStop c t s = .next r) : Safety.Follows s0 r := by
  rw [execChannelStop] at e0
  exact Host.Outcome.next.inj e0 ▸ by simp (maxDischargeDepth := 40) +contextual [h]

theorem execStopAll_follows {s0 r : State} (t : Nat) (s : State) (h : Safety.Follows s0 s)
    (e0 : execStopAll t s = .next r) : Safety.Follows s0 r := by
  rw [execStopAll] at e0
  exact Host.Outcome.next.inj e0 ▸ by simp (maxDischargeDepth := 40) +contextual [h]

theorem execClearHalt_follows {s0 r : State} (t : Nat) (s : State) (h : Safety.Follows s0 s)
    (e0 : execClearHalt t s = .next r) : Safety.Follows s0 r := by
  rw [execClearHalt] at e0
  exact Host.Outcome.next.inj e0 ▸ by simp (maxDischargeDepth := 40) +contextual [h]

theorem execSeal_follows {s0 r : State} (burnOk : Bool) (t : Nat) (s : State) (h : Safety.Follows s0 s)
    (e0 : execSeal burnOk t s = .next r) : Safety.Follows s0 r := by
  rw [execSeal] at e0
  exact Host.Outcome.next.inj e0 ▸ by simp (maxDischargeDepth := 40) +contextual [h]

theorem execUnseal_follows {s0 r : State} (burnOk : Bool) (t : Nat) (s : State) (h : Safety.Follows s0 s)
    (e0 : execUnseal burnOk t s = .next r) : Safety.Follows s0 r := by
  rw [execUnseal] at e0
  exact Host.Outcome.next.inj e0 ▸ by simp (maxDischargeDepth := 40) +contextual [h]

theorem execDomainEnWrite_follows {s0 r : State} (w : Word) (t : Nat) (s : State) (h : Safety.Follows s0 s)
    (e0 : execDomainEnWrite w t s = .next r) : Safety.Follows s0 r := by
  rw [execDomainEnWrite] at e0
  exact Host.Outcome.next.inj e0 ▸ by simp (maxDischargeDepth := 40) +contextual [h]

theorem execSleep_follows {s0 r : State} (t : Nat) (s : State) (h : Safety.Follows s0 s)
    (e0 : execSleep t s = .next r) : Safety.Follows s0 r := by
  rw [execSleep] at e0
  exact Host.Outcome.next.inj e0 ▸ by simp (maxDischargeDepth := 40) +contextual [h]

theorem execDeepSleep_follows {s0 r : State} (t : Nat) (s : State) (h : Safety.Follows s0 s)
    (e0 : execDeepSleep t s = .next r) : Safety.Follows s0 r := by
  rw [execDeepSleep] at e0
  exact Host.Outcome.next.inj e0 ▸ by simp (maxDischargeDepth := 40) +contextual [h]

theorem execRun_follows {s0 r : State} (t : Nat) (s : State) (h : Safety.Follows s0 s)
    (e0 : execRun t s = .next r) : Safety.Follows s0 r := by
  rw [execRun] at e0
  exact Host.Outcome.next.inj e0 ▸ by simp (maxDischargeDepth := 40) +contextual [h]

theorem execDoorbell_follows {s0 r : State} (w : Word) (t : Nat) (s : State) (h : Safety.Follows s0 s)
    (e0 : execDoorbell w t s = .next r) : Safety.Follows s0 r := by
  rw [execDoorbell] at e0
  exact Host.Outcome.next.inj e0 ▸ by simp (maxDischargeDepth := 40) +contextual [h]

theorem execUnlock_follows {s0 r : State} (w : Word) (t : Nat) (s : State) (h : Safety.Follows s0 s)
    (e0 : execUnlock w t s = .next r) : Safety.Follows s0 r := by
  rw [execUnlock] at e0
  exact Host.Outcome.next.inj e0 ▸ by simp (maxDischargeDepth := 40) +contextual [h]

theorem execArbEng_follows {s0 r : State} (w : Word) (t : Nat) (s : State) (h : Safety.Follows s0 s)
    (e0 : execArbEng w t s = .next r) : Safety.Follows s0 r := by
  rw [execArbEng] at e0
  exact Host.Outcome.next.inj e0 ▸ by simp (maxDischargeDepth := 40) +contextual [h]

theorem execArbLower_follows {s0 r : State} (w : Word) (t : Nat) (s : State) (h : Safety.Follows s0 s)
    (e0 : execArbLower w t s = .next r) : Safety.Follows s0 r := by
  rw [execArbLower] at e0
  exact Host.Outcome.next.inj e0 ▸ by simp (maxDischargeDepth := 40) +contextual [h]

theorem execFarLat_follows {s0 r : State} (n : Fin 32) (w : Word) (t : Nat) (s : State) (h : Safety.Follows s0 s)
    (e0 : execFarLat n w t s = .next r) : Safety.Follows s0 r := by
  rw [execFarLat] at e0
  exact Host.Outcome.next.inj e0 ▸ by simp (maxDischargeDepth := 40) +contextual [h]

theorem execBp_follows {s0 r : State} (i : Fin 20) (w : Word) (t : Nat) (s : State) (h : Safety.Follows s0 s)
    (e0 : execBp i w t s = .next r) : Safety.Follows s0 r := by
  rw [execBp] at e0
  exact Host.Outcome.next.inj e0 ▸ by simp (maxDischargeDepth := 40) +contextual [h]

theorem execHostNotready_follows {s0 r : State} (w : Word) (t : Nat) (s : State) (h : Safety.Follows s0 s)
    (e0 : execHostNotready w t s = .next r) : Safety.Follows s0 r := by
  rw [execHostNotready] at e0
  exact Host.Outcome.next.inj e0 ▸ by simp (maxDischargeDepth := 40) +contextual [h]

theorem execTickShift_follows {s0 r : State} (w : Word) (t : Nat) (s : State) (h : Safety.Follows s0 s)
    (e0 : execTickShift w t s = .next r) : Safety.Follows s0 r := by
  rw [execTickShift] at e0
  exact Host.Outcome.next.inj e0 ▸ by simp (maxDischargeDepth := 40) +contextual [h]

theorem execTickSuppress_follows {s0 r : State} (w : Word) (t : Nat) (s : State) (h : Safety.Follows s0 s)
    (e0 : execTickSuppress w t s = .next r) : Safety.Follows s0 r := by
  rw [execTickSuppress] at e0
  exact Host.Outcome.next.inj e0 ▸ by simp (maxDischargeDepth := 40) +contextual [h]

theorem execDcoOffset_follows {s0 r : State} (w : Word) (t : Nat) (s : State) (h : Safety.Follows s0 s)
    (e0 : execDcoOffset w t s = .next r) : Safety.Follows s0 r := by
  rw [execDcoOffset] at e0
  exact Host.Outcome.next.inj e0 ▸ by simp (maxDischargeDepth := 40) +contextual [h]

theorem execDmaErr_follows {s0 r : State} (w : Word) (t : Nat) (s : State) (h : Safety.Follows s0 s)
    (e0 : execDmaErr w t s = .next r) : Safety.Follows s0 r := by
  rw [execDmaErr] at e0
  exact Host.Outcome.next.inj e0 ▸ by simp (maxDischargeDepth := 40) +contextual [h]

theorem execSlip_follows {s0 r : State} (w : Word) (t : Nat) (s : State) (h : Safety.Follows s0 s)
    (e0 : execSlip w t s = .next r) : Safety.Follows s0 r := by
  rw [execSlip] at e0
  exact Host.Outcome.next.inj e0 ▸ by simp (maxDischargeDepth := 40) +contextual [h]

theorem execLoop_follows {s0 r : State} (w : Word) (t : Nat) (s : State) (h : Safety.Follows s0 s)
    (e0 : execLoop w t s = .next r) : Safety.Follows s0 r := by
  rw [execLoop] at e0
  exact Host.Outcome.next.inj e0 ▸ by simp (maxDischargeDepth := 40) +contextual [h]

theorem execRegisterWrite_follows {s0 r : State} (by_ : Requester) (a : Addr) (w : Word) (t : Nat) (s : State) (h : Safety.Follows s0 s)
    (e0 : execRegisterWrite by_ a w t s = .next r) : Safety.Follows s0 r := by
  rw [execRegisterWrite] at e0
  exact Host.Outcome.next.inj e0 ▸ by simp (maxDischargeDepth := 40) +contextual [h]

theorem execRcRead_follows {s0 r : State} (by_ : Requester) (a : Addr) (coincident : Bool) (t : Nat) (s : State) (h : Safety.Follows s0 s)
    (e0 : execRcRead by_ a coincident t s = .next r) : Safety.Follows s0 r := by
  rw [execRcRead] at e0
  exact Host.Outcome.next.inj e0 ▸ by simp (maxDischargeDepth := 40) +contextual [h]

theorem execLatchingRead_follows {s0 r : State} (by_ : Requester) (a : Addr) (t : Nat) (s : State) (h : Safety.Follows s0 s)
    (e0 : execLatchingRead by_ a t s = .next r) : Safety.Follows s0 r := by
  rw [execLatchingRead] at e0
  exact Host.Outcome.next.inj e0 ▸ by simp (maxDischargeDepth := 40) +contextual [h]

theorem execWideWrite_follows {s0 r : State} (by_ : Requester) (a : Addr) (w : Word) (t : Nat) (s : State) (h : Safety.Follows s0 s)
    (e0 : execWideWrite by_ a w t s = .next r) : Safety.Follows s0 r := by
  rw [execWideWrite] at e0
  exact Host.Outcome.next.inj e0 ▸ by simp (maxDischargeDepth := 40) +contextual [h]

@[simp] theorem State.resume_follows {s0 : State} (s : State) (i : Instr) (h : Safety.Follows s0 s) :
    Safety.Follows s0 (s.resume i) := by
  have k : ∀ r, s.resumes i = .next r → Safety.Follows s0 r := by
    intro r e
    unfold State.resumes at e
    split at e
    · exact execRegisterWrite_follows _ _ _ _ _ h e
    · exact execRcRead_follows _ _ _ _ _ h e
    · exact execLatchingRead_follows _ _ _ _ h e
    · exact execWideWrite_follows _ _ _ _ _ h e
    · exact execProgramWrite_follows _ _ _ _ _ _ h e
    · exact execPointerConfigWrite_follows _ _ _ _ _ _ _ h e
    · exact execEngineStart_follows _ _ _ h e
    · exact execEngineArm_follows _ _ _ h e
    · exact execEngineStop_follows _ _ _ h e
    · exact execRecover_follows _ _ _ h e
    · exact execStageEntryWrite_follows _ _ _ _ _ h e
    · exact execStageArm_follows _ _ _ h e
    · exact execStageCancel_follows _ _ _ h e
    · exact execShelfWrite_follows _ _ _ _ _ h e
    · exact execCommitNow_follows _ _ _ h e
    · exact execSchedule_follows _ _ _ h e
    · exact execCancel_follows _ _ _ h e
    · exact execRevert_follows _ _ _ h e
    · exact execMuteWrite_follows _ _ _ _ h e
    · exact execFire_follows _ _ _ _ h e
    · exact execTdmEnable_follows _ _ _ h e
    · exact execTdmDisable_follows _ _ _ h e
    · exact execMaskWrite_follows _ _ _ _ _ h e
    · exact execStampRead_follows _ _ _ _ h e
    · exact execBprxEnable_follows _ _ _ h e
    · exact execBprxDisable_follows _ _ _ h e
    · exact execBptxEnable_follows _ _ _ h e
    · exact execBptxDisable_follows _ _ _ h e
    · exact execSwap_follows _ _ _ h e
    · exact execDcoCfgWrite_follows _ _ _ h e
    · exact execClockSelectWrite_follows _ _ _ _ h e
    · exact execAlign_follows _ _ h e
    · exact execBeginFull_follows _ _ h e
    · exact execBeginPartial_follows _ _ h e
    · exact execAbort_follows _ _ h e
    · exact execRestart_follows _ _ h e
    · exact execImageStart_follows _ _ h e
    · exact execLoadWindowWrite_follows _ _ _ h e
    · exact execChannelStart_follows _ _ _ h e
    · exact execChannelStop_follows _ _ _ h e
    · exact execStopAll_follows _ _ h e
    · exact execClearHalt_follows _ _ h e
    · exact execSeal_follows _ _ _ h e
    · exact execUnseal_follows _ _ _ h e
    · exact execDomainEnWrite_follows _ _ _ h e
    · exact execSleep_follows _ _ h e
    · exact execDeepSleep_follows _ _ h e
    · exact execRun_follows _ _ h e
    · exact execDoorbell_follows _ _ _ h e
    · exact execUnlock_follows _ _ _ h e
    · exact execArbEng_follows _ _ _ h e
    · exact execArbLower_follows _ _ _ h e
    · exact execFarLat_follows _ _ _ _ h e
    · exact execBp_follows _ _ _ _ h e
    · exact execHostNotready_follows _ _ _ h e
    · exact execTickShift_follows _ _ _ h e
    · exact execTickSuppress_follows _ _ _ h e
    · exact execDcoOffset_follows _ _ _ h e
    · exact execDmaErr_follows _ _ _ h e
    · exact execSlip_follows _ _ _ h e
    · exact execLoop_follows _ _ _ h e
    · exact Host.Outcome.next.inj e ▸ h
  unfold State.resume
  split
  · exact k _ ‹_›
  · exact h

@[simp] theorem State.waitEnds_follows {s0 : State} (s : State) (h : Safety.Follows s0 s) : Safety.Follows s0 s.waitEnds := by
  exact State.each_follows _ _ _ ⟨h.pending, h.now, h.uid, h.mem⟩ fun s i hs => State.resume_follows s i hs

end Sys2Proof.Machine
end

