-- ==== Sys2Proof/Laws/Follows/EngineArith.lean ====
section
/-!
SUPPORT. Safety.Follows for the operations of Machine/EngineArith.lean.
-/

namespace Sys2Proof.Machine

@[simp] theorem State.accWrite_follows {s0 : State} (s : State) (e n : Nat) (r : AccResult) (h : Safety.Follows s0 s) :
    Safety.Follows s0 (State.accWrite s e n r) := by
  unfold State.accWrite
  simp (maxDischargeDepth := 40) +contextual [*]

@[simp] theorem State.dWrite_follows {s0 : State} (s : State) (e n : Nat) (r : DResult) (h : Safety.Follows s0 s) :
    Safety.Follows s0 (State.dWrite s e n r) := by
  unfold State.dWrite
  simp (maxDischargeDepth := 40) +contextual [*]

@[simp] theorem State.mulAcc_follows {s0 : State} (s : State) (e n : Nat) (w : BitVec 64) (p : Int) (h : Safety.Follows s0 s) :
    Safety.Follows s0 (State.mulAcc s e n w p) := by
  unfold State.mulAcc
  simp (maxDischargeDepth := 40) +contextual [*]

@[simp] theorem State.doMac_follows {s0 : State} (s : State) (e : Nat) (w : BitVec 64) (h : Safety.Follows s0 s) :
    Safety.Follows s0 (State.doMac s e w) := by
  unfold State.doMac
  simp (maxDischargeDepth := 40) +contextual [*]

@[simp] theorem State.doDmac_follows {s0 : State} (s : State) (e : Nat) (w : BitVec 64) (h : Safety.Follows s0 s) :
    Safety.Follows s0 (State.doDmac s e w) := by
  unfold State.doDmac
  simp (maxDischargeDepth := 40) +contextual [*]

@[simp] theorem State.doCmac_follows {s0 : State} (s : State) (e : Nat) (w : BitVec 64) (h : Safety.Follows s0 s) :
    Safety.Follows s0 (State.doCmac s e w) := by
  unfold State.doCmac
  simp (maxDischargeDepth := 40) +contextual [*]

@[simp] theorem State.doAdda_follows {s0 : State} (s : State) (e : Nat) (w : BitVec 64) (h : Safety.Follows s0 s) :
    Safety.Follows s0 (State.doAdda s e w) := by
  unfold State.doAdda
  simp (maxDischargeDepth := 40) +contextual [*]

@[simp] theorem State.accFrom_follows {s0 : State} (s : State) (e : Nat) (w : BitVec 64) (negative : Bool) (v : Int) (h : Safety.Follows s0 s) :
    Safety.Follows s0 (State.accFrom s e w negative v) := by
  unfold State.accFrom
  simp (maxDischargeDepth := 40) +contextual [*]

@[simp] theorem State.doMova_follows {s0 : State} (s : State) (e : Nat) (w : BitVec 64) (h : Safety.Follows s0 s) :
    Safety.Follows s0 (State.doMova s e w) := by
  unfold State.doMova
  simp (maxDischargeDepth := 40) +contextual [*]

@[simp] theorem State.doAbsa_follows {s0 : State} (s : State) (e : Nat) (w : BitVec 64) (h : Safety.Follows s0 s) :
    Safety.Follows s0 (State.doAbsa s e w) := by
  unfold State.doAbsa
  simp (maxDischargeDepth := 40) +contextual [*]

@[simp] theorem State.doAsh_follows {s0 : State} (s : State) (e : Nat) (w : BitVec 64) (h : Safety.Follows s0 s) :
    Safety.Follows s0 (State.doAsh s e w) := by
  unfold State.doAsh
  simp (maxDischargeDepth := 40) +contextual [*]

@[simp] theorem State.doAddd_follows {s0 : State} (s : State) (e : Nat) (w : BitVec 64) (minus : Bool) (h : Safety.Follows s0 s) :
    Safety.Follows s0 (State.doAddd s e w minus) := by
  unfold State.doAddd
  simp (maxDischargeDepth := 40) +contextual [*]

@[simp] theorem State.doRound_follows {s0 : State} (s : State) (e a z : Nat) (w : BitVec 64) (h : Safety.Follows s0 s) :
    Safety.Follows s0 (State.doRound s e a z w) := by
  unfold State.doRound
  simp (maxDischargeDepth := 40) +contextual [*]

@[simp] theorem State.doFlags_follows {s0 : State} (s : State) (e : Nat) (x y : Int) (h : Safety.Follows s0 s) :
    Safety.Follows s0 (State.doFlags s e x y) := by
  unfold State.doFlags
  simp (maxDischargeDepth := 40) +contextual [*]

end Sys2Proof.Machine
end

