-- ==== Sys2Proof/Laws/Follows/EngineMove.lean ====
section
/-!
SUPPORT. Safety.Follows for the operations of Machine/EngineMove.lean.
-/

namespace Sys2Proof.Machine

@[simp] theorem State.moveParity_follows {s0 : State} (s : State) (e : Nat) (u : MoveUnit) (a : Nat) (h : Safety.Follows s0 s) :
    Safety.Follows s0 (State.moveParity s e u a) := by
  unfold State.moveParity
  split <;> simp (maxDischargeDepth := 40) +contextual [*]

@[simp] theorem State.moveUpdate_follows {s0 : State} (s : State) (e : Nat) (w : BitVec 64) (u : MoveUnit) (h : Safety.Follows s0 s) :
    Safety.Follows s0 (State.moveUpdate s e w u) := by
  unfold State.moveUpdate
  simp (maxDischargeDepth := 40) +contextual [*]

@[simp] theorem State.moveLater_follows {s0 : State} (s : State) (e : Nat) (u : MoveUnit) (n : Nat) (v : Word) (h : Safety.Follows s0 s) :
    Safety.Follows s0 (State.moveLater s e u n v) := by
  unfold State.moveLater
  simp (maxDischargeDepth := 40) +contextual [*]

@[simp] theorem State.doLd_follows {s0 : State} (s : State) (e : Nat) (u : MoveUnit) (w : BitVec 64) (h : Safety.Follows s0 s) :
    Safety.Follows s0 (State.doLd s e u w) := by
  unfold State.doLd
  simp (maxDischargeDepth := 40) +contextual [*]

@[simp] theorem State.doLdc_follows {s0 : State} (s : State) (e : Nat) (u : MoveUnit) (w : BitVec 64) (h : Safety.Follows s0 s) :
    Safety.Follows s0 (State.doLdc s e u w) := by
  unfold State.doLdc
  simp (maxDischargeDepth := 40) +contextual [*]

@[simp] theorem State.doSt_follows {s0 : State} (s : State) (e : Nat) (w : BitVec 64) (h : Safety.Follows s0 s) :
    Safety.Follows s0 (State.doSt s e w) := by
  unfold State.doSt
  simp (maxDischargeDepth := 40) +contextual [*]

@[simp] theorem State.doStc_follows {s0 : State} (s : State) (e : Nat) (w : BitVec 64) (h : Safety.Follows s0 s) :
    Safety.Follows s0 (State.doStc s e w) := by
  unfold State.doStc
  simp (maxDischargeDepth := 40) +contextual [*]

@[simp] theorem State.doSetp_follows {s0 : State} (s : State) (e : Nat) (u : MoveUnit) (w : BitVec 64) (h : Safety.Follows s0 s) :
    Safety.Follows s0 (State.doSetp s e u w) := by
  unfold State.doSetp
  simp (maxDischargeDepth := 40) +contextual [*]

@[simp] theorem State.doGetp_follows {s0 : State} (s : State) (e : Nat) (u : MoveUnit) (w : BitVec 64) (h : Safety.Follows s0 s) :
    Safety.Follows s0 (State.doGetp s e u w) := by
  unfold State.doGetp
  simp (maxDischargeDepth := 40) +contextual [*]

end Sys2Proof.Machine
end

