-- ==== Sys2Proof/Laws/Follows/Tap.lean ====
section
/-!
SUPPORT. Safety.Follows for the operations of Machine/Tap.lean.
-/

namespace Sys2Proof.Machine

end Sys2Proof.Machine
end

