-- ==== Sys2Proof/Laws/State.lean ====
section
/-!
SUPPORT. One lemma for each field of State and each update of Ops: the field it writes, and every other as it was.
-/

namespace Sys2Proof.Machine

variable (s : State)

@[simp] theorem State.clockTo_pending (t : Nat) : (s.clockTo t).pending = s.pending := rfl
@[simp] theorem State.clockTo_now (t : Nat) : (s.clockTo t).now = max s.now t := rfl
@[simp] theorem State.clockTo_resetAt (t : Nat) : (s.clockTo t).resetAt = s.resetAt := rfl
@[simp] theorem State.clockTo_xcycles (t : Nat) : (s.clockTo t).xcycles = s.xcycles := rfl
@[simp] theorem State.clockTo_silent (t : Nat) : (s.clockTo t).silent = s.silent := rfl
@[simp] theorem State.clockTo_regs (t : Nat) : (s.clockTo t).regs = s.regs := rfl
@[simp] theorem State.clockTo_mem (t : Nat) : (s.clockTo t).mem = s.mem := rfl
@[simp] theorem State.clockTo_parityBad (t : Nat) : (s.clockTo t).parityBad = s.parityBad := rfl
@[simp] theorem State.clockTo_storeEpoch (t : Nat) : (s.clockTo t).storeEpoch = s.storeEpoch := rfl
@[simp] theorem State.clockTo_eventSet (t : Nat) : (s.clockTo t).eventSet = s.eventSet := rfl
@[simp] theorem State.clockTo_heldWrites (t : Nat) : (s.clockTo t).heldWrites = s.heldWrites := rfl
@[simp] theorem State.clockTo_waiting (t : Nat) : (s.clockTo t).waiting = s.waiting := rfl
@[simp] theorem State.clockTo_drawn (t : Nat) : (s.clockTo t).drawn = s.drawn := rfl
@[simp] theorem State.clockTo_hostLatch (t : Nat) : (s.clockTo t).hostLatch = s.hostLatch := rfl
@[simp] theorem State.clockTo_coreLatch (t : Nat) : (s.clockTo t).coreLatch = s.coreLatch := rfl
@[simp] theorem State.clockTo_writeLatch (t : Nat) : (s.clockTo t).writeLatch = s.writeLatch := rfl
@[simp] theorem State.clockTo_readData (t : Nat) : (s.clockTo t).readData = s.readData := rfl
@[simp] theorem State.clockTo_engines (t : Nat) : (s.clockTo t).engines = s.engines := rfl
@[simp] theorem State.clockTo_timebases (t : Nat) : (s.clockTo t).timebases = s.timebases := rfl
@[simp] theorem State.clockTo_tickCount (t : Nat) : (s.clockTo t).tickCount = s.tickCount := rfl
@[simp] theorem State.clockTo_alignAt (t : Nat) : (s.clockTo t).alignAt = s.alignAt := rfl
@[simp] theorem State.clockTo_groups (t : Nat) : (s.clockTo t).groups = s.groups := rfl
@[simp] theorem State.clockTo_stages (t : Nat) : (s.clockTo t).stages = s.stages := rfl
@[simp] theorem State.clockTo_router (t : Nat) : (s.clockTo t).router = s.router := rfl
@[simp] theorem State.clockTo_ports (t : Nat) : (s.clockTo t).ports = s.ports := rfl
@[simp] theorem State.clockTo_bprx (t : Nat) : (s.clockTo t).bprx = s.bprx := rfl
@[simp] theorem State.clockTo_bptx (t : Nat) : (s.clockTo t).bptx = s.bptx := rfl
@[simp] theorem State.clockTo_clocks (t : Nat) : (s.clockTo t).clocks = s.clocks := rfl
@[simp] theorem State.clockTo_host (t : Nat) : (s.clockTo t).host = s.host := rfl
@[simp] theorem State.clockTo_loader (t : Nat) : (s.clockTo t).loader = s.loader := rfl
@[simp] theorem State.clockTo_dma (t : Nat) : (s.clockTo t).dma = s.dma := rfl
@[simp] theorem State.clockTo_meter (t : Nat) : (s.clockTo t).meter = s.meter := rfl
@[simp] theorem State.clockTo_power (t : Nat) : (s.clockTo t).power = s.power := rfl
@[simp] theorem State.clockTo_core (t : Nat) : (s.clockTo t).core = s.core := rfl
@[simp] theorem State.clockTo_gpio (t : Nat) : (s.clockTo t).gpio = s.gpio := rfl
@[simp] theorem State.clockTo_perturb (t : Nat) : (s.clockTo t).perturb = s.perturb := rfl
@[simp] theorem State.clockTo_tap (t : Nat) : (s.clockTo t).tap = s.tap := rfl
@[simp] theorem State.clockTo_provoked (t : Nat) : (s.clockTo t).provoked = s.provoked := rfl
@[simp] theorem State.clockTo_straps (t : Nat) : (s.clockTo t).straps = s.straps := rfl
@[simp] theorem State.clockTo_uid (t : Nat) : (s.clockTo t).uid = s.uid := rfl

@[simp] theorem State.setReg_pending (a : Nat) (w : Word) : (s.setReg a w).pending = s.pending := rfl
@[simp] theorem State.setReg_now (a : Nat) (w : Word) : (s.setReg a w).now = s.now := rfl
@[simp] theorem State.setReg_resetAt (a : Nat) (w : Word) : (s.setReg a w).resetAt = s.resetAt := rfl
@[simp] theorem State.setReg_xcycles (a : Nat) (w : Word) : (s.setReg a w).xcycles = s.xcycles := rfl
@[simp] theorem State.setReg_silent (a : Nat) (w : Word) : (s.setReg a w).silent = s.silent := rfl
@[simp] theorem State.setReg_regs (a : Nat) (w : Word) : (s.setReg a w).regs = put (resetWord a) s.regs a w := rfl
@[simp] theorem State.setReg_mem (a : Nat) (w : Word) : (s.setReg a w).mem = s.mem := rfl
@[simp] theorem State.setReg_parityBad (a : Nat) (w : Word) : (s.setReg a w).parityBad = s.parityBad := rfl
@[simp] theorem State.setReg_storeEpoch (a : Nat) (w : Word) : (s.setReg a w).storeEpoch = s.storeEpoch := rfl
@[simp] theorem State.setReg_eventSet (a : Nat) (w : Word) : (s.setReg a w).eventSet = s.eventSet := rfl
@[simp] theorem State.setReg_heldWrites (a : Nat) (w : Word) : (s.setReg a w).heldWrites = s.heldWrites := rfl
@[simp] theorem State.setReg_waiting (a : Nat) (w : Word) : (s.setReg a w).waiting = s.waiting := rfl
@[simp] theorem State.setReg_drawn (a : Nat) (w : Word) : (s.setReg a w).drawn = s.drawn := rfl
@[simp] theorem State.setReg_hostLatch (a : Nat) (w : Word) : (s.setReg a w).hostLatch = s.hostLatch := rfl
@[simp] theorem State.setReg_coreLatch (a : Nat) (w : Word) : (s.setReg a w).coreLatch = s.coreLatch := rfl
@[simp] theorem State.setReg_writeLatch (a : Nat) (w : Word) : (s.setReg a w).writeLatch = s.writeLatch := rfl
@[simp] theorem State.setReg_readData (a : Nat) (w : Word) : (s.setReg a w).readData = s.readData := rfl
@[simp] theorem State.setReg_engines (a : Nat) (w : Word) : (s.setReg a w).engines = s.engines := rfl
@[simp] theorem State.setReg_timebases (a : Nat) (w : Word) : (s.setReg a w).timebases = s.timebases := rfl
@[simp] theorem State.setReg_tickCount (a : Nat) (w : Word) : (s.setReg a w).tickCount = s.tickCount := rfl
@[simp] theorem State.setReg_alignAt (a : Nat) (w : Word) : (s.setReg a w).alignAt = s.alignAt := rfl
@[simp] theorem State.setReg_groups (a : Nat) (w : Word) : (s.setReg a w).groups = s.groups := rfl
@[simp] theorem State.setReg_stages (a : Nat) (w : Word) : (s.setReg a w).stages = s.stages := rfl
@[simp] theorem State.setReg_router (a : Nat) (w : Word) : (s.setReg a w).router = s.router := rfl
@[simp] theorem State.setReg_ports (a : Nat) (w : Word) : (s.setReg a w).ports = s.ports := rfl
@[simp] theorem State.setReg_bprx (a : Nat) (w : Word) : (s.setReg a w).bprx = s.bprx := rfl
@[simp] theorem State.setReg_bptx (a : Nat) (w : Word) : (s.setReg a w).bptx = s.bptx := rfl
@[simp] theorem State.setReg_clocks (a : Nat) (w : Word) : (s.setReg a w).clocks = s.clocks := rfl
@[simp] theorem State.setReg_host (a : Nat) (w : Word) : (s.setReg a w).host = s.host := rfl
@[simp] theorem State.setReg_loader (a : Nat) (w : Word) : (s.setReg a w).loader = s.loader := rfl
@[simp] theorem State.setReg_dma (a : Nat) (w : Word) : (s.setReg a w).dma = s.dma := rfl
@[simp] theorem State.setReg_meter (a : Nat) (w : Word) : (s.setReg a w).meter = s.meter := rfl
@[simp] theorem State.setReg_power (a : Nat) (w : Word) : (s.setReg a w).power = s.power := rfl
@[simp] theorem State.setReg_core (a : Nat) (w : Word) : (s.setReg a w).core = s.core := rfl
@[simp] theorem State.setReg_gpio (a : Nat) (w : Word) : (s.setReg a w).gpio = s.gpio := rfl
@[simp] theorem State.setReg_perturb (a : Nat) (w : Word) : (s.setReg a w).perturb = s.perturb := rfl
@[simp] theorem State.setReg_tap (a : Nat) (w : Word) : (s.setReg a w).tap = s.tap := rfl
@[simp] theorem State.setReg_provoked (a : Nat) (w : Word) : (s.setReg a w).provoked = s.provoked := rfl
@[simp] theorem State.setReg_straps (a : Nat) (w : Word) : (s.setReg a w).straps = s.straps := rfl
@[simp] theorem State.setReg_uid (a : Nat) (w : Word) : (s.setReg a w).uid = s.uid := rfl

@[simp] theorem State.setByte_pending (a : Nat) (b : Byte) : (s.setByte a b).pending = s.pending := rfl
@[simp] theorem State.setByte_now (a : Nat) (b : Byte) : (s.setByte a b).now = s.now := rfl
@[simp] theorem State.setByte_resetAt (a : Nat) (b : Byte) : (s.setByte a b).resetAt = s.resetAt := rfl
@[simp] theorem State.setByte_xcycles (a : Nat) (b : Byte) : (s.setByte a b).xcycles = s.xcycles := rfl
@[simp] theorem State.setByte_silent (a : Nat) (b : Byte) : (s.setByte a b).silent = s.silent := rfl
@[simp] theorem State.setByte_regs (a : Nat) (b : Byte) : (s.setByte a b).regs = s.regs := rfl
@[simp] theorem State.setByte_mem (a : Nat) (b : Byte) : (s.setByte a b).mem = put 0 s.mem a b := rfl
@[simp] theorem State.setByte_parityBad (a : Nat) (b : Byte) : (s.setByte a b).parityBad = s.parityBad := rfl
@[simp] theorem State.setByte_storeEpoch (a : Nat) (b : Byte) : (s.setByte a b).storeEpoch = s.storeEpoch := rfl
@[simp] theorem State.setByte_eventSet (a : Nat) (b : Byte) : (s.setByte a b).eventSet = s.eventSet := rfl
@[simp] theorem State.setByte_heldWrites (a : Nat) (b : Byte) : (s.setByte a b).heldWrites = s.heldWrites := rfl
@[simp] theorem State.setByte_waiting (a : Nat) (b : Byte) : (s.setByte a b).waiting = s.waiting := rfl
@[simp] theorem State.setByte_drawn (a : Nat) (b : Byte) : (s.setByte a b).drawn = s.drawn := rfl
@[simp] theorem State.setByte_hostLatch (a : Nat) (b : Byte) : (s.setByte a b).hostLatch = s.hostLatch := rfl
@[simp] theorem State.setByte_coreLatch (a : Nat) (b : Byte) : (s.setByte a b).coreLatch = s.coreLatch := rfl
@[simp] theorem State.setByte_writeLatch (a : Nat) (b : Byte) : (s.setByte a b).writeLatch = s.writeLatch := rfl
@[simp] theorem State.setByte_readData (a : Nat) (b : Byte) : (s.setByte a b).readData = s.readData := rfl
@[simp] theorem State.setByte_engines (a : Nat) (b : Byte) : (s.setByte a b).engines = s.engines := rfl
@[simp] theorem State.setByte_timebases (a : Nat) (b : Byte) : (s.setByte a b).timebases = s.timebases := rfl
@[simp] theorem State.setByte_tickCount (a : Nat) (b : Byte) : (s.setByte a b).tickCount = s.tickCount := rfl
@[simp] theorem State.setByte_alignAt (a : Nat) (b : Byte) : (s.setByte a b).alignAt = s.alignAt := rfl
@[simp] theorem State.setByte_groups (a : Nat) (b : Byte) : (s.setByte a b).groups = s.groups := rfl
@[simp] theorem State.setByte_stages (a : Nat) (b : Byte) : (s.setByte a b).stages = s.stages := rfl
@[simp] theorem State.setByte_router (a : Nat) (b : Byte) : (s.setByte a b).router = s.router := rfl
@[simp] theorem State.setByte_ports (a : Nat) (b : Byte) : (s.setByte a b).ports = s.ports := rfl
@[simp] theorem State.setByte_bprx (a : Nat) (b : Byte) : (s.setByte a b).bprx = s.bprx := rfl
@[simp] theorem State.setByte_bptx (a : Nat) (b : Byte) : (s.setByte a b).bptx = s.bptx := rfl
@[simp] theorem State.setByte_clocks (a : Nat) (b : Byte) : (s.setByte a b).clocks = s.clocks := rfl
@[simp] theorem State.setByte_host (a : Nat) (b : Byte) : (s.setByte a b).host = s.host := rfl
@[simp] theorem State.setByte_loader (a : Nat) (b : Byte) : (s.setByte a b).loader = s.loader := rfl
@[simp] theorem State.setByte_dma (a : Nat) (b : Byte) : (s.setByte a b).dma = s.dma := rfl
@[simp] theorem State.setByte_meter (a : Nat) (b : Byte) : (s.setByte a b).meter = s.meter := rfl
@[simp] theorem State.setByte_power (a : Nat) (b : Byte) : (s.setByte a b).power = s.power := rfl
@[simp] theorem State.setByte_core (a : Nat) (b : Byte) : (s.setByte a b).core = s.core := rfl
@[simp] theorem State.setByte_gpio (a : Nat) (b : Byte) : (s.setByte a b).gpio = s.gpio := rfl
@[simp] theorem State.setByte_perturb (a : Nat) (b : Byte) : (s.setByte a b).perturb = s.perturb := rfl
@[simp] theorem State.setByte_tap (a : Nat) (b : Byte) : (s.setByte a b).tap = s.tap := rfl
@[simp] theorem State.setByte_provoked (a : Nat) (b : Byte) : (s.setByte a b).provoked = s.provoked := rfl
@[simp] theorem State.setByte_straps (a : Nat) (b : Byte) : (s.setByte a b).straps = s.straps := rfl
@[simp] theorem State.setByte_uid (a : Nat) (b : Byte) : (s.setByte a b).uid = s.uid := rfl

@[simp] theorem State.setWord_pending (a : Nat) (w : Word) : (s.setWord a w).pending = s.pending := by simp only [State.setWord, State.setByte_pending]
@[simp] theorem State.setWord_now (a : Nat) (w : Word) : (s.setWord a w).now = s.now := by simp only [State.setWord, State.setByte_now]
@[simp] theorem State.setWord_resetAt (a : Nat) (w : Word) : (s.setWord a w).resetAt = s.resetAt := by simp only [State.setWord, State.setByte_resetAt]
@[simp] theorem State.setWord_xcycles (a : Nat) (w : Word) : (s.setWord a w).xcycles = s.xcycles := by simp only [State.setWord, State.setByte_xcycles]
@[simp] theorem State.setWord_silent (a : Nat) (w : Word) : (s.setWord a w).silent = s.silent := by simp only [State.setWord, State.setByte_silent]
@[simp] theorem State.setWord_regs (a : Nat) (w : Word) : (s.setWord a w).regs = s.regs := by simp only [State.setWord, State.setByte_regs]
@[simp] theorem State.setWord_parityBad (a : Nat) (w : Word) : (s.setWord a w).parityBad = s.parityBad := by simp only [State.setWord, State.setByte_parityBad]
@[simp] theorem State.setWord_storeEpoch (a : Nat) (w : Word) : (s.setWord a w).storeEpoch = s.storeEpoch := by simp only [State.setWord, State.setByte_storeEpoch]
@[simp] theorem State.setWord_eventSet (a : Nat) (w : Word) : (s.setWord a w).eventSet = s.eventSet := by simp only [State.setWord, State.setByte_eventSet]
@[simp] theorem State.setWord_heldWrites (a : Nat) (w : Word) : (s.setWord a w).heldWrites = s.heldWrites := by simp only [State.setWord, State.setByte_heldWrites]
@[simp] theorem State.setWord_waiting (a : Nat) (w : Word) : (s.setWord a w).waiting = s.waiting := by simp only [State.setWord, State.setByte_waiting]
@[simp] theorem State.setWord_drawn (a : Nat) (w : Word) : (s.setWord a w).drawn = s.drawn := by simp only [State.setWord, State.setByte_drawn]
@[simp] theorem State.setWord_hostLatch (a : Nat) (w : Word) : (s.setWord a w).hostLatch = s.hostLatch := by simp only [State.setWord, State.setByte_hostLatch]
@[simp] theorem State.setWord_coreLatch (a : Nat) (w : Word) : (s.setWord a w).coreLatch = s.coreLatch := by simp only [State.setWord, State.setByte_coreLatch]
@[simp] theorem State.setWord_writeLatch (a : Nat) (w : Word) : (s.setWord a w).writeLatch = s.writeLatch := by simp only [State.setWord, State.setByte_writeLatch]
@[simp] theorem State.setWord_readData (a : Nat) (w : Word) : (s.setWord a w).readData = s.readData := by simp only [State.setWord, State.setByte_readData]
@[simp] theorem State.setWord_engines (a : Nat) (w : Word) : (s.setWord a w).engines = s.engines := by simp only [State.setWord, State.setByte_engines]
@[simp] theorem State.setWord_timebases (a : Nat) (w : Word) : (s.setWord a w).timebases = s.timebases := by simp only [State.setWord, State.setByte_timebases]
@[simp] theorem State.setWord_tickCount (a : Nat) (w : Word) : (s.setWord a w).tickCount = s.tickCount := by simp only [State.setWord, State.setByte_tickCount]
@[simp] theorem State.setWord_alignAt (a : Nat) (w : Word) : (s.setWord a w).alignAt = s.alignAt := by simp only [State.setWord, State.setByte_alignAt]
@[simp] theorem State.setWord_groups (a : Nat) (w : Word) : (s.setWord a w).groups = s.groups := by simp only [State.setWord, State.setByte_groups]
@[simp] theorem State.setWord_stages (a : Nat) (w : Word) : (s.setWord a w).stages = s.stages := by simp only [State.setWord, State.setByte_stages]
@[simp] theorem State.setWord_router (a : Nat) (w : Word) : (s.setWord a w).router = s.router := by simp only [State.setWord, State.setByte_router]
@[simp] theorem State.setWord_ports (a : Nat) (w : Word) : (s.setWord a w).ports = s.ports := by simp only [State.setWord, State.setByte_ports]
@[simp] theorem State.setWord_bprx (a : Nat) (w : Word) : (s.setWord a w).bprx = s.bprx := by simp only [State.setWord, State.setByte_bprx]
@[simp] theorem State.setWord_bptx (a : Nat) (w : Word) : (s.setWord a w).bptx = s.bptx := by simp only [State.setWord, State.setByte_bptx]
@[simp] theorem State.setWord_clocks (a : Nat) (w : Word) : (s.setWord a w).clocks = s.clocks := by simp only [State.setWord, State.setByte_clocks]
@[simp] theorem State.setWord_host (a : Nat) (w : Word) : (s.setWord a w).host = s.host := by simp only [State.setWord, State.setByte_host]
@[simp] theorem State.setWord_loader (a : Nat) (w : Word) : (s.setWord a w).loader = s.loader := by simp only [State.setWord, State.setByte_loader]
@[simp] theorem State.setWord_dma (a : Nat) (w : Word) : (s.setWord a w).dma = s.dma := by simp only [State.setWord, State.setByte_dma]
@[simp] theorem State.setWord_meter (a : Nat) (w : Word) : (s.setWord a w).meter = s.meter := by simp only [State.setWord, State.setByte_meter]
@[simp] theorem State.setWord_power (a : Nat) (w : Word) : (s.setWord a w).power = s.power := by simp only [State.setWord, State.setByte_power]
@[simp] theorem State.setWord_core (a : Nat) (w : Word) : (s.setWord a w).core = s.core := by simp only [State.setWord, State.setByte_core]
@[simp] theorem State.setWord_gpio (a : Nat) (w : Word) : (s.setWord a w).gpio = s.gpio := by simp only [State.setWord, State.setByte_gpio]
@[simp] theorem State.setWord_perturb (a : Nat) (w : Word) : (s.setWord a w).perturb = s.perturb := by simp only [State.setWord, State.setByte_perturb]
@[simp] theorem State.setWord_tap (a : Nat) (w : Word) : (s.setWord a w).tap = s.tap := by simp only [State.setWord, State.setByte_tap]
@[simp] theorem State.setWord_provoked (a : Nat) (w : Word) : (s.setWord a w).provoked = s.provoked := by simp only [State.setWord, State.setByte_provoked]
@[simp] theorem State.setWord_straps (a : Nat) (w : Word) : (s.setWord a w).straps = s.straps := by simp only [State.setWord, State.setByte_straps]
@[simp] theorem State.setWord_uid (a : Nat) (w : Word) : (s.setWord a w).uid = s.uid := by simp only [State.setWord, State.setByte_uid]

@[simp] theorem State.clearMem_pending (lo hi : Nat) : (s.clearMem lo hi).pending = s.pending := rfl
@[simp] theorem State.clearMem_now (lo hi : Nat) : (s.clearMem lo hi).now = s.now := rfl
@[simp] theorem State.clearMem_resetAt (lo hi : Nat) : (s.clearMem lo hi).resetAt = s.resetAt := rfl
@[simp] theorem State.clearMem_xcycles (lo hi : Nat) : (s.clearMem lo hi).xcycles = s.xcycles := rfl
@[simp] theorem State.clearMem_silent (lo hi : Nat) : (s.clearMem lo hi).silent = s.silent := rfl
@[simp] theorem State.clearMem_regs (lo hi : Nat) : (s.clearMem lo hi).regs = s.regs := rfl
@[simp] theorem State.clearMem_mem (lo hi : Nat) : (s.clearMem lo hi).mem = delRange s.mem lo hi := rfl
@[simp] theorem State.clearMem_parityBad (lo hi : Nat) : (s.clearMem lo hi).parityBad = s.parityBad := rfl
@[simp] theorem State.clearMem_storeEpoch (lo hi : Nat) : (s.clearMem lo hi).storeEpoch = s.storeEpoch := rfl
@[simp] theorem State.clearMem_eventSet (lo hi : Nat) : (s.clearMem lo hi).eventSet = s.eventSet := rfl
@[simp] theorem State.clearMem_heldWrites (lo hi : Nat) : (s.clearMem lo hi).heldWrites = s.heldWrites := rfl
@[simp] theorem State.clearMem_waiting (lo hi : Nat) : (s.clearMem lo hi).waiting = s.waiting := rfl
@[simp] theorem State.clearMem_drawn (lo hi : Nat) : (s.clearMem lo hi).drawn = s.drawn := rfl
@[simp] theorem State.clearMem_hostLatch (lo hi : Nat) : (s.clearMem lo hi).hostLatch = s.hostLatch := rfl
@[simp] theorem State.clearMem_coreLatch (lo hi : Nat) : (s.clearMem lo hi).coreLatch = s.coreLatch := rfl
@[simp] theorem State.clearMem_writeLatch (lo hi : Nat) : (s.clearMem lo hi).writeLatch = s.writeLatch := rfl
@[simp] theorem State.clearMem_readData (lo hi : Nat) : (s.clearMem lo hi).readData = s.readData := rfl
@[simp] theorem State.clearMem_engines (lo hi : Nat) : (s.clearMem lo hi).engines = s.engines := rfl
@[simp] theorem State.clearMem_timebases (lo hi : Nat) : (s.clearMem lo hi).timebases = s.timebases := rfl
@[simp] theorem State.clearMem_tickCount (lo hi : Nat) : (s.clearMem lo hi).tickCount = s.tickCount := rfl
@[simp] theorem State.clearMem_alignAt (lo hi : Nat) : (s.clearMem lo hi).alignAt = s.alignAt := rfl
@[simp] theorem State.clearMem_groups (lo hi : Nat) : (s.clearMem lo hi).groups = s.groups := rfl
@[simp] theorem State.clearMem_stages (lo hi : Nat) : (s.clearMem lo hi).stages = s.stages := rfl
@[simp] theorem State.clearMem_router (lo hi : Nat) : (s.clearMem lo hi).router = s.router := rfl
@[simp] theorem State.clearMem_ports (lo hi : Nat) : (s.clearMem lo hi).ports = s.ports := rfl
@[simp] theorem State.clearMem_bprx (lo hi : Nat) : (s.clearMem lo hi).bprx = s.bprx := rfl
@[simp] theorem State.clearMem_bptx (lo hi : Nat) : (s.clearMem lo hi).bptx = s.bptx := rfl
@[simp] theorem State.clearMem_clocks (lo hi : Nat) : (s.clearMem lo hi).clocks = s.clocks := rfl
@[simp] theorem State.clearMem_host (lo hi : Nat) : (s.clearMem lo hi).host = s.host := rfl
@[simp] theorem State.clearMem_loader (lo hi : Nat) : (s.clearMem lo hi).loader = s.loader := rfl
@[simp] theorem State.clearMem_dma (lo hi : Nat) : (s.clearMem lo hi).dma = s.dma := rfl
@[simp] theorem State.clearMem_meter (lo hi : Nat) : (s.clearMem lo hi).meter = s.meter := rfl
@[simp] theorem State.clearMem_power (lo hi : Nat) : (s.clearMem lo hi).power = s.power := rfl
@[simp] theorem State.clearMem_core (lo hi : Nat) : (s.clearMem lo hi).core = s.core := rfl
@[simp] theorem State.clearMem_gpio (lo hi : Nat) : (s.clearMem lo hi).gpio = s.gpio := rfl
@[simp] theorem State.clearMem_perturb (lo hi : Nat) : (s.clearMem lo hi).perturb = s.perturb := rfl
@[simp] theorem State.clearMem_tap (lo hi : Nat) : (s.clearMem lo hi).tap = s.tap := rfl
@[simp] theorem State.clearMem_provoked (lo hi : Nat) : (s.clearMem lo hi).provoked = s.provoked := rfl
@[simp] theorem State.clearMem_straps (lo hi : Nat) : (s.clearMem lo hi).straps = s.straps := rfl
@[simp] theorem State.clearMem_uid (lo hi : Nat) : (s.clearMem lo hi).uid = s.uid := rfl

@[simp] theorem State.good_pending (a : Nat) : (s.good a).pending = s.pending := rfl
@[simp] theorem State.good_now (a : Nat) : (s.good a).now = s.now := rfl
@[simp] theorem State.good_resetAt (a : Nat) : (s.good a).resetAt = s.resetAt := rfl
@[simp] theorem State.good_xcycles (a : Nat) : (s.good a).xcycles = s.xcycles := rfl
@[simp] theorem State.good_silent (a : Nat) : (s.good a).silent = s.silent := rfl
@[simp] theorem State.good_regs (a : Nat) : (s.good a).regs = s.regs := rfl
@[simp] theorem State.good_mem (a : Nat) : (s.good a).mem = s.mem := rfl
@[simp] theorem State.good_parityBad (a : Nat) : (s.good a).parityBad = put false s.parityBad a false := rfl
@[simp] theorem State.good_storeEpoch (a : Nat) : (s.good a).storeEpoch = s.storeEpoch := rfl
@[simp] theorem State.good_eventSet (a : Nat) : (s.good a).eventSet = s.eventSet := rfl
@[simp] theorem State.good_heldWrites (a : Nat) : (s.good a).heldWrites = s.heldWrites := rfl
@[simp] theorem State.good_waiting (a : Nat) : (s.good a).waiting = s.waiting := rfl
@[simp] theorem State.good_drawn (a : Nat) : (s.good a).drawn = s.drawn := rfl
@[simp] theorem State.good_hostLatch (a : Nat) : (s.good a).hostLatch = s.hostLatch := rfl
@[simp] theorem State.good_coreLatch (a : Nat) : (s.good a).coreLatch = s.coreLatch := rfl
@[simp] theorem State.good_writeLatch (a : Nat) : (s.good a).writeLatch = s.writeLatch := rfl
@[simp] theorem State.good_readData (a : Nat) : (s.good a).readData = s.readData := rfl
@[simp] theorem State.good_engines (a : Nat) : (s.good a).engines = s.engines := rfl
@[simp] theorem State.good_timebases (a : Nat) : (s.good a).timebases = s.timebases := rfl
@[simp] theorem State.good_tickCount (a : Nat) : (s.good a).tickCount = s.tickCount := rfl
@[simp] theorem State.good_alignAt (a : Nat) : (s.good a).alignAt = s.alignAt := rfl
@[simp] theorem State.good_groups (a : Nat) : (s.good a).groups = s.groups := rfl
@[simp] theorem State.good_stages (a : Nat) : (s.good a).stages = s.stages := rfl
@[simp] theorem State.good_router (a : Nat) : (s.good a).router = s.router := rfl
@[simp] theorem State.good_ports (a : Nat) : (s.good a).ports = s.ports := rfl
@[simp] theorem State.good_bprx (a : Nat) : (s.good a).bprx = s.bprx := rfl
@[simp] theorem State.good_bptx (a : Nat) : (s.good a).bptx = s.bptx := rfl
@[simp] theorem State.good_clocks (a : Nat) : (s.good a).clocks = s.clocks := rfl
@[simp] theorem State.good_host (a : Nat) : (s.good a).host = s.host := rfl
@[simp] theorem State.good_loader (a : Nat) : (s.good a).loader = s.loader := rfl
@[simp] theorem State.good_dma (a : Nat) : (s.good a).dma = s.dma := rfl
@[simp] theorem State.good_meter (a : Nat) : (s.good a).meter = s.meter := rfl
@[simp] theorem State.good_power (a : Nat) : (s.good a).power = s.power := rfl
@[simp] theorem State.good_core (a : Nat) : (s.good a).core = s.core := rfl
@[simp] theorem State.good_gpio (a : Nat) : (s.good a).gpio = s.gpio := rfl
@[simp] theorem State.good_perturb (a : Nat) : (s.good a).perturb = s.perturb := rfl
@[simp] theorem State.good_tap (a : Nat) : (s.good a).tap = s.tap := rfl
@[simp] theorem State.good_provoked (a : Nat) : (s.good a).provoked = s.provoked := rfl
@[simp] theorem State.good_straps (a : Nat) : (s.good a).straps = s.straps := rfl
@[simp] theorem State.good_uid (a : Nat) : (s.good a).uid = s.uid := rfl

@[simp] theorem State.answer_pending (w : Word) : (s.answer w).pending = s.pending := rfl
@[simp] theorem State.answer_now (w : Word) : (s.answer w).now = s.now := rfl
@[simp] theorem State.answer_resetAt (w : Word) : (s.answer w).resetAt = s.resetAt := rfl
@[simp] theorem State.answer_xcycles (w : Word) : (s.answer w).xcycles = s.xcycles := rfl
@[simp] theorem State.answer_silent (w : Word) : (s.answer w).silent = s.silent := rfl
@[simp] theorem State.answer_regs (w : Word) : (s.answer w).regs = s.regs := rfl
@[simp] theorem State.answer_mem (w : Word) : (s.answer w).mem = s.mem := rfl
@[simp] theorem State.answer_parityBad (w : Word) : (s.answer w).parityBad = s.parityBad := rfl
@[simp] theorem State.answer_storeEpoch (w : Word) : (s.answer w).storeEpoch = s.storeEpoch := rfl
@[simp] theorem State.answer_eventSet (w : Word) : (s.answer w).eventSet = s.eventSet := rfl
@[simp] theorem State.answer_heldWrites (w : Word) : (s.answer w).heldWrites = s.heldWrites := rfl
@[simp] theorem State.answer_waiting (w : Word) : (s.answer w).waiting = s.waiting := rfl
@[simp] theorem State.answer_drawn (w : Word) : (s.answer w).drawn = s.drawn := rfl
@[simp] theorem State.answer_hostLatch (w : Word) : (s.answer w).hostLatch = s.hostLatch := rfl
@[simp] theorem State.answer_coreLatch (w : Word) : (s.answer w).coreLatch = s.coreLatch := rfl
@[simp] theorem State.answer_writeLatch (w : Word) : (s.answer w).writeLatch = s.writeLatch := rfl
@[simp] theorem State.answer_readData (w : Word) : (s.answer w).readData = w := rfl
@[simp] theorem State.answer_engines (w : Word) : (s.answer w).engines = s.engines := rfl
@[simp] theorem State.answer_timebases (w : Word) : (s.answer w).timebases = s.timebases := rfl
@[simp] theorem State.answer_tickCount (w : Word) : (s.answer w).tickCount = s.tickCount := rfl
@[simp] theorem State.answer_alignAt (w : Word) : (s.answer w).alignAt = s.alignAt := rfl
@[simp] theorem State.answer_groups (w : Word) : (s.answer w).groups = s.groups := rfl
@[simp] theorem State.answer_stages (w : Word) : (s.answer w).stages = s.stages := rfl
@[simp] theorem State.answer_router (w : Word) : (s.answer w).router = s.router := rfl
@[simp] theorem State.answer_ports (w : Word) : (s.answer w).ports = s.ports := rfl
@[simp] theorem State.answer_bprx (w : Word) : (s.answer w).bprx = s.bprx := rfl
@[simp] theorem State.answer_bptx (w : Word) : (s.answer w).bptx = s.bptx := rfl
@[simp] theorem State.answer_clocks (w : Word) : (s.answer w).clocks = s.clocks := rfl
@[simp] theorem State.answer_host (w : Word) : (s.answer w).host = s.host := rfl
@[simp] theorem State.answer_loader (w : Word) : (s.answer w).loader = s.loader := rfl
@[simp] theorem State.answer_dma (w : Word) : (s.answer w).dma = s.dma := rfl
@[simp] theorem State.answer_meter (w : Word) : (s.answer w).meter = s.meter := rfl
@[simp] theorem State.answer_power (w : Word) : (s.answer w).power = s.power := rfl
@[simp] theorem State.answer_core (w : Word) : (s.answer w).core = s.core := rfl
@[simp] theorem State.answer_gpio (w : Word) : (s.answer w).gpio = s.gpio := rfl
@[simp] theorem State.answer_perturb (w : Word) : (s.answer w).perturb = s.perturb := rfl
@[simp] theorem State.answer_tap (w : Word) : (s.answer w).tap = s.tap := rfl
@[simp] theorem State.answer_provoked (w : Word) : (s.answer w).provoked = s.provoked := rfl
@[simp] theorem State.answer_straps (w : Word) : (s.answer w).straps = s.straps := rfl
@[simp] theorem State.answer_uid (w : Word) : (s.answer w).uid = s.uid := rfl

@[simp] theorem State.setEng_pending (e : Nat) (x : Engine) : (s.setEng e x).pending = s.pending := rfl
@[simp] theorem State.setEng_now (e : Nat) (x : Engine) : (s.setEng e x).now = s.now := rfl
@[simp] theorem State.setEng_resetAt (e : Nat) (x : Engine) : (s.setEng e x).resetAt = s.resetAt := rfl
@[simp] theorem State.setEng_xcycles (e : Nat) (x : Engine) : (s.setEng e x).xcycles = s.xcycles := rfl
@[simp] theorem State.setEng_silent (e : Nat) (x : Engine) : (s.setEng e x).silent = s.silent := rfl
@[simp] theorem State.setEng_regs (e : Nat) (x : Engine) : (s.setEng e x).regs = s.regs := rfl
@[simp] theorem State.setEng_mem (e : Nat) (x : Engine) : (s.setEng e x).mem = s.mem := rfl
@[simp] theorem State.setEng_parityBad (e : Nat) (x : Engine) : (s.setEng e x).parityBad = s.parityBad := rfl
@[simp] theorem State.setEng_storeEpoch (e : Nat) (x : Engine) : (s.setEng e x).storeEpoch = s.storeEpoch := rfl
@[simp] theorem State.setEng_eventSet (e : Nat) (x : Engine) : (s.setEng e x).eventSet = s.eventSet := rfl
@[simp] theorem State.setEng_heldWrites (e : Nat) (x : Engine) : (s.setEng e x).heldWrites = s.heldWrites := rfl
@[simp] theorem State.setEng_waiting (e : Nat) (x : Engine) : (s.setEng e x).waiting = s.waiting := rfl
@[simp] theorem State.setEng_drawn (e : Nat) (x : Engine) : (s.setEng e x).drawn = s.drawn := rfl
@[simp] theorem State.setEng_hostLatch (e : Nat) (x : Engine) : (s.setEng e x).hostLatch = s.hostLatch := rfl
@[simp] theorem State.setEng_coreLatch (e : Nat) (x : Engine) : (s.setEng e x).coreLatch = s.coreLatch := rfl
@[simp] theorem State.setEng_writeLatch (e : Nat) (x : Engine) : (s.setEng e x).writeLatch = s.writeLatch := rfl
@[simp] theorem State.setEng_readData (e : Nat) (x : Engine) : (s.setEng e x).readData = s.readData := rfl
@[simp] theorem State.setEng_engines (e : Nat) (x : Engine) : (s.setEng e x).engines = put Engine.reset s.engines e x := rfl
@[simp] theorem State.setEng_timebases (e : Nat) (x : Engine) : (s.setEng e x).timebases = s.timebases := rfl
@[simp] theorem State.setEng_tickCount (e : Nat) (x : Engine) : (s.setEng e x).tickCount = s.tickCount := rfl
@[simp] theorem State.setEng_alignAt (e : Nat) (x : Engine) : (s.setEng e x).alignAt = s.alignAt := rfl
@[simp] theorem State.setEng_groups (e : Nat) (x : Engine) : (s.setEng e x).groups = s.groups := rfl
@[simp] theorem State.setEng_stages (e : Nat) (x : Engine) : (s.setEng e x).stages = s.stages := rfl
@[simp] theorem State.setEng_router (e : Nat) (x : Engine) : (s.setEng e x).router = s.router := rfl
@[simp] theorem State.setEng_ports (e : Nat) (x : Engine) : (s.setEng e x).ports = s.ports := rfl
@[simp] theorem State.setEng_bprx (e : Nat) (x : Engine) : (s.setEng e x).bprx = s.bprx := rfl
@[simp] theorem State.setEng_bptx (e : Nat) (x : Engine) : (s.setEng e x).bptx = s.bptx := rfl
@[simp] theorem State.setEng_clocks (e : Nat) (x : Engine) : (s.setEng e x).clocks = s.clocks := rfl
@[simp] theorem State.setEng_host (e : Nat) (x : Engine) : (s.setEng e x).host = s.host := rfl
@[simp] theorem State.setEng_loader (e : Nat) (x : Engine) : (s.setEng e x).loader = s.loader := rfl
@[simp] theorem State.setEng_dma (e : Nat) (x : Engine) : (s.setEng e x).dma = s.dma := rfl
@[simp] theorem State.setEng_meter (e : Nat) (x : Engine) : (s.setEng e x).meter = s.meter := rfl
@[simp] theorem State.setEng_power (e : Nat) (x : Engine) : (s.setEng e x).power = s.power := rfl
@[simp] theorem State.setEng_core (e : Nat) (x : Engine) : (s.setEng e x).core = s.core := rfl
@[simp] theorem State.setEng_gpio (e : Nat) (x : Engine) : (s.setEng e x).gpio = s.gpio := rfl
@[simp] theorem State.setEng_perturb (e : Nat) (x : Engine) : (s.setEng e x).perturb = s.perturb := rfl
@[simp] theorem State.setEng_tap (e : Nat) (x : Engine) : (s.setEng e x).tap = s.tap := rfl
@[simp] theorem State.setEng_provoked (e : Nat) (x : Engine) : (s.setEng e x).provoked = s.provoked := rfl
@[simp] theorem State.setEng_straps (e : Nat) (x : Engine) : (s.setEng e x).straps = s.straps := rfl
@[simp] theorem State.setEng_uid (e : Nat) (x : Engine) : (s.setEng e x).uid = s.uid := rfl

@[simp] theorem State.setTb_pending (n : Nat) (x : Timebase) : (s.setTb n x).pending = s.pending := rfl
@[simp] theorem State.setTb_now (n : Nat) (x : Timebase) : (s.setTb n x).now = s.now := rfl
@[simp] theorem State.setTb_resetAt (n : Nat) (x : Timebase) : (s.setTb n x).resetAt = s.resetAt := rfl
@[simp] theorem State.setTb_xcycles (n : Nat) (x : Timebase) : (s.setTb n x).xcycles = s.xcycles := rfl
@[simp] theorem State.setTb_silent (n : Nat) (x : Timebase) : (s.setTb n x).silent = s.silent := rfl
@[simp] theorem State.setTb_regs (n : Nat) (x : Timebase) : (s.setTb n x).regs = s.regs := rfl
@[simp] theorem State.setTb_mem (n : Nat) (x : Timebase) : (s.setTb n x).mem = s.mem := rfl
@[simp] theorem State.setTb_parityBad (n : Nat) (x : Timebase) : (s.setTb n x).parityBad = s.parityBad := rfl
@[simp] theorem State.setTb_storeEpoch (n : Nat) (x : Timebase) : (s.setTb n x).storeEpoch = s.storeEpoch := rfl
@[simp] theorem State.setTb_eventSet (n : Nat) (x : Timebase) : (s.setTb n x).eventSet = s.eventSet := rfl
@[simp] theorem State.setTb_heldWrites (n : Nat) (x : Timebase) : (s.setTb n x).heldWrites = s.heldWrites := rfl
@[simp] theorem State.setTb_waiting (n : Nat) (x : Timebase) : (s.setTb n x).waiting = s.waiting := rfl
@[simp] theorem State.setTb_drawn (n : Nat) (x : Timebase) : (s.setTb n x).drawn = s.drawn := rfl
@[simp] theorem State.setTb_hostLatch (n : Nat) (x : Timebase) : (s.setTb n x).hostLatch = s.hostLatch := rfl
@[simp] theorem State.setTb_coreLatch (n : Nat) (x : Timebase) : (s.setTb n x).coreLatch = s.coreLatch := rfl
@[simp] theorem State.setTb_writeLatch (n : Nat) (x : Timebase) : (s.setTb n x).writeLatch = s.writeLatch := rfl
@[simp] theorem State.setTb_readData (n : Nat) (x : Timebase) : (s.setTb n x).readData = s.readData := rfl
@[simp] theorem State.setTb_engines (n : Nat) (x : Timebase) : (s.setTb n x).engines = s.engines := rfl
@[simp] theorem State.setTb_timebases (n : Nat) (x : Timebase) : (s.setTb n x).timebases = put Timebase.reset s.timebases n x := rfl
@[simp] theorem State.setTb_tickCount (n : Nat) (x : Timebase) : (s.setTb n x).tickCount = s.tickCount := rfl
@[simp] theorem State.setTb_alignAt (n : Nat) (x : Timebase) : (s.setTb n x).alignAt = s.alignAt := rfl
@[simp] theorem State.setTb_groups (n : Nat) (x : Timebase) : (s.setTb n x).groups = s.groups := rfl
@[simp] theorem State.setTb_stages (n : Nat) (x : Timebase) : (s.setTb n x).stages = s.stages := rfl
@[simp] theorem State.setTb_router (n : Nat) (x : Timebase) : (s.setTb n x).router = s.router := rfl
@[simp] theorem State.setTb_ports (n : Nat) (x : Timebase) : (s.setTb n x).ports = s.ports := rfl
@[simp] theorem State.setTb_bprx (n : Nat) (x : Timebase) : (s.setTb n x).bprx = s.bprx := rfl
@[simp] theorem State.setTb_bptx (n : Nat) (x : Timebase) : (s.setTb n x).bptx = s.bptx := rfl
@[simp] theorem State.setTb_clocks (n : Nat) (x : Timebase) : (s.setTb n x).clocks = s.clocks := rfl
@[simp] theorem State.setTb_host (n : Nat) (x : Timebase) : (s.setTb n x).host = s.host := rfl
@[simp] theorem State.setTb_loader (n : Nat) (x : Timebase) : (s.setTb n x).loader = s.loader := rfl
@[simp] theorem State.setTb_dma (n : Nat) (x : Timebase) : (s.setTb n x).dma = s.dma := rfl
@[simp] theorem State.setTb_meter (n : Nat) (x : Timebase) : (s.setTb n x).meter = s.meter := rfl
@[simp] theorem State.setTb_power (n : Nat) (x : Timebase) : (s.setTb n x).power = s.power := rfl
@[simp] theorem State.setTb_core (n : Nat) (x : Timebase) : (s.setTb n x).core = s.core := rfl
@[simp] theorem State.setTb_gpio (n : Nat) (x : Timebase) : (s.setTb n x).gpio = s.gpio := rfl
@[simp] theorem State.setTb_perturb (n : Nat) (x : Timebase) : (s.setTb n x).perturb = s.perturb := rfl
@[simp] theorem State.setTb_tap (n : Nat) (x : Timebase) : (s.setTb n x).tap = s.tap := rfl
@[simp] theorem State.setTb_provoked (n : Nat) (x : Timebase) : (s.setTb n x).provoked = s.provoked := rfl
@[simp] theorem State.setTb_straps (n : Nat) (x : Timebase) : (s.setTb n x).straps = s.straps := rfl
@[simp] theorem State.setTb_uid (n : Nat) (x : Timebase) : (s.setTb n x).uid = s.uid := rfl

@[simp] theorem State.setGrp_pending (g : Nat) (x : Group) : (s.setGrp g x).pending = s.pending := rfl
@[simp] theorem State.setGrp_now (g : Nat) (x : Group) : (s.setGrp g x).now = s.now := rfl
@[simp] theorem State.setGrp_resetAt (g : Nat) (x : Group) : (s.setGrp g x).resetAt = s.resetAt := rfl
@[simp] theorem State.setGrp_xcycles (g : Nat) (x : Group) : (s.setGrp g x).xcycles = s.xcycles := rfl
@[simp] theorem State.setGrp_silent (g : Nat) (x : Group) : (s.setGrp g x).silent = s.silent := rfl
@[simp] theorem State.setGrp_regs (g : Nat) (x : Group) : (s.setGrp g x).regs = s.regs := rfl
@[simp] theorem State.setGrp_mem (g : Nat) (x : Group) : (s.setGrp g x).mem = s.mem := rfl
@[simp] theorem State.setGrp_parityBad (g : Nat) (x : Group) : (s.setGrp g x).parityBad = s.parityBad := rfl
@[simp] theorem State.setGrp_storeEpoch (g : Nat) (x : Group) : (s.setGrp g x).storeEpoch = s.storeEpoch := rfl
@[simp] theorem State.setGrp_eventSet (g : Nat) (x : Group) : (s.setGrp g x).eventSet = s.eventSet := rfl
@[simp] theorem State.setGrp_heldWrites (g : Nat) (x : Group) : (s.setGrp g x).heldWrites = s.heldWrites := rfl
@[simp] theorem State.setGrp_waiting (g : Nat) (x : Group) : (s.setGrp g x).waiting = s.waiting := rfl
@[simp] theorem State.setGrp_drawn (g : Nat) (x : Group) : (s.setGrp g x).drawn = s.drawn := rfl
@[simp] theorem State.setGrp_hostLatch (g : Nat) (x : Group) : (s.setGrp g x).hostLatch = s.hostLatch := rfl
@[simp] theorem State.setGrp_coreLatch (g : Nat) (x : Group) : (s.setGrp g x).coreLatch = s.coreLatch := rfl
@[simp] theorem State.setGrp_writeLatch (g : Nat) (x : Group) : (s.setGrp g x).writeLatch = s.writeLatch := rfl
@[simp] theorem State.setGrp_readData (g : Nat) (x : Group) : (s.setGrp g x).readData = s.readData := rfl
@[simp] theorem State.setGrp_engines (g : Nat) (x : Group) : (s.setGrp g x).engines = s.engines := rfl
@[simp] theorem State.setGrp_timebases (g : Nat) (x : Group) : (s.setGrp g x).timebases = s.timebases := rfl
@[simp] theorem State.setGrp_tickCount (g : Nat) (x : Group) : (s.setGrp g x).tickCount = s.tickCount := rfl
@[simp] theorem State.setGrp_alignAt (g : Nat) (x : Group) : (s.setGrp g x).alignAt = s.alignAt := rfl
@[simp] theorem State.setGrp_groups (g : Nat) (x : Group) : (s.setGrp g x).groups = put Group.reset s.groups g x := rfl
@[simp] theorem State.setGrp_stages (g : Nat) (x : Group) : (s.setGrp g x).stages = s.stages := rfl
@[simp] theorem State.setGrp_router (g : Nat) (x : Group) : (s.setGrp g x).router = s.router := rfl
@[simp] theorem State.setGrp_ports (g : Nat) (x : Group) : (s.setGrp g x).ports = s.ports := rfl
@[simp] theorem State.setGrp_bprx (g : Nat) (x : Group) : (s.setGrp g x).bprx = s.bprx := rfl
@[simp] theorem State.setGrp_bptx (g : Nat) (x : Group) : (s.setGrp g x).bptx = s.bptx := rfl
@[simp] theorem State.setGrp_clocks (g : Nat) (x : Group) : (s.setGrp g x).clocks = s.clocks := rfl
@[simp] theorem State.setGrp_host (g : Nat) (x : Group) : (s.setGrp g x).host = s.host := rfl
@[simp] theorem State.setGrp_loader (g : Nat) (x : Group) : (s.setGrp g x).loader = s.loader := rfl
@[simp] theorem State.setGrp_dma (g : Nat) (x : Group) : (s.setGrp g x).dma = s.dma := rfl
@[simp] theorem State.setGrp_meter (g : Nat) (x : Group) : (s.setGrp g x).meter = s.meter := rfl
@[simp] theorem State.setGrp_power (g : Nat) (x : Group) : (s.setGrp g x).power = s.power := rfl
@[simp] theorem State.setGrp_core (g : Nat) (x : Group) : (s.setGrp g x).core = s.core := rfl
@[simp] theorem State.setGrp_gpio (g : Nat) (x : Group) : (s.setGrp g x).gpio = s.gpio := rfl
@[simp] theorem State.setGrp_perturb (g : Nat) (x : Group) : (s.setGrp g x).perturb = s.perturb := rfl
@[simp] theorem State.setGrp_tap (g : Nat) (x : Group) : (s.setGrp g x).tap = s.tap := rfl
@[simp] theorem State.setGrp_provoked (g : Nat) (x : Group) : (s.setGrp g x).provoked = s.provoked := rfl
@[simp] theorem State.setGrp_straps (g : Nat) (x : Group) : (s.setGrp g x).straps = s.straps := rfl
@[simp] theorem State.setGrp_uid (g : Nat) (x : Group) : (s.setGrp g x).uid = s.uid := rfl

@[simp] theorem State.setStage_pending (n : Nat) (x : Stage) : (s.setStage n x).pending = s.pending := rfl
@[simp] theorem State.setStage_now (n : Nat) (x : Stage) : (s.setStage n x).now = s.now := rfl
@[simp] theorem State.setStage_resetAt (n : Nat) (x : Stage) : (s.setStage n x).resetAt = s.resetAt := rfl
@[simp] theorem State.setStage_xcycles (n : Nat) (x : Stage) : (s.setStage n x).xcycles = s.xcycles := rfl
@[simp] theorem State.setStage_silent (n : Nat) (x : Stage) : (s.setStage n x).silent = s.silent := rfl
@[simp] theorem State.setStage_regs (n : Nat) (x : Stage) : (s.setStage n x).regs = s.regs := rfl
@[simp] theorem State.setStage_mem (n : Nat) (x : Stage) : (s.setStage n x).mem = s.mem := rfl
@[simp] theorem State.setStage_parityBad (n : Nat) (x : Stage) : (s.setStage n x).parityBad = s.parityBad := rfl
@[simp] theorem State.setStage_storeEpoch (n : Nat) (x : Stage) : (s.setStage n x).storeEpoch = s.storeEpoch := rfl
@[simp] theorem State.setStage_eventSet (n : Nat) (x : Stage) : (s.setStage n x).eventSet = s.eventSet := rfl
@[simp] theorem State.setStage_heldWrites (n : Nat) (x : Stage) : (s.setStage n x).heldWrites = s.heldWrites := rfl
@[simp] theorem State.setStage_waiting (n : Nat) (x : Stage) : (s.setStage n x).waiting = s.waiting := rfl
@[simp] theorem State.setStage_drawn (n : Nat) (x : Stage) : (s.setStage n x).drawn = s.drawn := rfl
@[simp] theorem State.setStage_hostLatch (n : Nat) (x : Stage) : (s.setStage n x).hostLatch = s.hostLatch := rfl
@[simp] theorem State.setStage_coreLatch (n : Nat) (x : Stage) : (s.setStage n x).coreLatch = s.coreLatch := rfl
@[simp] theorem State.setStage_writeLatch (n : Nat) (x : Stage) : (s.setStage n x).writeLatch = s.writeLatch := rfl
@[simp] theorem State.setStage_readData (n : Nat) (x : Stage) : (s.setStage n x).readData = s.readData := rfl
@[simp] theorem State.setStage_engines (n : Nat) (x : Stage) : (s.setStage n x).engines = s.engines := rfl
@[simp] theorem State.setStage_timebases (n : Nat) (x : Stage) : (s.setStage n x).timebases = s.timebases := rfl
@[simp] theorem State.setStage_tickCount (n : Nat) (x : Stage) : (s.setStage n x).tickCount = s.tickCount := rfl
@[simp] theorem State.setStage_alignAt (n : Nat) (x : Stage) : (s.setStage n x).alignAt = s.alignAt := rfl
@[simp] theorem State.setStage_groups (n : Nat) (x : Stage) : (s.setStage n x).groups = s.groups := rfl
@[simp] theorem State.setStage_stages (n : Nat) (x : Stage) : (s.setStage n x).stages = put Stage.reset s.stages n x := rfl
@[simp] theorem State.setStage_router (n : Nat) (x : Stage) : (s.setStage n x).router = s.router := rfl
@[simp] theorem State.setStage_ports (n : Nat) (x : Stage) : (s.setStage n x).ports = s.ports := rfl
@[simp] theorem State.setStage_bprx (n : Nat) (x : Stage) : (s.setStage n x).bprx = s.bprx := rfl
@[simp] theorem State.setStage_bptx (n : Nat) (x : Stage) : (s.setStage n x).bptx = s.bptx := rfl
@[simp] theorem State.setStage_clocks (n : Nat) (x : Stage) : (s.setStage n x).clocks = s.clocks := rfl
@[simp] theorem State.setStage_host (n : Nat) (x : Stage) : (s.setStage n x).host = s.host := rfl
@[simp] theorem State.setStage_loader (n : Nat) (x : Stage) : (s.setStage n x).loader = s.loader := rfl
@[simp] theorem State.setStage_dma (n : Nat) (x : Stage) : (s.setStage n x).dma = s.dma := rfl
@[simp] theorem State.setStage_meter (n : Nat) (x : Stage) : (s.setStage n x).meter = s.meter := rfl
@[simp] theorem State.setStage_power (n : Nat) (x : Stage) : (s.setStage n x).power = s.power := rfl
@[simp] theorem State.setStage_core (n : Nat) (x : Stage) : (s.setStage n x).core = s.core := rfl
@[simp] theorem State.setStage_gpio (n : Nat) (x : Stage) : (s.setStage n x).gpio = s.gpio := rfl
@[simp] theorem State.setStage_perturb (n : Nat) (x : Stage) : (s.setStage n x).perturb = s.perturb := rfl
@[simp] theorem State.setStage_tap (n : Nat) (x : Stage) : (s.setStage n x).tap = s.tap := rfl
@[simp] theorem State.setStage_provoked (n : Nat) (x : Stage) : (s.setStage n x).provoked = s.provoked := rfl
@[simp] theorem State.setStage_straps (n : Nat) (x : Stage) : (s.setStage n x).straps = s.straps := rfl
@[simp] theorem State.setStage_uid (n : Nat) (x : Stage) : (s.setStage n x).uid = s.uid := rfl

@[simp] theorem State.setPort_pending (p : Nat) (x : Port) : (s.setPort p x).pending = s.pending := rfl
@[simp] theorem State.setPort_now (p : Nat) (x : Port) : (s.setPort p x).now = s.now := rfl
@[simp] theorem State.setPort_resetAt (p : Nat) (x : Port) : (s.setPort p x).resetAt = s.resetAt := rfl
@[simp] theorem State.setPort_xcycles (p : Nat) (x : Port) : (s.setPort p x).xcycles = s.xcycles := rfl
@[simp] theorem State.setPort_silent (p : Nat) (x : Port) : (s.setPort p x).silent = s.silent := rfl
@[simp] theorem State.setPort_regs (p : Nat) (x : Port) : (s.setPort p x).regs = s.regs := rfl
@[simp] theorem State.setPort_mem (p : Nat) (x : Port) : (s.setPort p x).mem = s.mem := rfl
@[simp] theorem State.setPort_parityBad (p : Nat) (x : Port) : (s.setPort p x).parityBad = s.parityBad := rfl
@[simp] theorem State.setPort_storeEpoch (p : Nat) (x : Port) : (s.setPort p x).storeEpoch = s.storeEpoch := rfl
@[simp] theorem State.setPort_eventSet (p : Nat) (x : Port) : (s.setPort p x).eventSet = s.eventSet := rfl
@[simp] theorem State.setPort_heldWrites (p : Nat) (x : Port) : (s.setPort p x).heldWrites = s.heldWrites := rfl
@[simp] theorem State.setPort_waiting (p : Nat) (x : Port) : (s.setPort p x).waiting = s.waiting := rfl
@[simp] theorem State.setPort_drawn (p : Nat) (x : Port) : (s.setPort p x).drawn = s.drawn := rfl
@[simp] theorem State.setPort_hostLatch (p : Nat) (x : Port) : (s.setPort p x).hostLatch = s.hostLatch := rfl
@[simp] theorem State.setPort_coreLatch (p : Nat) (x : Port) : (s.setPort p x).coreLatch = s.coreLatch := rfl
@[simp] theorem State.setPort_writeLatch (p : Nat) (x : Port) : (s.setPort p x).writeLatch = s.writeLatch := rfl
@[simp] theorem State.setPort_readData (p : Nat) (x : Port) : (s.setPort p x).readData = s.readData := rfl
@[simp] theorem State.setPort_engines (p : Nat) (x : Port) : (s.setPort p x).engines = s.engines := rfl
@[simp] theorem State.setPort_timebases (p : Nat) (x : Port) : (s.setPort p x).timebases = s.timebases := rfl
@[simp] theorem State.setPort_tickCount (p : Nat) (x : Port) : (s.setPort p x).tickCount = s.tickCount := rfl
@[simp] theorem State.setPort_alignAt (p : Nat) (x : Port) : (s.setPort p x).alignAt = s.alignAt := rfl
@[simp] theorem State.setPort_groups (p : Nat) (x : Port) : (s.setPort p x).groups = s.groups := rfl
@[simp] theorem State.setPort_stages (p : Nat) (x : Port) : (s.setPort p x).stages = s.stages := rfl
@[simp] theorem State.setPort_router (p : Nat) (x : Port) : (s.setPort p x).router = s.router := rfl
@[simp] theorem State.setPort_ports (p : Nat) (x : Port) : (s.setPort p x).ports = put Port.reset s.ports p x := rfl
@[simp] theorem State.setPort_bprx (p : Nat) (x : Port) : (s.setPort p x).bprx = s.bprx := rfl
@[simp] theorem State.setPort_bptx (p : Nat) (x : Port) : (s.setPort p x).bptx = s.bptx := rfl
@[simp] theorem State.setPort_clocks (p : Nat) (x : Port) : (s.setPort p x).clocks = s.clocks := rfl
@[simp] theorem State.setPort_host (p : Nat) (x : Port) : (s.setPort p x).host = s.host := rfl
@[simp] theorem State.setPort_loader (p : Nat) (x : Port) : (s.setPort p x).loader = s.loader := rfl
@[simp] theorem State.setPort_dma (p : Nat) (x : Port) : (s.setPort p x).dma = s.dma := rfl
@[simp] theorem State.setPort_meter (p : Nat) (x : Port) : (s.setPort p x).meter = s.meter := rfl
@[simp] theorem State.setPort_power (p : Nat) (x : Port) : (s.setPort p x).power = s.power := rfl
@[simp] theorem State.setPort_core (p : Nat) (x : Port) : (s.setPort p x).core = s.core := rfl
@[simp] theorem State.setPort_gpio (p : Nat) (x : Port) : (s.setPort p x).gpio = s.gpio := rfl
@[simp] theorem State.setPort_perturb (p : Nat) (x : Port) : (s.setPort p x).perturb = s.perturb := rfl
@[simp] theorem State.setPort_tap (p : Nat) (x : Port) : (s.setPort p x).tap = s.tap := rfl
@[simp] theorem State.setPort_provoked (p : Nat) (x : Port) : (s.setPort p x).provoked = s.provoked := rfl
@[simp] theorem State.setPort_straps (p : Nat) (x : Port) : (s.setPort p x).straps = s.straps := rfl
@[simp] theorem State.setPort_uid (p : Nat) (x : Port) : (s.setPort p x).uid = s.uid := rfl

@[simp] theorem State.setRx_pending (n : Nat) (x : BpRx) : (s.setRx n x).pending = s.pending := rfl
@[simp] theorem State.setRx_now (n : Nat) (x : BpRx) : (s.setRx n x).now = s.now := rfl
@[simp] theorem State.setRx_resetAt (n : Nat) (x : BpRx) : (s.setRx n x).resetAt = s.resetAt := rfl
@[simp] theorem State.setRx_xcycles (n : Nat) (x : BpRx) : (s.setRx n x).xcycles = s.xcycles := rfl
@[simp] theorem State.setRx_silent (n : Nat) (x : BpRx) : (s.setRx n x).silent = s.silent := rfl
@[simp] theorem State.setRx_regs (n : Nat) (x : BpRx) : (s.setRx n x).regs = s.regs := rfl
@[simp] theorem State.setRx_mem (n : Nat) (x : BpRx) : (s.setRx n x).mem = s.mem := rfl
@[simp] theorem State.setRx_parityBad (n : Nat) (x : BpRx) : (s.setRx n x).parityBad = s.parityBad := rfl
@[simp] theorem State.setRx_storeEpoch (n : Nat) (x : BpRx) : (s.setRx n x).storeEpoch = s.storeEpoch := rfl
@[simp] theorem State.setRx_eventSet (n : Nat) (x : BpRx) : (s.setRx n x).eventSet = s.eventSet := rfl
@[simp] theorem State.setRx_heldWrites (n : Nat) (x : BpRx) : (s.setRx n x).heldWrites = s.heldWrites := rfl
@[simp] theorem State.setRx_waiting (n : Nat) (x : BpRx) : (s.setRx n x).waiting = s.waiting := rfl
@[simp] theorem State.setRx_drawn (n : Nat) (x : BpRx) : (s.setRx n x).drawn = s.drawn := rfl
@[simp] theorem State.setRx_hostLatch (n : Nat) (x : BpRx) : (s.setRx n x).hostLatch = s.hostLatch := rfl
@[simp] theorem State.setRx_coreLatch (n : Nat) (x : BpRx) : (s.setRx n x).coreLatch = s.coreLatch := rfl
@[simp] theorem State.setRx_writeLatch (n : Nat) (x : BpRx) : (s.setRx n x).writeLatch = s.writeLatch := rfl
@[simp] theorem State.setRx_readData (n : Nat) (x : BpRx) : (s.setRx n x).readData = s.readData := rfl
@[simp] theorem State.setRx_engines (n : Nat) (x : BpRx) : (s.setRx n x).engines = s.engines := rfl
@[simp] theorem State.setRx_timebases (n : Nat) (x : BpRx) : (s.setRx n x).timebases = s.timebases := rfl
@[simp] theorem State.setRx_tickCount (n : Nat) (x : BpRx) : (s.setRx n x).tickCount = s.tickCount := rfl
@[simp] theorem State.setRx_alignAt (n : Nat) (x : BpRx) : (s.setRx n x).alignAt = s.alignAt := rfl
@[simp] theorem State.setRx_groups (n : Nat) (x : BpRx) : (s.setRx n x).groups = s.groups := rfl
@[simp] theorem State.setRx_stages (n : Nat) (x : BpRx) : (s.setRx n x).stages = s.stages := rfl
@[simp] theorem State.setRx_router (n : Nat) (x : BpRx) : (s.setRx n x).router = s.router := rfl
@[simp] theorem State.setRx_ports (n : Nat) (x : BpRx) : (s.setRx n x).ports = s.ports := rfl
@[simp] theorem State.setRx_bprx (n : Nat) (x : BpRx) : (s.setRx n x).bprx = put BpRx.reset s.bprx n x := rfl
@[simp] theorem State.setRx_bptx (n : Nat) (x : BpRx) : (s.setRx n x).bptx = s.bptx := rfl
@[simp] theorem State.setRx_clocks (n : Nat) (x : BpRx) : (s.setRx n x).clocks = s.clocks := rfl
@[simp] theorem State.setRx_host (n : Nat) (x : BpRx) : (s.setRx n x).host = s.host := rfl
@[simp] theorem State.setRx_loader (n : Nat) (x : BpRx) : (s.setRx n x).loader = s.loader := rfl
@[simp] theorem State.setRx_dma (n : Nat) (x : BpRx) : (s.setRx n x).dma = s.dma := rfl
@[simp] theorem State.setRx_meter (n : Nat) (x : BpRx) : (s.setRx n x).meter = s.meter := rfl
@[simp] theorem State.setRx_power (n : Nat) (x : BpRx) : (s.setRx n x).power = s.power := rfl
@[simp] theorem State.setRx_core (n : Nat) (x : BpRx) : (s.setRx n x).core = s.core := rfl
@[simp] theorem State.setRx_gpio (n : Nat) (x : BpRx) : (s.setRx n x).gpio = s.gpio := rfl
@[simp] theorem State.setRx_perturb (n : Nat) (x : BpRx) : (s.setRx n x).perturb = s.perturb := rfl
@[simp] theorem State.setRx_tap (n : Nat) (x : BpRx) : (s.setRx n x).tap = s.tap := rfl
@[simp] theorem State.setRx_provoked (n : Nat) (x : BpRx) : (s.setRx n x).provoked = s.provoked := rfl
@[simp] theorem State.setRx_straps (n : Nat) (x : BpRx) : (s.setRx n x).straps = s.straps := rfl
@[simp] theorem State.setRx_uid (n : Nat) (x : BpRx) : (s.setRx n x).uid = s.uid := rfl

@[simp] theorem State.setTx_pending (n : Nat) (x : BpTx) : (s.setTx n x).pending = s.pending := rfl
@[simp] theorem State.setTx_now (n : Nat) (x : BpTx) : (s.setTx n x).now = s.now := rfl
@[simp] theorem State.setTx_resetAt (n : Nat) (x : BpTx) : (s.setTx n x).resetAt = s.resetAt := rfl
@[simp] theorem State.setTx_xcycles (n : Nat) (x : BpTx) : (s.setTx n x).xcycles = s.xcycles := rfl
@[simp] theorem State.setTx_silent (n : Nat) (x : BpTx) : (s.setTx n x).silent = s.silent := rfl
@[simp] theorem State.setTx_regs (n : Nat) (x : BpTx) : (s.setTx n x).regs = s.regs := rfl
@[simp] theorem State.setTx_mem (n : Nat) (x : BpTx) : (s.setTx n x).mem = s.mem := rfl
@[simp] theorem State.setTx_parityBad (n : Nat) (x : BpTx) : (s.setTx n x).parityBad = s.parityBad := rfl
@[simp] theorem State.setTx_storeEpoch (n : Nat) (x : BpTx) : (s.setTx n x).storeEpoch = s.storeEpoch := rfl
@[simp] theorem State.setTx_eventSet (n : Nat) (x : BpTx) : (s.setTx n x).eventSet = s.eventSet := rfl
@[simp] theorem State.setTx_heldWrites (n : Nat) (x : BpTx) : (s.setTx n x).heldWrites = s.heldWrites := rfl
@[simp] theorem State.setTx_waiting (n : Nat) (x : BpTx) : (s.setTx n x).waiting = s.waiting := rfl
@[simp] theorem State.setTx_drawn (n : Nat) (x : BpTx) : (s.setTx n x).drawn = s.drawn := rfl
@[simp] theorem State.setTx_hostLatch (n : Nat) (x : BpTx) : (s.setTx n x).hostLatch = s.hostLatch := rfl
@[simp] theorem State.setTx_coreLatch (n : Nat) (x : BpTx) : (s.setTx n x).coreLatch = s.coreLatch := rfl
@[simp] theorem State.setTx_writeLatch (n : Nat) (x : BpTx) : (s.setTx n x).writeLatch = s.writeLatch := rfl
@[simp] theorem State.setTx_readData (n : Nat) (x : BpTx) : (s.setTx n x).readData = s.readData := rfl
@[simp] theorem State.setTx_engines (n : Nat) (x : BpTx) : (s.setTx n x).engines = s.engines := rfl
@[simp] theorem State.setTx_timebases (n : Nat) (x : BpTx) : (s.setTx n x).timebases = s.timebases := rfl
@[simp] theorem State.setTx_tickCount (n : Nat) (x : BpTx) : (s.setTx n x).tickCount = s.tickCount := rfl
@[simp] theorem State.setTx_alignAt (n : Nat) (x : BpTx) : (s.setTx n x).alignAt = s.alignAt := rfl
@[simp] theorem State.setTx_groups (n : Nat) (x : BpTx) : (s.setTx n x).groups = s.groups := rfl
@[simp] theorem State.setTx_stages (n : Nat) (x : BpTx) : (s.setTx n x).stages = s.stages := rfl
@[simp] theorem State.setTx_router (n : Nat) (x : BpTx) : (s.setTx n x).router = s.router := rfl
@[simp] theorem State.setTx_ports (n : Nat) (x : BpTx) : (s.setTx n x).ports = s.ports := rfl
@[simp] theorem State.setTx_bprx (n : Nat) (x : BpTx) : (s.setTx n x).bprx = s.bprx := rfl
@[simp] theorem State.setTx_bptx (n : Nat) (x : BpTx) : (s.setTx n x).bptx = put BpTx.reset s.bptx n x := rfl
@[simp] theorem State.setTx_clocks (n : Nat) (x : BpTx) : (s.setTx n x).clocks = s.clocks := rfl
@[simp] theorem State.setTx_host (n : Nat) (x : BpTx) : (s.setTx n x).host = s.host := rfl
@[simp] theorem State.setTx_loader (n : Nat) (x : BpTx) : (s.setTx n x).loader = s.loader := rfl
@[simp] theorem State.setTx_dma (n : Nat) (x : BpTx) : (s.setTx n x).dma = s.dma := rfl
@[simp] theorem State.setTx_meter (n : Nat) (x : BpTx) : (s.setTx n x).meter = s.meter := rfl
@[simp] theorem State.setTx_power (n : Nat) (x : BpTx) : (s.setTx n x).power = s.power := rfl
@[simp] theorem State.setTx_core (n : Nat) (x : BpTx) : (s.setTx n x).core = s.core := rfl
@[simp] theorem State.setTx_gpio (n : Nat) (x : BpTx) : (s.setTx n x).gpio = s.gpio := rfl
@[simp] theorem State.setTx_perturb (n : Nat) (x : BpTx) : (s.setTx n x).perturb = s.perturb := rfl
@[simp] theorem State.setTx_tap (n : Nat) (x : BpTx) : (s.setTx n x).tap = s.tap := rfl
@[simp] theorem State.setTx_provoked (n : Nat) (x : BpTx) : (s.setTx n x).provoked = s.provoked := rfl
@[simp] theorem State.setTx_straps (n : Nat) (x : BpTx) : (s.setTx n x).straps = s.straps := rfl
@[simp] theorem State.setTx_uid (n : Nat) (x : BpTx) : (s.setTx n x).uid = s.uid := rfl

@[simp] theorem State.setChan_pending (c : Nat) (x : Channel) : (s.setChan c x).pending = s.pending := rfl
@[simp] theorem State.setChan_now (c : Nat) (x : Channel) : (s.setChan c x).now = s.now := rfl
@[simp] theorem State.setChan_resetAt (c : Nat) (x : Channel) : (s.setChan c x).resetAt = s.resetAt := rfl
@[simp] theorem State.setChan_xcycles (c : Nat) (x : Channel) : (s.setChan c x).xcycles = s.xcycles := rfl
@[simp] theorem State.setChan_silent (c : Nat) (x : Channel) : (s.setChan c x).silent = s.silent := rfl
@[simp] theorem State.setChan_regs (c : Nat) (x : Channel) : (s.setChan c x).regs = s.regs := rfl
@[simp] theorem State.setChan_mem (c : Nat) (x : Channel) : (s.setChan c x).mem = s.mem := rfl
@[simp] theorem State.setChan_parityBad (c : Nat) (x : Channel) : (s.setChan c x).parityBad = s.parityBad := rfl
@[simp] theorem State.setChan_storeEpoch (c : Nat) (x : Channel) : (s.setChan c x).storeEpoch = s.storeEpoch := rfl
@[simp] theorem State.setChan_eventSet (c : Nat) (x : Channel) : (s.setChan c x).eventSet = s.eventSet := rfl
@[simp] theorem State.setChan_heldWrites (c : Nat) (x : Channel) : (s.setChan c x).heldWrites = s.heldWrites := rfl
@[simp] theorem State.setChan_waiting (c : Nat) (x : Channel) : (s.setChan c x).waiting = s.waiting := rfl
@[simp] theorem State.setChan_drawn (c : Nat) (x : Channel) : (s.setChan c x).drawn = s.drawn := rfl
@[simp] theorem State.setChan_hostLatch (c : Nat) (x : Channel) : (s.setChan c x).hostLatch = s.hostLatch := rfl
@[simp] theorem State.setChan_coreLatch (c : Nat) (x : Channel) : (s.setChan c x).coreLatch = s.coreLatch := rfl
@[simp] theorem State.setChan_writeLatch (c : Nat) (x : Channel) : (s.setChan c x).writeLatch = s.writeLatch := rfl
@[simp] theorem State.setChan_readData (c : Nat) (x : Channel) : (s.setChan c x).readData = s.readData := rfl
@[simp] theorem State.setChan_engines (c : Nat) (x : Channel) : (s.setChan c x).engines = s.engines := rfl
@[simp] theorem State.setChan_timebases (c : Nat) (x : Channel) : (s.setChan c x).timebases = s.timebases := rfl
@[simp] theorem State.setChan_tickCount (c : Nat) (x : Channel) : (s.setChan c x).tickCount = s.tickCount := rfl
@[simp] theorem State.setChan_alignAt (c : Nat) (x : Channel) : (s.setChan c x).alignAt = s.alignAt := rfl
@[simp] theorem State.setChan_groups (c : Nat) (x : Channel) : (s.setChan c x).groups = s.groups := rfl
@[simp] theorem State.setChan_stages (c : Nat) (x : Channel) : (s.setChan c x).stages = s.stages := rfl
@[simp] theorem State.setChan_router (c : Nat) (x : Channel) : (s.setChan c x).router = s.router := rfl
@[simp] theorem State.setChan_ports (c : Nat) (x : Channel) : (s.setChan c x).ports = s.ports := rfl
@[simp] theorem State.setChan_bprx (c : Nat) (x : Channel) : (s.setChan c x).bprx = s.bprx := rfl
@[simp] theorem State.setChan_bptx (c : Nat) (x : Channel) : (s.setChan c x).bptx = s.bptx := rfl
@[simp] theorem State.setChan_clocks (c : Nat) (x : Channel) : (s.setChan c x).clocks = s.clocks := rfl
@[simp] theorem State.setChan_host (c : Nat) (x : Channel) : (s.setChan c x).host = s.host := rfl
@[simp] theorem State.setChan_loader (c : Nat) (x : Channel) : (s.setChan c x).loader = s.loader := rfl
@[simp] theorem State.setChan_dma (c : Nat) (x : Channel) : (s.setChan c x).dma = { s.dma with chans := put Channel.reset s.dma.chans c x } := rfl
@[simp] theorem State.setChan_meter (c : Nat) (x : Channel) : (s.setChan c x).meter = s.meter := rfl
@[simp] theorem State.setChan_power (c : Nat) (x : Channel) : (s.setChan c x).power = s.power := rfl
@[simp] theorem State.setChan_core (c : Nat) (x : Channel) : (s.setChan c x).core = s.core := rfl
@[simp] theorem State.setChan_gpio (c : Nat) (x : Channel) : (s.setChan c x).gpio = s.gpio := rfl
@[simp] theorem State.setChan_perturb (c : Nat) (x : Channel) : (s.setChan c x).perturb = s.perturb := rfl
@[simp] theorem State.setChan_tap (c : Nat) (x : Channel) : (s.setChan c x).tap = s.tap := rfl
@[simp] theorem State.setChan_provoked (c : Nat) (x : Channel) : (s.setChan c x).provoked = s.provoked := rfl
@[simp] theorem State.setChan_straps (c : Nat) (x : Channel) : (s.setChan c x).straps = s.straps := rfl
@[simp] theorem State.setChan_uid (c : Nat) (x : Channel) : (s.setChan c x).uid = s.uid := rfl

@[simp] theorem State.setSrc_pending (i : Nat) (v : Word) : (s.setSrc i v).pending = s.pending := rfl
@[simp] theorem State.setSrc_now (i : Nat) (v : Word) : (s.setSrc i v).now = s.now := rfl
@[simp] theorem State.setSrc_resetAt (i : Nat) (v : Word) : (s.setSrc i v).resetAt = s.resetAt := rfl
@[simp] theorem State.setSrc_xcycles (i : Nat) (v : Word) : (s.setSrc i v).xcycles = s.xcycles := rfl
@[simp] theorem State.setSrc_silent (i : Nat) (v : Word) : (s.setSrc i v).silent = s.silent := rfl
@[simp] theorem State.setSrc_regs (i : Nat) (v : Word) : (s.setSrc i v).regs = s.regs := rfl
@[simp] theorem State.setSrc_mem (i : Nat) (v : Word) : (s.setSrc i v).mem = s.mem := rfl
@[simp] theorem State.setSrc_parityBad (i : Nat) (v : Word) : (s.setSrc i v).parityBad = s.parityBad := rfl
@[simp] theorem State.setSrc_storeEpoch (i : Nat) (v : Word) : (s.setSrc i v).storeEpoch = s.storeEpoch := rfl
@[simp] theorem State.setSrc_eventSet (i : Nat) (v : Word) : (s.setSrc i v).eventSet = s.eventSet := rfl
@[simp] theorem State.setSrc_heldWrites (i : Nat) (v : Word) : (s.setSrc i v).heldWrites = s.heldWrites := rfl
@[simp] theorem State.setSrc_waiting (i : Nat) (v : Word) : (s.setSrc i v).waiting = s.waiting := rfl
@[simp] theorem State.setSrc_drawn (i : Nat) (v : Word) : (s.setSrc i v).drawn = s.drawn := rfl
@[simp] theorem State.setSrc_hostLatch (i : Nat) (v : Word) : (s.setSrc i v).hostLatch = s.hostLatch := rfl
@[simp] theorem State.setSrc_coreLatch (i : Nat) (v : Word) : (s.setSrc i v).coreLatch = s.coreLatch := rfl
@[simp] theorem State.setSrc_writeLatch (i : Nat) (v : Word) : (s.setSrc i v).writeLatch = s.writeLatch := rfl
@[simp] theorem State.setSrc_readData (i : Nat) (v : Word) : (s.setSrc i v).readData = s.readData := rfl
@[simp] theorem State.setSrc_engines (i : Nat) (v : Word) : (s.setSrc i v).engines = s.engines := rfl
@[simp] theorem State.setSrc_timebases (i : Nat) (v : Word) : (s.setSrc i v).timebases = s.timebases := rfl
@[simp] theorem State.setSrc_tickCount (i : Nat) (v : Word) : (s.setSrc i v).tickCount = s.tickCount := rfl
@[simp] theorem State.setSrc_alignAt (i : Nat) (v : Word) : (s.setSrc i v).alignAt = s.alignAt := rfl
@[simp] theorem State.setSrc_groups (i : Nat) (v : Word) : (s.setSrc i v).groups = s.groups := rfl
@[simp] theorem State.setSrc_stages (i : Nat) (v : Word) : (s.setSrc i v).stages = s.stages := rfl
@[simp] theorem State.setSrc_router (i : Nat) (v : Word) : (s.setSrc i v).router = { s.router with src := put 0 s.router.src i v } := rfl
@[simp] theorem State.setSrc_ports (i : Nat) (v : Word) : (s.setSrc i v).ports = s.ports := rfl
@[simp] theorem State.setSrc_bprx (i : Nat) (v : Word) : (s.setSrc i v).bprx = s.bprx := rfl
@[simp] theorem State.setSrc_bptx (i : Nat) (v : Word) : (s.setSrc i v).bptx = s.bptx := rfl
@[simp] theorem State.setSrc_clocks (i : Nat) (v : Word) : (s.setSrc i v).clocks = s.clocks := rfl
@[simp] theorem State.setSrc_host (i : Nat) (v : Word) : (s.setSrc i v).host = s.host := rfl
@[simp] theorem State.setSrc_loader (i : Nat) (v : Word) : (s.setSrc i v).loader = s.loader := rfl
@[simp] theorem State.setSrc_dma (i : Nat) (v : Word) : (s.setSrc i v).dma = s.dma := rfl
@[simp] theorem State.setSrc_meter (i : Nat) (v : Word) : (s.setSrc i v).meter = s.meter := rfl
@[simp] theorem State.setSrc_power (i : Nat) (v : Word) : (s.setSrc i v).power = s.power := rfl
@[simp] theorem State.setSrc_core (i : Nat) (v : Word) : (s.setSrc i v).core = s.core := rfl
@[simp] theorem State.setSrc_gpio (i : Nat) (v : Word) : (s.setSrc i v).gpio = s.gpio := rfl
@[simp] theorem State.setSrc_perturb (i : Nat) (v : Word) : (s.setSrc i v).perturb = s.perturb := rfl
@[simp] theorem State.setSrc_tap (i : Nat) (v : Word) : (s.setSrc i v).tap = s.tap := rfl
@[simp] theorem State.setSrc_provoked (i : Nat) (v : Word) : (s.setSrc i v).provoked = s.provoked := rfl
@[simp] theorem State.setSrc_straps (i : Nat) (v : Word) : (s.setSrc i v).straps = s.straps := rfl
@[simp] theorem State.setSrc_uid (i : Nat) (v : Word) : (s.setSrc i v).uid = s.uid := rfl

@[simp] theorem State.deviceSet_pending (a i : Nat) : (s.deviceSet a i).pending = s.pending := rfl
@[simp] theorem State.deviceSet_now (a i : Nat) : (s.deviceSet a i).now = s.now := rfl
@[simp] theorem State.deviceSet_resetAt (a i : Nat) : (s.deviceSet a i).resetAt = s.resetAt := rfl
@[simp] theorem State.deviceSet_xcycles (a i : Nat) : (s.deviceSet a i).xcycles = s.xcycles := rfl
@[simp] theorem State.deviceSet_silent (a i : Nat) : (s.deviceSet a i).silent = s.silent := rfl
@[simp] theorem State.deviceSet_regs (a i : Nat) : (s.deviceSet a i).regs = (s.setReg a (setBit (s.reg a) i true)).regs := rfl
@[simp] theorem State.deviceSet_mem (a i : Nat) : (s.deviceSet a i).mem = s.mem := rfl
@[simp] theorem State.deviceSet_parityBad (a i : Nat) : (s.deviceSet a i).parityBad = s.parityBad := rfl
@[simp] theorem State.deviceSet_storeEpoch (a i : Nat) : (s.deviceSet a i).storeEpoch = s.storeEpoch := rfl
@[simp] theorem State.deviceSet_eventSet (a i : Nat) : (s.deviceSet a i).eventSet = put (0, 0) s.eventSet a (s.now, setBit (s.justSet a) i true) := rfl
@[simp] theorem State.deviceSet_heldWrites (a i : Nat) : (s.deviceSet a i).heldWrites = s.heldWrites := rfl
@[simp] theorem State.deviceSet_waiting (a i : Nat) : (s.deviceSet a i).waiting = s.waiting := rfl
@[simp] theorem State.deviceSet_drawn (a i : Nat) : (s.deviceSet a i).drawn = s.drawn := rfl
@[simp] theorem State.deviceSet_hostLatch (a i : Nat) : (s.deviceSet a i).hostLatch = s.hostLatch := rfl
@[simp] theorem State.deviceSet_coreLatch (a i : Nat) : (s.deviceSet a i).coreLatch = s.coreLatch := rfl
@[simp] theorem State.deviceSet_writeLatch (a i : Nat) : (s.deviceSet a i).writeLatch = s.writeLatch := rfl
@[simp] theorem State.deviceSet_readData (a i : Nat) : (s.deviceSet a i).readData = s.readData := rfl
@[simp] theorem State.deviceSet_engines (a i : Nat) : (s.deviceSet a i).engines = s.engines := rfl
@[simp] theorem State.deviceSet_timebases (a i : Nat) : (s.deviceSet a i).timebases = s.timebases := rfl
@[simp] theorem State.deviceSet_tickCount (a i : Nat) : (s.deviceSet a i).tickCount = s.tickCount := rfl
@[simp] theorem State.deviceSet_alignAt (a i : Nat) : (s.deviceSet a i).alignAt = s.alignAt := rfl
@[simp] theorem State.deviceSet_groups (a i : Nat) : (s.deviceSet a i).groups = s.groups := rfl
@[simp] theorem State.deviceSet_stages (a i : Nat) : (s.deviceSet a i).stages = s.stages := rfl
@[simp] theorem State.deviceSet_router (a i : Nat) : (s.deviceSet a i).router = s.router := rfl
@[simp] theorem State.deviceSet_ports (a i : Nat) : (s.deviceSet a i).ports = s.ports := rfl
@[simp] theorem State.deviceSet_bprx (a i : Nat) : (s.deviceSet a i).bprx = s.bprx := rfl
@[simp] theorem State.deviceSet_bptx (a i : Nat) : (s.deviceSet a i).bptx = s.bptx := rfl
@[simp] theorem State.deviceSet_clocks (a i : Nat) : (s.deviceSet a i).clocks = s.clocks := rfl
@[simp] theorem State.deviceSet_host (a i : Nat) : (s.deviceSet a i).host = s.host := rfl
@[simp] theorem State.deviceSet_loader (a i : Nat) : (s.deviceSet a i).loader = s.loader := rfl
@[simp] theorem State.deviceSet_dma (a i : Nat) : (s.deviceSet a i).dma = s.dma := rfl
@[simp] theorem State.deviceSet_meter (a i : Nat) : (s.deviceSet a i).meter = s.meter := rfl
@[simp] theorem State.deviceSet_power (a i : Nat) : (s.deviceSet a i).power = s.power := rfl
@[simp] theorem State.deviceSet_core (a i : Nat) : (s.deviceSet a i).core = s.core := rfl
@[simp] theorem State.deviceSet_gpio (a i : Nat) : (s.deviceSet a i).gpio = s.gpio := rfl
@[simp] theorem State.deviceSet_perturb (a i : Nat) : (s.deviceSet a i).perturb = s.perturb := rfl
@[simp] theorem State.deviceSet_tap (a i : Nat) : (s.deviceSet a i).tap = s.tap := rfl
@[simp] theorem State.deviceSet_provoked (a i : Nat) : (s.deviceSet a i).provoked = s.provoked := rfl
@[simp] theorem State.deviceSet_straps (a i : Nat) : (s.deviceSet a i).straps = s.straps := rfl
@[simp] theorem State.deviceSet_uid (a i : Nat) : (s.deviceSet a i).uid = s.uid := rfl

@[simp] theorem State.clearW1c_pending (a : Nat) (w : Word) : (s.clearW1c a w).pending = s.pending := rfl
@[simp] theorem State.clearW1c_now (a : Nat) (w : Word) : (s.clearW1c a w).now = s.now := rfl
@[simp] theorem State.clearW1c_resetAt (a : Nat) (w : Word) : (s.clearW1c a w).resetAt = s.resetAt := rfl
@[simp] theorem State.clearW1c_xcycles (a : Nat) (w : Word) : (s.clearW1c a w).xcycles = s.xcycles := rfl
@[simp] theorem State.clearW1c_silent (a : Nat) (w : Word) : (s.clearW1c a w).silent = s.silent := rfl
@[simp] theorem State.clearW1c_regs (a : Nat) (w : Word) : (s.clearW1c a w).regs = (s.setReg a (s.reg a &&& ~~~(w &&& (rowAt a).w1c &&& ~~~ s.justSet a))).regs := rfl
@[simp] theorem State.clearW1c_mem (a : Nat) (w : Word) : (s.clearW1c a w).mem = s.mem := rfl
@[simp] theorem State.clearW1c_parityBad (a : Nat) (w : Word) : (s.clearW1c a w).parityBad = s.parityBad := rfl
@[simp] theorem State.clearW1c_storeEpoch (a : Nat) (w : Word) : (s.clearW1c a w).storeEpoch = s.storeEpoch := rfl
@[simp] theorem State.clearW1c_eventSet (a : Nat) (w : Word) : (s.clearW1c a w).eventSet = s.eventSet := rfl
@[simp] theorem State.clearW1c_heldWrites (a : Nat) (w : Word) : (s.clearW1c a w).heldWrites = s.heldWrites := rfl
@[simp] theorem State.clearW1c_waiting (a : Nat) (w : Word) : (s.clearW1c a w).waiting = s.waiting := rfl
@[simp] theorem State.clearW1c_drawn (a : Nat) (w : Word) : (s.clearW1c a w).drawn = s.drawn := rfl
@[simp] theorem State.clearW1c_hostLatch (a : Nat) (w : Word) : (s.clearW1c a w).hostLatch = s.hostLatch := rfl
@[simp] theorem State.clearW1c_coreLatch (a : Nat) (w : Word) : (s.clearW1c a w).coreLatch = s.coreLatch := rfl
@[simp] theorem State.clearW1c_writeLatch (a : Nat) (w : Word) : (s.clearW1c a w).writeLatch = s.writeLatch := rfl
@[simp] theorem State.clearW1c_readData (a : Nat) (w : Word) : (s.clearW1c a w).readData = s.readData := rfl
@[simp] theorem State.clearW1c_engines (a : Nat) (w : Word) : (s.clearW1c a w).engines = s.engines := rfl
@[simp] theorem State.clearW1c_timebases (a : Nat) (w : Word) : (s.clearW1c a w).timebases = s.timebases := rfl
@[simp] theorem State.clearW1c_tickCount (a : Nat) (w : Word) : (s.clearW1c a w).tickCount = s.tickCount := rfl
@[simp] theorem State.clearW1c_alignAt (a : Nat) (w : Word) : (s.clearW1c a w).alignAt = s.alignAt := rfl
@[simp] theorem State.clearW1c_groups (a : Nat) (w : Word) : (s.clearW1c a w).groups = s.groups := rfl
@[simp] theorem State.clearW1c_stages (a : Nat) (w : Word) : (s.clearW1c a w).stages = s.stages := rfl
@[simp] theorem State.clearW1c_router (a : Nat) (w : Word) : (s.clearW1c a w).router = s.router := rfl
@[simp] theorem State.clearW1c_ports (a : Nat) (w : Word) : (s.clearW1c a w).ports = s.ports := rfl
@[simp] theorem State.clearW1c_bprx (a : Nat) (w : Word) : (s.clearW1c a w).bprx = s.bprx := rfl
@[simp] theorem State.clearW1c_bptx (a : Nat) (w : Word) : (s.clearW1c a w).bptx = s.bptx := rfl
@[simp] theorem State.clearW1c_clocks (a : Nat) (w : Word) : (s.clearW1c a w).clocks = s.clocks := rfl
@[simp] theorem State.clearW1c_host (a : Nat) (w : Word) : (s.clearW1c a w).host = s.host := rfl
@[simp] theorem State.clearW1c_loader (a : Nat) (w : Word) : (s.clearW1c a w).loader = s.loader := rfl
@[simp] theorem State.clearW1c_dma (a : Nat) (w : Word) : (s.clearW1c a w).dma = s.dma := rfl
@[simp] theorem State.clearW1c_meter (a : Nat) (w : Word) : (s.clearW1c a w).meter = s.meter := rfl
@[simp] theorem State.clearW1c_power (a : Nat) (w : Word) : (s.clearW1c a w).power = s.power := rfl
@[simp] theorem State.clearW1c_core (a : Nat) (w : Word) : (s.clearW1c a w).core = s.core := rfl
@[simp] theorem State.clearW1c_gpio (a : Nat) (w : Word) : (s.clearW1c a w).gpio = s.gpio := rfl
@[simp] theorem State.clearW1c_perturb (a : Nat) (w : Word) : (s.clearW1c a w).perturb = s.perturb := rfl
@[simp] theorem State.clearW1c_tap (a : Nat) (w : Word) : (s.clearW1c a w).tap = s.tap := rfl
@[simp] theorem State.clearW1c_provoked (a : Nat) (w : Word) : (s.clearW1c a w).provoked = s.provoked := rfl
@[simp] theorem State.clearW1c_straps (a : Nat) (w : Word) : (s.clearW1c a w).straps = s.straps := rfl
@[simp] theorem State.clearW1c_uid (a : Nat) (w : Word) : (s.clearW1c a w).uid = s.uid := rfl

@[simp] theorem State.raise_pending (b i : Nat) : (s.raise b i).pending = s.pending := rfl
@[simp] theorem State.raise_now (b i : Nat) : (s.raise b i).now = s.now := rfl
@[simp] theorem State.raise_resetAt (b i : Nat) : (s.raise b i).resetAt = s.resetAt := rfl
@[simp] theorem State.raise_xcycles (b i : Nat) : (s.raise b i).xcycles = s.xcycles := rfl
@[simp] theorem State.raise_silent (b i : Nat) : (s.raise b i).silent = s.silent := rfl
@[simp] theorem State.raise_regs (b i : Nat) : (s.raise b i).regs = (s.setReg (blk b 4) (setBit (s.reg (blk b 4)) i true)).regs := rfl
@[simp] theorem State.raise_mem (b i : Nat) : (s.raise b i).mem = s.mem := rfl
@[simp] theorem State.raise_parityBad (b i : Nat) : (s.raise b i).parityBad = s.parityBad := rfl
@[simp] theorem State.raise_storeEpoch (b i : Nat) : (s.raise b i).storeEpoch = s.storeEpoch := rfl
@[simp] theorem State.raise_eventSet (b i : Nat) : (s.raise b i).eventSet = put (0, 0) s.eventSet (blk b 4) (s.now, setBit (s.justSet (blk b 4)) i true) := rfl
@[simp] theorem State.raise_heldWrites (b i : Nat) : (s.raise b i).heldWrites = s.heldWrites := rfl
@[simp] theorem State.raise_waiting (b i : Nat) : (s.raise b i).waiting = s.waiting := rfl
@[simp] theorem State.raise_drawn (b i : Nat) : (s.raise b i).drawn = s.drawn := rfl
@[simp] theorem State.raise_hostLatch (b i : Nat) : (s.raise b i).hostLatch = s.hostLatch := rfl
@[simp] theorem State.raise_coreLatch (b i : Nat) : (s.raise b i).coreLatch = s.coreLatch := rfl
@[simp] theorem State.raise_writeLatch (b i : Nat) : (s.raise b i).writeLatch = s.writeLatch := rfl
@[simp] theorem State.raise_readData (b i : Nat) : (s.raise b i).readData = s.readData := rfl
@[simp] theorem State.raise_engines (b i : Nat) : (s.raise b i).engines = s.engines := rfl
@[simp] theorem State.raise_timebases (b i : Nat) : (s.raise b i).timebases = s.timebases := rfl
@[simp] theorem State.raise_tickCount (b i : Nat) : (s.raise b i).tickCount = s.tickCount := rfl
@[simp] theorem State.raise_alignAt (b i : Nat) : (s.raise b i).alignAt = s.alignAt := rfl
@[simp] theorem State.raise_groups (b i : Nat) : (s.raise b i).groups = s.groups := rfl
@[simp] theorem State.raise_stages (b i : Nat) : (s.raise b i).stages = s.stages := rfl
@[simp] theorem State.raise_router (b i : Nat) : (s.raise b i).router = s.router := rfl
@[simp] theorem State.raise_ports (b i : Nat) : (s.raise b i).ports = s.ports := rfl
@[simp] theorem State.raise_bprx (b i : Nat) : (s.raise b i).bprx = s.bprx := rfl
@[simp] theorem State.raise_bptx (b i : Nat) : (s.raise b i).bptx = s.bptx := rfl
@[simp] theorem State.raise_clocks (b i : Nat) : (s.raise b i).clocks = s.clocks := rfl
@[simp] theorem State.raise_host (b i : Nat) : (s.raise b i).host = s.host := rfl
@[simp] theorem State.raise_loader (b i : Nat) : (s.raise b i).loader = s.loader := rfl
@[simp] theorem State.raise_dma (b i : Nat) : (s.raise b i).dma = s.dma := rfl
@[simp] theorem State.raise_meter (b i : Nat) : (s.raise b i).meter = s.meter := rfl
@[simp] theorem State.raise_power (b i : Nat) : (s.raise b i).power = s.power := rfl
@[simp] theorem State.raise_core (b i : Nat) : (s.raise b i).core = s.core := rfl
@[simp] theorem State.raise_gpio (b i : Nat) : (s.raise b i).gpio = s.gpio := rfl
@[simp] theorem State.raise_perturb (b i : Nat) : (s.raise b i).perturb = s.perturb := rfl
@[simp] theorem State.raise_tap (b i : Nat) : (s.raise b i).tap = s.tap := rfl
@[simp] theorem State.raise_provoked (b i : Nat) : (s.raise b i).provoked = s.provoked := rfl
@[simp] theorem State.raise_straps (b i : Nat) : (s.raise b i).straps = s.straps := rfl
@[simp] theorem State.raise_uid (b i : Nat) : (s.raise b i).uid = s.uid := rfl

@[simp] theorem State.bump_pending (a : Nat) : (s.bump a).pending = s.pending := rfl
@[simp] theorem State.bump_now (a : Nat) : (s.bump a).now = s.now := rfl
@[simp] theorem State.bump_resetAt (a : Nat) : (s.bump a).resetAt = s.resetAt := rfl
@[simp] theorem State.bump_xcycles (a : Nat) : (s.bump a).xcycles = s.xcycles := rfl
@[simp] theorem State.bump_silent (a : Nat) : (s.bump a).silent = s.silent := rfl
@[simp] theorem State.bump_regs (a : Nat) : (s.bump a).regs = (s.setReg a (bumped (s.reg a))).regs := rfl
@[simp] theorem State.bump_mem (a : Nat) : (s.bump a).mem = s.mem := rfl
@[simp] theorem State.bump_parityBad (a : Nat) : (s.bump a).parityBad = s.parityBad := rfl
@[simp] theorem State.bump_storeEpoch (a : Nat) : (s.bump a).storeEpoch = s.storeEpoch := rfl
@[simp] theorem State.bump_eventSet (a : Nat) : (s.bump a).eventSet = s.eventSet := rfl
@[simp] theorem State.bump_heldWrites (a : Nat) : (s.bump a).heldWrites = s.heldWrites := rfl
@[simp] theorem State.bump_waiting (a : Nat) : (s.bump a).waiting = s.waiting := rfl
@[simp] theorem State.bump_drawn (a : Nat) : (s.bump a).drawn = s.drawn := rfl
@[simp] theorem State.bump_hostLatch (a : Nat) : (s.bump a).hostLatch = s.hostLatch := rfl
@[simp] theorem State.bump_coreLatch (a : Nat) : (s.bump a).coreLatch = s.coreLatch := rfl
@[simp] theorem State.bump_writeLatch (a : Nat) : (s.bump a).writeLatch = s.writeLatch := rfl
@[simp] theorem State.bump_readData (a : Nat) : (s.bump a).readData = s.readData := rfl
@[simp] theorem State.bump_engines (a : Nat) : (s.bump a).engines = s.engines := rfl
@[simp] theorem State.bump_timebases (a : Nat) : (s.bump a).timebases = s.timebases := rfl
@[simp] theorem State.bump_tickCount (a : Nat) : (s.bump a).tickCount = s.tickCount := rfl
@[simp] theorem State.bump_alignAt (a : Nat) : (s.bump a).alignAt = s.alignAt := rfl
@[simp] theorem State.bump_groups (a : Nat) : (s.bump a).groups = s.groups := rfl
@[simp] theorem State.bump_stages (a : Nat) : (s.bump a).stages = s.stages := rfl
@[simp] theorem State.bump_router (a : Nat) : (s.bump a).router = s.router := rfl
@[simp] theorem State.bump_ports (a : Nat) : (s.bump a).ports = s.ports := rfl
@[simp] theorem State.bump_bprx (a : Nat) : (s.bump a).bprx = s.bprx := rfl
@[simp] theorem State.bump_bptx (a : Nat) : (s.bump a).bptx = s.bptx := rfl
@[simp] theorem State.bump_clocks (a : Nat) : (s.bump a).clocks = s.clocks := rfl
@[simp] theorem State.bump_host (a : Nat) : (s.bump a).host = s.host := rfl
@[simp] theorem State.bump_loader (a : Nat) : (s.bump a).loader = s.loader := rfl
@[simp] theorem State.bump_dma (a : Nat) : (s.bump a).dma = s.dma := rfl
@[simp] theorem State.bump_meter (a : Nat) : (s.bump a).meter = s.meter := rfl
@[simp] theorem State.bump_power (a : Nat) : (s.bump a).power = s.power := rfl
@[simp] theorem State.bump_core (a : Nat) : (s.bump a).core = s.core := rfl
@[simp] theorem State.bump_gpio (a : Nat) : (s.bump a).gpio = s.gpio := rfl
@[simp] theorem State.bump_perturb (a : Nat) : (s.bump a).perturb = s.perturb := rfl
@[simp] theorem State.bump_tap (a : Nat) : (s.bump a).tap = s.tap := rfl
@[simp] theorem State.bump_provoked (a : Nat) : (s.bump a).provoked = s.provoked := rfl
@[simp] theorem State.bump_straps (a : Nat) : (s.bump a).straps = s.straps := rfl
@[simp] theorem State.bump_uid (a : Nat) : (s.bump a).uid = s.uid := rfl

end Sys2Proof.Machine
end

