-- ==== Sys2Proof/Laws/Units.lean ====
section
/-!
SUPPORT. Reads of units, registers and memory after updates: the unit or word written, and every other as it was.
-/

namespace Sys2Proof.Machine

variable (s : State)

/-! ## A unit after an update of its own table -/

@[simp] theorem State.eng_setEng (e e' : Nat) (x : Engine) : (s.setEng e x).eng e' = if e' = e then x else s.eng e' :=
  look_put _ _ _ _ _

@[simp] theorem State.tb_setTb (n n' : Nat) (x : Timebase) : (s.setTb n x).tb n' = if n' = n then x else s.tb n' :=
  look_put _ _ _ _ _

@[simp] theorem State.grp_setGrp (g g' : Nat) (x : Group) : (s.setGrp g x).grp g' = if g' = g then x else s.grp g' :=
  look_put _ _ _ _ _

@[simp] theorem State.stage_setStage (n n' : Nat) (x : Stage) : (s.setStage n x).stage n' = if n' = n then x else s.stage n' :=
  look_put _ _ _ _ _

@[simp] theorem State.port_setPort (p p' : Nat) (x : Port) : (s.setPort p x).port p' = if p' = p then x else s.port p' :=
  look_put _ _ _ _ _

@[simp] theorem State.rx_setRx (n n' : Nat) (x : BpRx) : (s.setRx n x).rx n' = if n' = n then x else s.rx n' :=
  look_put _ _ _ _ _

@[simp] theorem State.tx_setTx (n n' : Nat) (x : BpTx) : (s.setTx n x).tx n' = if n' = n then x else s.tx n' :=
  look_put _ _ _ _ _

@[simp] theorem State.chan_setChan (c c' : Nat) (x : Channel) : (s.setChan c x).chan c' = if c' = c then x else s.chan c' :=
  look_put _ _ _ _ _

@[simp] theorem State.reg_setReg (a a' : Nat) (w : Word) : (s.setReg a w).reg a' = if a' = a then w else s.reg a' := by
  unfold State.reg State.setReg
  simp only
  by_cases h : a' = a
  · subst h; simp
  · rw [look_put_other _ _ _ _ h, if_neg h]

@[simp] theorem State.byteAt_setByte (a a' : Nat) (b : Byte) : (s.setByte a b).byteAt a' = if a' = a then b else s.byteAt a' :=
  look_put _ _ _ _ _

/-- EVENT flags after one is set (R26). -/
theorem State.reg_raise (b i a : Nat) :
    (s.raise b i).reg a = if a = blk b 4 then setBit (s.reg (blk b 4)) i true else s.reg a :=
  State.reg_setReg _ _ _ _

theorem State.reg_bump (c a : Nat) : (s.bump c).reg a = if a = c then bumped (s.reg c) else s.reg a := State.reg_setReg _ _ _ _

/-! ## Units under updates of other tables -/

@[simp] theorem State.eng_clockTo (t : Nat) (k : Nat) : (s.clockTo t).eng k = s.eng k := rfl
@[simp] theorem State.eng_setReg (a : Nat) (w : Word) (k : Nat) : (s.setReg a w).eng k = s.eng k := rfl
@[simp] theorem State.eng_setByte (a : Nat) (b : Byte) (k : Nat) : (s.setByte a b).eng k = s.eng k := rfl
@[simp] theorem State.eng_setWord (a : Nat) (w : Word) (k : Nat) : (s.setWord a w).eng k = s.eng k := by simp only [State.setWord, State.eng_setByte]
@[simp] theorem State.eng_clearMem (lo hi : Nat) (k : Nat) : (s.clearMem lo hi).eng k = s.eng k := rfl
@[simp] theorem State.eng_good (a : Nat) (k : Nat) : (s.good a).eng k = s.eng k := rfl
@[simp] theorem State.eng_answer (w : Word) (k : Nat) : (s.answer w).eng k = s.eng k := rfl
@[simp] theorem State.eng_setTb (n : Nat) (x : Timebase) (k : Nat) : (s.setTb n x).eng k = s.eng k := rfl
@[simp] theorem State.eng_setGrp (g : Nat) (x : Group) (k : Nat) : (s.setGrp g x).eng k = s.eng k := rfl
@[simp] theorem State.eng_setStage (n : Nat) (x : Stage) (k : Nat) : (s.setStage n x).eng k = s.eng k := rfl
@[simp] theorem State.eng_setPort (p : Nat) (x : Port) (k : Nat) : (s.setPort p x).eng k = s.eng k := rfl
@[simp] theorem State.eng_setRx (n : Nat) (x : BpRx) (k : Nat) : (s.setRx n x).eng k = s.eng k := rfl
@[simp] theorem State.eng_setTx (n : Nat) (x : BpTx) (k : Nat) : (s.setTx n x).eng k = s.eng k := rfl
@[simp] theorem State.eng_setChan (c : Nat) (x : Channel) (k : Nat) : (s.setChan c x).eng k = s.eng k := rfl
@[simp] theorem State.eng_setSrc (i : Nat) (v : Word) (k : Nat) : (s.setSrc i v).eng k = s.eng k := rfl
@[simp] theorem State.eng_deviceSet (a i : Nat) (k : Nat) : (s.deviceSet a i).eng k = s.eng k := rfl
@[simp] theorem State.eng_clearW1c (a : Nat) (w : Word) (k : Nat) : (s.clearW1c a w).eng k = s.eng k := rfl
@[simp] theorem State.eng_raise (b i : Nat) (k : Nat) : (s.raise b i).eng k = s.eng k := rfl
@[simp] theorem State.eng_bump (a : Nat) (k : Nat) : (s.bump a).eng k = s.eng k := rfl

@[simp] theorem State.tb_clockTo (t : Nat) (k : Nat) : (s.clockTo t).tb k = s.tb k := rfl
@[simp] theorem State.tb_setReg (a : Nat) (w : Word) (k : Nat) : (s.setReg a w).tb k = s.tb k := rfl
@[simp] theorem State.tb_setByte (a : Nat) (b : Byte) (k : Nat) : (s.setByte a b).tb k = s.tb k := rfl
@[simp] theorem State.tb_setWord (a : Nat) (w : Word) (k : Nat) : (s.setWord a w).tb k = s.tb k := by simp only [State.setWord, State.tb_setByte]
@[simp] theorem State.tb_clearMem (lo hi : Nat) (k : Nat) : (s.clearMem lo hi).tb k = s.tb k := rfl
@[simp] theorem State.tb_good (a : Nat) (k : Nat) : (s.good a).tb k = s.tb k := rfl
@[simp] theorem State.tb_answer (w : Word) (k : Nat) : (s.answer w).tb k = s.tb k := rfl
@[simp] theorem State.tb_setEng (e : Nat) (x : Engine) (k : Nat) : (s.setEng e x).tb k = s.tb k := rfl
@[simp] theorem State.tb_setGrp (g : Nat) (x : Group) (k : Nat) : (s.setGrp g x).tb k = s.tb k := rfl
@[simp] theorem State.tb_setStage (n : Nat) (x : Stage) (k : Nat) : (s.setStage n x).tb k = s.tb k := rfl
@[simp] theorem State.tb_setPort (p : Nat) (x : Port) (k : Nat) : (s.setPort p x).tb k = s.tb k := rfl
@[simp] theorem State.tb_setRx (n : Nat) (x : BpRx) (k : Nat) : (s.setRx n x).tb k = s.tb k := rfl
@[simp] theorem State.tb_setTx (n : Nat) (x : BpTx) (k : Nat) : (s.setTx n x).tb k = s.tb k := rfl
@[simp] theorem State.tb_setChan (c : Nat) (x : Channel) (k : Nat) : (s.setChan c x).tb k = s.tb k := rfl
@[simp] theorem State.tb_setSrc (i : Nat) (v : Word) (k : Nat) : (s.setSrc i v).tb k = s.tb k := rfl
@[simp] theorem State.tb_deviceSet (a i : Nat) (k : Nat) : (s.deviceSet a i).tb k = s.tb k := rfl
@[simp] theorem State.tb_clearW1c (a : Nat) (w : Word) (k : Nat) : (s.clearW1c a w).tb k = s.tb k := rfl
@[simp] theorem State.tb_raise (b i : Nat) (k : Nat) : (s.raise b i).tb k = s.tb k := rfl
@[simp] theorem State.tb_bump (a : Nat) (k : Nat) : (s.bump a).tb k = s.tb k := rfl

@[simp] theorem State.grp_clockTo (t : Nat) (k : Nat) : (s.clockTo t).grp k = s.grp k := rfl
@[simp] theorem State.grp_setReg (a : Nat) (w : Word) (k : Nat) : (s.setReg a w).grp k = s.grp k := rfl
@[simp] theorem State.grp_setByte (a : Nat) (b : Byte) (k : Nat) : (s.setByte a b).grp k = s.grp k := rfl
@[simp] theorem State.grp_setWord (a : Nat) (w : Word) (k : Nat) : (s.setWord a w).grp k = s.grp k := by simp only [State.setWord, State.grp_setByte]
@[simp] theorem State.grp_clearMem (lo hi : Nat) (k : Nat) : (s.clearMem lo hi).grp k = s.grp k := rfl
@[simp] theorem State.grp_good (a : Nat) (k : Nat) : (s.good a).grp k = s.grp k := rfl
@[simp] theorem State.grp_answer (w : Word) (k : Nat) : (s.answer w).grp k = s.grp k := rfl
@[simp] theorem State.grp_setEng (e : Nat) (x : Engine) (k : Nat) : (s.setEng e x).grp k = s.grp k := rfl
@[simp] theorem State.grp_setTb (n : Nat) (x : Timebase) (k : Nat) : (s.setTb n x).grp k = s.grp k := rfl
@[simp] theorem State.grp_setStage (n : Nat) (x : Stage) (k : Nat) : (s.setStage n x).grp k = s.grp k := rfl
@[simp] theorem State.grp_setPort (p : Nat) (x : Port) (k : Nat) : (s.setPort p x).grp k = s.grp k := rfl
@[simp] theorem State.grp_setRx (n : Nat) (x : BpRx) (k : Nat) : (s.setRx n x).grp k = s.grp k := rfl
@[simp] theorem State.grp_setTx (n : Nat) (x : BpTx) (k : Nat) : (s.setTx n x).grp k = s.grp k := rfl
@[simp] theorem State.grp_setChan (c : Nat) (x : Channel) (k : Nat) : (s.setChan c x).grp k = s.grp k := rfl
@[simp] theorem State.grp_setSrc (i : Nat) (v : Word) (k : Nat) : (s.setSrc i v).grp k = s.grp k := rfl
@[simp] theorem State.grp_deviceSet (a i : Nat) (k : Nat) : (s.deviceSet a i).grp k = s.grp k := rfl
@[simp] theorem State.grp_clearW1c (a : Nat) (w : Word) (k : Nat) : (s.clearW1c a w).grp k = s.grp k := rfl
@[simp] theorem State.grp_raise (b i : Nat) (k : Nat) : (s.raise b i).grp k = s.grp k := rfl
@[simp] theorem State.grp_bump (a : Nat) (k : Nat) : (s.bump a).grp k = s.grp k := rfl

@[simp] theorem State.stage_clockTo (t : Nat) (k : Nat) : (s.clockTo t).stage k = s.stage k := rfl
@[simp] theorem State.stage_setReg (a : Nat) (w : Word) (k : Nat) : (s.setReg a w).stage k = s.stage k := rfl
@[simp] theorem State.stage_setByte (a : Nat) (b : Byte) (k : Nat) : (s.setByte a b).stage k = s.stage k := rfl
@[simp] theorem State.stage_setWord (a : Nat) (w : Word) (k : Nat) : (s.setWord a w).stage k = s.stage k := by simp only [State.setWord, State.stage_setByte]
@[simp] theorem State.stage_clearMem (lo hi : Nat) (k : Nat) : (s.clearMem lo hi).stage k = s.stage k := rfl
@[simp] theorem State.stage_good (a : Nat) (k : Nat) : (s.good a).stage k = s.stage k := rfl
@[simp] theorem State.stage_answer (w : Word) (k : Nat) : (s.answer w).stage k = s.stage k := rfl
@[simp] theorem State.stage_setEng (e : Nat) (x : Engine) (k : Nat) : (s.setEng e x).stage k = s.stage k := rfl
@[simp] theorem State.stage_setTb (n : Nat) (x : Timebase) (k : Nat) : (s.setTb n x).stage k = s.stage k := rfl
@[simp] theorem State.stage_setGrp (g : Nat) (x : Group) (k : Nat) : (s.setGrp g x).stage k = s.stage k := rfl
@[simp] theorem State.stage_setPort (p : Nat) (x : Port) (k : Nat) : (s.setPort p x).stage k = s.stage k := rfl
@[simp] theorem State.stage_setRx (n : Nat) (x : BpRx) (k : Nat) : (s.setRx n x).stage k = s.stage k := rfl
@[simp] theorem State.stage_setTx (n : Nat) (x : BpTx) (k : Nat) : (s.setTx n x).stage k = s.stage k := rfl
@[simp] theorem State.stage_setChan (c : Nat) (x : Channel) (k : Nat) : (s.setChan c x).stage k = s.stage k := rfl
@[simp] theorem State.stage_setSrc (i : Nat) (v : Word) (k : Nat) : (s.setSrc i v).stage k = s.stage k := rfl
@[simp] theorem State.stage_deviceSet (a i : Nat) (k : Nat) : (s.deviceSet a i).stage k = s.stage k := rfl
@[simp] theorem State.stage_clearW1c (a : Nat) (w : Word) (k : Nat) : (s.clearW1c a w).stage k = s.stage k := rfl
@[simp] theorem State.stage_raise (b i : Nat) (k : Nat) : (s.raise b i).stage k = s.stage k := rfl
@[simp] theorem State.stage_bump (a : Nat) (k : Nat) : (s.bump a).stage k = s.stage k := rfl

@[simp] theorem State.port_clockTo (t : Nat) (k : Nat) : (s.clockTo t).port k = s.port k := rfl
@[simp] theorem State.port_setReg (a : Nat) (w : Word) (k : Nat) : (s.setReg a w).port k = s.port k := rfl
@[simp] theorem State.port_setByte (a : Nat) (b : Byte) (k : Nat) : (s.setByte a b).port k = s.port k := rfl
@[simp] theorem State.port_setWord (a : Nat) (w : Word) (k : Nat) : (s.setWord a w).port k = s.port k := by simp only [State.setWord, State.port_setByte]
@[simp] theorem State.port_clearMem (lo hi : Nat) (k : Nat) : (s.clearMem lo hi).port k = s.port k := rfl
@[simp] theorem State.port_good (a : Nat) (k : Nat) : (s.good a).port k = s.port k := rfl
@[simp] theorem State.port_answer (w : Word) (k : Nat) : (s.answer w).port k = s.port k := rfl
@[simp] theorem State.port_setEng (e : Nat) (x : Engine) (k : Nat) : (s.setEng e x).port k = s.port k := rfl
@[simp] theorem State.port_setTb (n : Nat) (x : Timebase) (k : Nat) : (s.setTb n x).port k = s.port k := rfl
@[simp] theorem State.port_setGrp (g : Nat) (x : Group) (k : Nat) : (s.setGrp g x).port k = s.port k := rfl
@[simp] theorem State.port_setStage (n : Nat) (x : Stage) (k : Nat) : (s.setStage n x).port k = s.port k := rfl
@[simp] theorem State.port_setRx (n : Nat) (x : BpRx) (k : Nat) : (s.setRx n x).port k = s.port k := rfl
@[simp] theorem State.port_setTx (n : Nat) (x : BpTx) (k : Nat) : (s.setTx n x).port k = s.port k := rfl
@[simp] theorem State.port_setChan (c : Nat) (x : Channel) (k : Nat) : (s.setChan c x).port k = s.port k := rfl
@[simp] theorem State.port_setSrc (i : Nat) (v : Word) (k : Nat) : (s.setSrc i v).port k = s.port k := rfl
@[simp] theorem State.port_deviceSet (a i : Nat) (k : Nat) : (s.deviceSet a i).port k = s.port k := rfl
@[simp] theorem State.port_clearW1c (a : Nat) (w : Word) (k : Nat) : (s.clearW1c a w).port k = s.port k := rfl
@[simp] theorem State.port_raise (b i : Nat) (k : Nat) : (s.raise b i).port k = s.port k := rfl
@[simp] theorem State.port_bump (a : Nat) (k : Nat) : (s.bump a).port k = s.port k := rfl

@[simp] theorem State.rx_clockTo (t : Nat) (k : Nat) : (s.clockTo t).rx k = s.rx k := rfl
@[simp] theorem State.rx_setReg (a : Nat) (w : Word) (k : Nat) : (s.setReg a w).rx k = s.rx k := rfl
@[simp] theorem State.rx_setByte (a : Nat) (b : Byte) (k : Nat) : (s.setByte a b).rx k = s.rx k := rfl
@[simp] theorem State.rx_setWord (a : Nat) (w : Word) (k : Nat) : (s.setWord a w).rx k = s.rx k := by simp only [State.setWord, State.rx_setByte]
@[simp] theorem State.rx_clearMem (lo hi : Nat) (k : Nat) : (s.clearMem lo hi).rx k = s.rx k := rfl
@[simp] theorem State.rx_good (a : Nat) (k : Nat) : (s.good a).rx k = s.rx k := rfl
@[simp] theorem State.rx_answer (w : Word) (k : Nat) : (s.answer w).rx k = s.rx k := rfl
@[simp] theorem State.rx_setEng (e : Nat) (x : Engine) (k : Nat) : (s.setEng e x).rx k = s.rx k := rfl
@[simp] theorem State.rx_setTb (n : Nat) (x : Timebase) (k : Nat) : (s.setTb n x).rx k = s.rx k := rfl
@[simp] theorem State.rx_setGrp (g : Nat) (x : Group) (k : Nat) : (s.setGrp g x).rx k = s.rx k := rfl
@[simp] theorem State.rx_setStage (n : Nat) (x : Stage) (k : Nat) : (s.setStage n x).rx k = s.rx k := rfl
@[simp] theorem State.rx_setPort (p : Nat) (x : Port) (k : Nat) : (s.setPort p x).rx k = s.rx k := rfl
@[simp] theorem State.rx_setTx (n : Nat) (x : BpTx) (k : Nat) : (s.setTx n x).rx k = s.rx k := rfl
@[simp] theorem State.rx_setChan (c : Nat) (x : Channel) (k : Nat) : (s.setChan c x).rx k = s.rx k := rfl
@[simp] theorem State.rx_setSrc (i : Nat) (v : Word) (k : Nat) : (s.setSrc i v).rx k = s.rx k := rfl
@[simp] theorem State.rx_deviceSet (a i : Nat) (k : Nat) : (s.deviceSet a i).rx k = s.rx k := rfl
@[simp] theorem State.rx_clearW1c (a : Nat) (w : Word) (k : Nat) : (s.clearW1c a w).rx k = s.rx k := rfl
@[simp] theorem State.rx_raise (b i : Nat) (k : Nat) : (s.raise b i).rx k = s.rx k := rfl
@[simp] theorem State.rx_bump (a : Nat) (k : Nat) : (s.bump a).rx k = s.rx k := rfl

@[simp] theorem State.tx_clockTo (t : Nat) (k : Nat) : (s.clockTo t).tx k = s.tx k := rfl
@[simp] theorem State.tx_setReg (a : Nat) (w : Word) (k : Nat) : (s.setReg a w).tx k = s.tx k := rfl
@[simp] theorem State.tx_setByte (a : Nat) (b : Byte) (k : Nat) : (s.setByte a b).tx k = s.tx k := rfl
@[simp] theorem State.tx_setWord (a : Nat) (w : Word) (k : Nat) : (s.setWord a w).tx k = s.tx k := by simp only [State.setWord, State.tx_setByte]
@[simp] theorem State.tx_clearMem (lo hi : Nat) (k : Nat) : (s.clearMem lo hi).tx k = s.tx k := rfl
@[simp] theorem State.tx_good (a : Nat) (k : Nat) : (s.good a).tx k = s.tx k := rfl
@[simp] theorem State.tx_answer (w : Word) (k : Nat) : (s.answer w).tx k = s.tx k := rfl
@[simp] theorem State.tx_setEng (e : Nat) (x : Engine) (k : Nat) : (s.setEng e x).tx k = s.tx k := rfl
@[simp] theorem State.tx_setTb (n : Nat) (x : Timebase) (k : Nat) : (s.setTb n x).tx k = s.tx k := rfl
@[simp] theorem State.tx_setGrp (g : Nat) (x : Group) (k : Nat) : (s.setGrp g x).tx k = s.tx k := rfl
@[simp] theorem State.tx_setStage (n : Nat) (x : Stage) (k : Nat) : (s.setStage n x).tx k = s.tx k := rfl
@[simp] theorem State.tx_setPort (p : Nat) (x : Port) (k : Nat) : (s.setPort p x).tx k = s.tx k := rfl
@[simp] theorem State.tx_setRx (n : Nat) (x : BpRx) (k : Nat) : (s.setRx n x).tx k = s.tx k := rfl
@[simp] theorem State.tx_setChan (c : Nat) (x : Channel) (k : Nat) : (s.setChan c x).tx k = s.tx k := rfl
@[simp] theorem State.tx_setSrc (i : Nat) (v : Word) (k : Nat) : (s.setSrc i v).tx k = s.tx k := rfl
@[simp] theorem State.tx_deviceSet (a i : Nat) (k : Nat) : (s.deviceSet a i).tx k = s.tx k := rfl
@[simp] theorem State.tx_clearW1c (a : Nat) (w : Word) (k : Nat) : (s.clearW1c a w).tx k = s.tx k := rfl
@[simp] theorem State.tx_raise (b i : Nat) (k : Nat) : (s.raise b i).tx k = s.tx k := rfl
@[simp] theorem State.tx_bump (a : Nat) (k : Nat) : (s.bump a).tx k = s.tx k := rfl

@[simp] theorem State.chan_clockTo (t : Nat) (k : Nat) : (s.clockTo t).chan k = s.chan k := rfl
@[simp] theorem State.chan_setReg (a : Nat) (w : Word) (k : Nat) : (s.setReg a w).chan k = s.chan k := rfl
@[simp] theorem State.chan_setByte (a : Nat) (b : Byte) (k : Nat) : (s.setByte a b).chan k = s.chan k := rfl
@[simp] theorem State.chan_setWord (a : Nat) (w : Word) (k : Nat) : (s.setWord a w).chan k = s.chan k := by simp only [State.setWord, State.chan_setByte]
@[simp] theorem State.chan_clearMem (lo hi : Nat) (k : Nat) : (s.clearMem lo hi).chan k = s.chan k := rfl
@[simp] theorem State.chan_good (a : Nat) (k : Nat) : (s.good a).chan k = s.chan k := rfl
@[simp] theorem State.chan_answer (w : Word) (k : Nat) : (s.answer w).chan k = s.chan k := rfl
@[simp] theorem State.chan_setEng (e : Nat) (x : Engine) (k : Nat) : (s.setEng e x).chan k = s.chan k := rfl
@[simp] theorem State.chan_setTb (n : Nat) (x : Timebase) (k : Nat) : (s.setTb n x).chan k = s.chan k := rfl
@[simp] theorem State.chan_setGrp (g : Nat) (x : Group) (k : Nat) : (s.setGrp g x).chan k = s.chan k := rfl
@[simp] theorem State.chan_setStage (n : Nat) (x : Stage) (k : Nat) : (s.setStage n x).chan k = s.chan k := rfl
@[simp] theorem State.chan_setPort (p : Nat) (x : Port) (k : Nat) : (s.setPort p x).chan k = s.chan k := rfl
@[simp] theorem State.chan_setRx (n : Nat) (x : BpRx) (k : Nat) : (s.setRx n x).chan k = s.chan k := rfl
@[simp] theorem State.chan_setTx (n : Nat) (x : BpTx) (k : Nat) : (s.setTx n x).chan k = s.chan k := rfl
@[simp] theorem State.chan_setSrc (i : Nat) (v : Word) (k : Nat) : (s.setSrc i v).chan k = s.chan k := rfl
@[simp] theorem State.chan_deviceSet (a i : Nat) (k : Nat) : (s.deviceSet a i).chan k = s.chan k := rfl
@[simp] theorem State.chan_clearW1c (a : Nat) (w : Word) (k : Nat) : (s.clearW1c a w).chan k = s.chan k := rfl
@[simp] theorem State.chan_raise (b i : Nat) (k : Nat) : (s.raise b i).chan k = s.chan k := rfl
@[simp] theorem State.chan_bump (a : Nat) (k : Nat) : (s.bump a).chan k = s.chan k := rfl

@[simp] theorem State.reg_clockTo (t : Nat) (k : Nat) : (s.clockTo t).reg k = s.reg k := rfl
@[simp] theorem State.reg_setByte (a : Nat) (b : Byte) (k : Nat) : (s.setByte a b).reg k = s.reg k := rfl
@[simp] theorem State.reg_setWord (a : Nat) (w : Word) (k : Nat) : (s.setWord a w).reg k = s.reg k := by simp only [State.setWord, State.reg_setByte]
@[simp] theorem State.reg_clearMem (lo hi : Nat) (k : Nat) : (s.clearMem lo hi).reg k = s.reg k := rfl
@[simp] theorem State.reg_good (a : Nat) (k : Nat) : (s.good a).reg k = s.reg k := rfl
@[simp] theorem State.reg_answer (w : Word) (k : Nat) : (s.answer w).reg k = s.reg k := rfl
@[simp] theorem State.reg_setEng (e : Nat) (x : Engine) (k : Nat) : (s.setEng e x).reg k = s.reg k := rfl
@[simp] theorem State.reg_setTb (n : Nat) (x : Timebase) (k : Nat) : (s.setTb n x).reg k = s.reg k := rfl
@[simp] theorem State.reg_setGrp (g : Nat) (x : Group) (k : Nat) : (s.setGrp g x).reg k = s.reg k := rfl
@[simp] theorem State.reg_setStage (n : Nat) (x : Stage) (k : Nat) : (s.setStage n x).reg k = s.reg k := rfl
@[simp] theorem State.reg_setPort (p : Nat) (x : Port) (k : Nat) : (s.setPort p x).reg k = s.reg k := rfl
@[simp] theorem State.reg_setRx (n : Nat) (x : BpRx) (k : Nat) : (s.setRx n x).reg k = s.reg k := rfl
@[simp] theorem State.reg_setTx (n : Nat) (x : BpTx) (k : Nat) : (s.setTx n x).reg k = s.reg k := rfl
@[simp] theorem State.reg_setChan (c : Nat) (x : Channel) (k : Nat) : (s.setChan c x).reg k = s.reg k := rfl
@[simp] theorem State.reg_setSrc (i : Nat) (v : Word) (k : Nat) : (s.setSrc i v).reg k = s.reg k := rfl

@[simp] theorem State.byteAt_clockTo (t : Nat) (k : Nat) : (s.clockTo t).byteAt k = s.byteAt k := rfl
@[simp] theorem State.byteAt_setReg (a : Nat) (w : Word) (k : Nat) : (s.setReg a w).byteAt k = s.byteAt k := rfl
@[simp] theorem State.byteAt_good (a : Nat) (k : Nat) : (s.good a).byteAt k = s.byteAt k := rfl
@[simp] theorem State.byteAt_answer (w : Word) (k : Nat) : (s.answer w).byteAt k = s.byteAt k := rfl
@[simp] theorem State.byteAt_setEng (e : Nat) (x : Engine) (k : Nat) : (s.setEng e x).byteAt k = s.byteAt k := rfl
@[simp] theorem State.byteAt_setTb (n : Nat) (x : Timebase) (k : Nat) : (s.setTb n x).byteAt k = s.byteAt k := rfl
@[simp] theorem State.byteAt_setGrp (g : Nat) (x : Group) (k : Nat) : (s.setGrp g x).byteAt k = s.byteAt k := rfl
@[simp] theorem State.byteAt_setStage (n : Nat) (x : Stage) (k : Nat) : (s.setStage n x).byteAt k = s.byteAt k := rfl
@[simp] theorem State.byteAt_setPort (p : Nat) (x : Port) (k : Nat) : (s.setPort p x).byteAt k = s.byteAt k := rfl
@[simp] theorem State.byteAt_setRx (n : Nat) (x : BpRx) (k : Nat) : (s.setRx n x).byteAt k = s.byteAt k := rfl
@[simp] theorem State.byteAt_setTx (n : Nat) (x : BpTx) (k : Nat) : (s.setTx n x).byteAt k = s.byteAt k := rfl
@[simp] theorem State.byteAt_setChan (c : Nat) (x : Channel) (k : Nat) : (s.setChan c x).byteAt k = s.byteAt k := rfl
@[simp] theorem State.byteAt_setSrc (i : Nat) (v : Word) (k : Nat) : (s.setSrc i v).byteAt k = s.byteAt k := rfl
@[simp] theorem State.byteAt_deviceSet (a i : Nat) (k : Nat) : (s.deviceSet a i).byteAt k = s.byteAt k := rfl
@[simp] theorem State.byteAt_clearW1c (a : Nat) (w : Word) (k : Nat) : (s.clearW1c a w).byteAt k = s.byteAt k := rfl
@[simp] theorem State.byteAt_raise (b i : Nat) (k : Nat) : (s.raise b i).byteAt k = s.byteAt k := rfl
@[simp] theorem State.byteAt_bump (a : Nat) (k : Nat) : (s.bump a).byteAt k = s.byteAt k := rfl

end Sys2Proof.Machine
end

