-- ==== Sys2Proof/Laws/Memory.lean ====
section
/-!
SUPPORT. Memory: every operation on it keeps its canonical form, and a word read after a word stored.
-/

namespace Sys2Proof.Machine

/-! ## The canonical form -/

theorem State.reset_mem_wf : Memory.wf State.reset.mem := ⟨List.Pairwise.nil, fun _ h => by cases h⟩

theorem State.setByte_wf (s : State) (a : Nat) (b : Byte) (h : Memory.wf s.mem) : Memory.wf (s.setByte a b).mem := put_wf _ _ h

theorem State.setWord_wf (s : State) (a : Nat) (w : Word) (h : Memory.wf s.mem) : Memory.wf (s.setWord a w).mem :=
  setByte_wf _ _ _ (setByte_wf _ _ _ (setByte_wf _ _ _ (setByte_wf _ _ _ h)))

theorem State.clearMem_wf (s : State) (lo hi : Nat) (h : Memory.wf s.mem) : Memory.wf (s.clearMem lo hi).mem :=
  delRange_wf _ _ h

theorem State.clearStore_wf (s : State) (q : Nat) (h : Memory.wf s.mem) : Memory.wf (s.clearStore q).mem := delRange_wf _ _ h

theorem State.freeQuarter_wf (s : State) (q : Nat) (h : Memory.wf s.mem) : Memory.wf (s.freeQuarter q).mem := delRange_wf _ _ h

theorem State.fieldsReset_wf (s : State) (h : Memory.wf s.mem) : Memory.wf s.fieldsReset.mem := by
  unfold State.fieldsReset
  generalize imgCleared = r
  exact foldl_delRange_wf r h

/-! ## Bytes and words -/

theorem State.byteAt_setWord (s : State) (a a' : Nat) (w : Word) (h : wordOf a' ≠ wordOf a) :
    (s.setWord a w).byteAt a' = s.byteAt a' := by
  have k : ∀ i, i < 4 → a' ≠ wordOf a + i := fun i hi e => h (by unfold wordOf at e ⊢; omega)
  have k0 := k 0 (by omega)
  simp only [Nat.add_zero] at k0
  simp only [State.setWord, State.byteAt_setByte, if_neg (k 1 (by omega)), if_neg (k 2 (by omega)), if_neg (k 3 (by omega)), if_neg k0]

theorem State.storeMask_setWord (s : State) (a a' : Nat) (w : Word) : (s.setWord a w).storeMask a' = s.storeMask a' := rfl

/-- A word read after a word stored: the word stored, or the word that was there. -/
theorem State.wordAt_setWord (s : State) (a a' : Nat) (w : Word) :
    (s.setWord a w).wordAt a' = if wordOf a' = wordOf a then w else s.wordAt a' := by
  split
  · rename_i h
    have hb : ∀ i, i < 4 → (s.setWord a w).byteAt (wordOf a + i) = (w ^^^ s.storeMask (wordOf a)).extractLsb' (8 * i) 8 := by
      intro i hi
      interval_cases i <;> simp [State.setWord]
    have h0 := hb 0 (by omega)
    have h1 := hb 1 (by omega)
    have h2 := hb 2 (by omega)
    have h3 := hb 3 (by omega)
    simp only [Nat.add_zero] at h0
    simp only [State.wordAt, h, h0, h1, h2, h3, State.storeMask_setWord]
    have e : ∀ x : Word, (x.extractLsb' 24 8 ++ x.extractLsb' 16 8 ++ x.extractLsb' 8 8 ++ x.extractLsb' 0 8 : BitVec 32) = x := by
      intro x
      ext i hi
      simp only [BitVec.getElem_append, BitVec.getElem_extractLsb']
      split
      · simp [BitVec.getLsbD_eq_getElem, hi]
      · split
        · rw [BitVec.getLsbD_eq_getElem (by omega)]; congr 1; omega
        · split
          · rw [BitVec.getLsbD_eq_getElem (by omega)]; congr 1; omega
          · rw [BitVec.getLsbD_eq_getElem (by omega)]; congr 1; omega
    rw [show (8 * 3 : Nat) = 24 from rfl, show (8 * 2 : Nat) = 16 from rfl, show (8 * 1 : Nat) = 8 from rfl, show (8 * 0 : Nat) = 0 from rfl, e,
      BitVec.xor_assoc, BitVec.xor_self, BitVec.xor_zero]
  · rename_i h
    have k : ∀ i, i < 4 → (s.setWord a w).byteAt (wordOf a' + i) = s.byteAt (wordOf a' + i) :=
      fun i hi => State.byteAt_setWord s a _ w (by unfold wordOf at h ⊢; omega)
    have k0 := k 0 (by omega)
    simp only [Nat.add_zero] at k0
    simp only [State.wordAt, k0, k 1 (by omega), k 2 (by omega), k 3 (by omega), State.storeMask_setWord]

end Sys2Proof.Machine
end

