-- ==== Sys2Proof/WellFormed.lean ====
section
/-!
DEFINITION. Which commands are well formed: operands that the spec's own words bound and that the types do not.
-/

namespace Sys2Proof

/-- A data phase's bits beyond its whole words number fewer than a word (R371). -/
def Body.wellFormed (b : Body) : Bool := decide (b.extraBits < 32)

/-- A received TDM frame: at most 32 slots, and its first half no longer than the frame (R268, R277). -/
def frameOk (bits half : Nat) (slots : List Word) : Bool := decide (slots.length ≤ 32) && decide (half ≤ bits)

/-- The byte address lies in a Shelf view: that of the router tables or of an engine (R20, R22, R203). -/
def inShelf (a : Nat) : Bool :=
  (decide (0x100000 ≤ a) && decide (a < 0x300000)) || (decide (0x400000 ≤ a) && decide (a < 0x800000) && decide (0x18000 ≤ a % 0x20000))

/-- The command is well formed. -/
def Instr.wellFormed : Instr → Bool
  | .shelfWrite _ a _ _ => inShelf a.toNat
  | .tdmFrameMark _ bits half slots _ => frameOk bits half slots
  | .tapFrame _ bits half slots _ _ => frameOk bits half slots
  | .biphaseFrame _ f _ => decide (0 < f.period)
  | .rateMeasurement _ count _ _ => decide (0 < count)
  | .wr _ _ _ extraBits _ => decide (extraBits < 32)
  | .wrc _ _ b _ => b.wellFormed
  | .cmt _ b _ => b.wellFormed
  | .adopt _ b _ => b.wellFormed
  | .rst _ b _ => b.wellFormed
  | .alignFrame _ b _ => b.wellFormed
  | .badOpcodeFrame opcode _ _ => decide (opcode = 0) || decide (0x0A < opcode.toNat)
  | .resetN lowNs _ _ => decide (0 < lowNs)
  | .registerWrite _ _ _ _ => true
  | .rcRead _ _ _ _ => true
  | .latchingRead _ _ _ => true
  | .wideWrite _ _ _ _ => true
  | .frameMark _ _ => true
  | .flywheelStart _ _ => true
  | .flywheelTick _ _ => true
  | .sinkDelivery _ _ => true
  | .inputLatch _ _ => true
  | .roundStart _ _ => true
  | .matrixCompute _ => true
  | .publication _ _ => true
  | .budgetEnd _ => true
  | .nop _ _ => true
  | .mac _ => true
  | .dmac _ => true
  | .cmac _ => true
  | .clr _ => true
  | .adda _ => true
  | .mova _ => true
  | .absa _ => true
  | .ash _ => true
  | .lda _ => true
  | .addd _ => true
  | .subd _ => true
  | .rnd _ => true
  | .rndk _ => true
  | .cmp _ => true
  | .cmpa _ => true
  | .add _ => true
  | .sub _ => true
  | .min _ => true
  | .max _ => true
  | .abs _ => true
  | .neg _ => true
  | .and _ => true
  | .or _ => true
  | .xor _ => true
  | .shf _ => true
  | .mpyd _ => true
  | .ld _ _ => true
  | .st _ => true
  | .ldc _ _ => true
  | .stc _ => true
  | .setp _ _ => true
  | .getp _ _ => true
  | .rep _ => true
  | .final _ => true
  | .frd _ => true
  | .fwr _ => true
  | .movf _ => true
  | .movg _ => true
  | .mvi _ => true
  | .out _ => true
  | .hin _ => true
  | .sel _ => true
  | .ldi _ => true
  | .ldih _ => true
  | .glp _ => true
  | .farReturn _ _ _ => true
  | .farStall _ => true
  | .farWriteLand _ _ _ => true
  | .programWrite _ _ _ _ _ => true
  | .pointerConfigWrite _ _ _ _ _ _ => true
  | .engineStart _ _ => true
  | .engineArm _ _ => true
  | .engineStop _ _ => true
  | .recover _ _ => true
  | .retentionLost _ _ => true
  | .stageEntryWrite _ _ _ _ => true
  | .stageArm _ _ => true
  | .stageCancel _ _ => true
  | .stageCheckEnd _ _ => true
  | .commitNow _ _ => true
  | .schedule _ _ => true
  | .cancel _ _ => true
  | .revert _ _ => true
  | .commitDue _ _ _ => true
  | .reshelveEnd _ _ => true
  | .revertDone _ _ => true
  | .muteWrite _ _ _ => true
  | .zcTimeout _ _ => true
  | .fire _ _ _ => true
  | .streamPrefetch _ _ => true
  | .streamArrival _ _ _ => true
  | .tdmEnable _ _ => true
  | .tdmDisable _ _ => true
  | .maskWrite _ _ _ _ => true
  | .tdmMarkTimeout _ _ => true
  | .tdmStopTimeout _ _ => true
  | .stampRead _ _ _ => true
  | .bprxEnable _ _ => true
  | .bprxDisable _ _ => true
  | .preambleTimeout _ _ => true
  | .bptxEnable _ _ => true
  | .bptxDisable _ _ => true
  | .swap _ _ => true
  | .xclkLost _ => true
  | .xclkBack _ => true
  | .dcoCfgWrite _ _ => true
  | .xsettleEnd _ => true
  | .lockWindow _ _ => true
  | .clockSelectWrite _ _ _ => true
  | .clockSwitchDone _ _ _ => true
  | .gateClose _ _ => true
  | .rateAbsent _ _ => true
  | .align _ => true
  | .alignLoad _ => true
  | .rd _ _ _ => true
  | .rdc _ _ _ => true
  | .sts _ _ => true
  | .keep _ _ => true
  | .readReady _ _ _ => true
  | .readAbandoned _ _ => true
  | .postedComplete _ => true
  | .quarantine _ => true
  | .rawStart _ => true
  | .rawDone _ _ => true
  | .modeFault _ => true
  | .hownRise _ => true
  | .flashBoot _ => true
  | .flashReadEnd _ _ => true
  | .beginFull _ => true
  | .beginPartial _ => true
  | .abort _ => true
  | .restart _ => true
  | .imageStart _ => true
  | .stoppingEnd _ _ => true
  | .loadWindowWrite _ _ => true
  | .receiveTimeout _ => true
  | .verificationEnd _ => true
  | .applyEnd _ => true
  | .unitStart _ _ => true
  | .channelStart _ _ => true
  | .channelStop _ _ => true
  | .stopAll _ => true
  | .clearHalt _ => true
  | .descriptorFetch _ _ => true
  | .paceTick _ _ => true
  | .transactionComplete _ _ _ => true
  | .busError _ q _ => q.issued.length ≤ 16
  | .meterPowerUp _ => true
  | .seal _ _ => true
  | .unseal _ _ => true
  | .sealNChange _ _ => true
  | .meterSecond _ _ _ => true
  | .ltUpdate _ => true
  | .tapTimeout _ _ => true
  | .clockDegraded _ => true
  | .paramReload _ _ => true
  | .vinLoss _ _ => true
  | .powerUp _ _ => true
  | .railTimeout _ => true
  | .domainEnWrite _ _ => true
  | .domainDone _ _ => true
  | .storeLost _ _ => true
  | .sleep _ => true
  | .deepSleep _ => true
  | .run _ => true
  | .modeDone _ => true
  | .wake _ => true
  | .wakeGpio _ _ _ => true
  | .wakeResume _ => true
  | .auxFault _ _ => true
  | .auxRetry _ _ => true
  | .telemetryUpdate _ _ => true
  | .thermShut _ => true
  | .thermalCutoff _ _ => true
  | .romCheckEnd _ _ => true
  | .noLock _ => true
  | .rstModule _ _ => true
  | .rstCore _ => true
  | .rstDma _ => true
  | .rstRouter _ => true
  | .rstTdmLow _ => true
  | .rstTdmHigh _ => true
  | .rstBiphase _ => true
  | .rstSet _ _ => true
  | .doorbell _ _ => true
  | .ping _ => true
  | .imageLoad _ => true
  | .setControl _ => true
  | .eventFire _ => true
  | .eventListFire _ _ _ => true
  | .gpioEvent _ _ _ _ => true
  | .tickOutEnd _ _ => true
  | .unlock _ _ => true
  | .arbEng _ _ => true
  | .arbLower _ _ => true
  | .farLat _ _ _ => true
  | .bp _ _ _ => true
  | .bpExpiry _ _ => true
  | .hostNotready _ _ => true
  | .tickShift _ _ => true
  | .tickSuppress _ _ => true
  | .dcoOffset _ _ => true
  | .dmaErr _ _ => true
  | .slip _ _ => true
  | .loop _ _ => true
  | .badOpcodeCommand _ => true
  | .overVoltageRestart _ _ => true
  | .auxPowerGood _ _ _ => true
  | .testAccessPort _ _ => true

end Sys2Proof
end

