-- ==== Sys2Proof/Tests/Slice0.lean ====
section
/-!
SUPPORT. Tests: ill-formed commands that the well-formedness check refuses, worked values of the manual, and for each statement with hypotheses a
concrete state and operands that meet those of each of its clauses.
-/

open Sys2Proof Sys2Proof.Machine

namespace Sys2Proof.Tests

set_option Elab.async false

/-- Right after reset, but with every domain on. -/
def on : State := { State.reset with power := { Power.reset with on := List.range 21 } }

/-- With the registers at the addresses of `l` set. -/
def regs (s : State) (l : List (Nat × Word)) : State := l.foldl (fun s c => s.setReg c.1 c.2) s

/-- With FCLK and HCLK at half of ECLK, within the limits of R326. -/
def half : State := regs on [(0x202C, 0x102), (0x2030, 0x102)]

/-- With the memory words at the addresses of `l` set. -/
def words (s : State) (l : List (Nat × Word)) : State := l.foldl (fun s c => s.setWord c.1 c.2) s

/-- Engine `e` in a Round with the word `w` before it and the rest of its state as `f` has it. -/
def engine (e : Nat) (w : BitVec 64) (f : Engine → Engine := id) : State :=
  words (regs (on.setEng e (f { Engine.reset with st := .running, inRound := true, gain := 1 }))
    [(engReg e 0x010, 0x80000000), (engReg e 0x014, 100)]) [(progAddr e 0, w.setWidth 32), (progAddr e 0 + 4, (w >>> 32).setWidth 32)]

/-- A header with the check it needs. -/
def head (op : BitVec 5) (addr : List Bool := []) (device : BitVec 7 := 0) (gen : BitVec 4 := 0) : Head :=
  ⟨device, gen, some (crcOfBits (commandBits op ⟨device, gen, none, false⟩ ++ addr)), false⟩

/-- A partial image without sections: the header of R37, TRAILER_MARK and IMAGE_CRC. -/
def image : List Word :=
  let h : List Word := [0x54594C31, 0x00010000, 0x48320000, 0, 72] ++ List.replicate 10 0
  let b := h ++ [crc32 (bytesOf h), 0x5459454E]
  b ++ [crc32 (bytesOf b)]

/-- The meter with one good record, SEAL_N low since cycle 0 and SEAL_ARG as a seal command needs it. -/
def sealable (st : SealState) : State :=
  let m := { Meter.reset with sealSt := st, sealN := false, records := [⟨List.replicate 24 0, 0, 0, false, true⟩] }
  regs { on with meter := m } [(0x8011C, 24576000), (0x80020, 531900759)]

theorem crc_zeros_7 : (bytesOf (List.replicate 7 0)).foldl crc32Byte 0xFFFFFFFF = 0x7F8F8816 := by decide +kernel
theorem crc_word_8 : (bytesOf [24576000]).foldl crc32Byte 0x7F8F8816 = 0xF18C75F5 := by decide +kernel
theorem crc_zeros_16 : (bytesOf (List.replicate 8 0)).foldl crc32Byte 0xF18C75F5 = 0xBB0DF7D1 := by decide +kernel
theorem crc_zeros_24 : (bytesOf (List.replicate 8 0)).foldl crc32Byte 0xBB0DF7D1 ^^^ 0xFFFFFFFF = 531900759 := by decide +kernel

/-- That state once SEAL_N has been low long enough. -/
def pressed (st : SealState) : State := (sealable st).upTo 100000000

theorem sealable_check (st : SealState) : (pressed st).reg (blk 0x80 0x020) = (pressed st).sealCheck := by
  have h : (pressed st).params = List.replicate 7 0 ++ ([24576000] ++ (List.replicate 8 0 ++ List.replicate 8 0)) := by
    cases st <;> decide +kernel
  have e : (pressed st).reg (blk 0x80 0x020) = 531900759 := by cases st <;> decide +kernel
  rw [e, State.sealCheck, h, crc32]
  simp only [bytesOf, List.flatMap_append, List.foldl_append]
  exact ((congrArg (fun c => ((bytesOf (List.replicate 8 0)).foldl crc32Byte ((bytesOf (List.replicate 8 0)).foldl crc32Byte
    ((bytesOf [24576000]).foldl crc32Byte c)) ^^^ 0xFFFFFFFF)) crc_zeros_7).trans ((congrArg (fun c => ((bytesOf (List.replicate 8 0)).foldl
    crc32Byte ((bytesOf (List.replicate 8 0)).foldl crc32Byte c) ^^^ 0xFFFFFFFF)) crc_word_8).trans ((congrArg (fun c =>
    ((bytesOf (List.replicate 8 0)).foldl crc32Byte c) ^^^ 0xFFFFFFFF) crc_zeros_16).trans crc_zeros_24))).symm


/-! ### Ill-formed commands are refused by the well-formedness check -/

theorem test_shelf_write_outside_the_shelves : (Instr.shelfWrite .host 0x417FFC 7 0).wellFormed = false := by decide
theorem test_tdm_frame_of_33_slots : (Instr.tdmFrameMark 15 256 1 (List.replicate 33 7) 0).wellFormed = false := by decide
theorem test_tdm_frame_half_beyond_frame : (Instr.tdmFrameMark 15 256 257 [] 0).wellFormed = false := by decide
theorem test_tap_frame_of_33_slots : (Instr.tapFrame 1 256 1 (List.replicate 33 7) 0 0).wellFormed = false := by decide
theorem test_tap_frame_half_beyond_frame : (Instr.tapFrame 1 256 257 [] 0 0).wellFormed = false := by decide
theorem test_biphase_frame_of_no_length :
    (Instr.biphaseFrame 3 ⟨false, true, false, 0, ⟨0, false, false, false, false⟩, ⟨0, false, false, false, false⟩⟩ 0).wellFormed = false := by decide
theorem test_rate_measurement_of_no_period : (Instr.rateMeasurement 19 0 0 0).wellFormed = false := by decide
theorem test_wr_with_a_whole_word_beyond : (Instr.wr ⟨0, 0, none, false⟩ 0 [] 32 0).wellFormed = false := by decide
theorem test_wrc_with_a_whole_word_beyond : (Instr.wrc ⟨0, 0, none, false⟩ 0 ⟨[], 0, 32⟩ 0).wellFormed = false := by decide
theorem test_cmt_with_a_whole_word_beyond : (Instr.cmt ⟨0, 0, none, false⟩ ⟨[], 0, 32⟩ 0).wellFormed = false := by decide
theorem test_adopt_with_a_whole_word_beyond : (Instr.adopt ⟨0, 0, none, false⟩ ⟨[], 0, 32⟩ 0).wellFormed = false := by decide
theorem test_rst_with_a_whole_word_beyond : (Instr.rst ⟨0, 0, none, false⟩ ⟨[], 0, 32⟩ 0).wellFormed = false := by decide
theorem test_align_with_a_whole_word_beyond : (Instr.alignFrame ⟨0, 0, none, false⟩ ⟨[], 0, 32⟩ 0).wellFormed = false := by decide
theorem test_bad_opcode_frame_of_a_defined_opcode : (Instr.badOpcodeFrame 10 ⟨0, 0, none, false⟩ 0).wellFormed = false := by decide
theorem test_reset_pulse_of_no_length : (Instr.resetN 0 ⟨0, 0, 0, 0, false, false, false⟩ 0).wellFormed = false := by decide

/-! ### Worked values of the manual -/

/-- The state one step leaves, with `c` at the front of the queue. -/
def after (c : Instr) (s : State) : State :=
  match step { s with pending := [c] } with
  | .next u => u
  | _ => s

/-- R121's first case: a tie goes to the even neighbour below. -/
theorem test_round_tie_down : roundAcc (BitVec.toInt (0x002000000040000000 : Acc)) 0 = ⟨0x40000000, false⟩ := by decide
/-- R121's second case: a tie goes to the even neighbour above. -/
theorem test_round_tie_up : roundAcc (BitVec.toInt (0x0020000000C0000000 : Acc)) 0 = ⟨0x40000002, false⟩ := by decide
/-- R121's third and fourth cases: below zero. -/
theorem test_round_negative : roundAcc (BitVec.toInt (0xFFFFFFFFFFC0000000 : Acc)) 0 = ⟨0, false⟩ ∧
    roundAcc (BitVec.toInt (0xFFC000000000000000 : Acc)) 0 = ⟨0x80000000, false⟩ := by decide
/-- R121's last two cases: 3.25 shifted into range, and saturated. -/
theorem test_round_shift_and_saturation : roundAcc (BitVec.toInt (0x00D000000000000000 : Acc)) (-2) = ⟨0x68000000, false⟩ ∧
    roundAcc (BitVec.toInt (0x00D000000000000000 : Acc)) 0 = ⟨0x7FFFFFFF, true⟩ := by decide
/-- R121's text: RND with SH -8 of the guard limit saturates. -/
theorem test_round_guard_limit : roundAcc (BitVec.toInt (0x7FFFFFFFFFFFFFFFFF : Acc)) (-8) = ⟨0x7FFFFFFF, true⟩ := by decide

/-- R121's text: the 512th product of 1.0 takes A0 to the limit, sets the mark and OVG. -/
theorem test_mac_guard_saturation :
    let u := after (.mac 31) (engine 31 0x0800000000000000 fun x =>
      { x with d := [(0, 0x80000000)], acc := [(0, 0x7FC000000000000000)], accSource := [(0, 0x7FC000000000000000)] })
    ((u.eng 31).acc, (u.eng 31).mark) = ([(0, 0x7FFFFFFFFFFFFFFFFF)], [(0, true)]) := by decide +kernel
/-- R121's text: a marked accumulator keeps the limit. -/
theorem test_mac_keeps_the_limit :
    ((after (.mac 31) (engine 31 0x0800000000000000 fun x =>
      { x with d := [(0, 0x80000000)], acc := [(0, 0x7FFFFFFFFFFFFFFFFF)], mark := [(0, true)] })).eng 31).acc = [(0, 0x7FFFFFFFFFFFFFFFFF)] := by
  decide +kernel

/-- R127's example: LDIH with IMM 0x400 gives 0.5. -/
theorem test_ldih : ((after (.ldih 31) (engine 31 0xC3400)).eng 31).landings.map (fun l => (l.dest, l.val)) = [(.d 3, 0x40000000)] := by decide +kernel
/-- R127's example: LDI with IMM 0xFFF gives the integer -1. -/
theorem test_ldi : ((after (.ldi 31) (engine 31 0xB3FFF)).eng 31).landings.map (fun l => (l.dest, l.val)) = [(.d 3, 0xFFFFFFFF)] := by decide +kernel

/-- Section 12's example: an RDC to module 17 in generation 2. -/
theorem test_command_word : commandBits 2 ⟨17, 2, none, false⟩ = msbFirst (0x1112 : BitVec 16) := by decide
/-- R25's examples: ENGINE12 and TDM15. -/
theorem test_block_id : blockId 0x4C 0x40 = 0x400C0100 ∧ blockId 0x1F 0x10 = 0x100F0100 := by decide
/-- The check values the two CRCs are published with (outside the spec) for the digits 1 to 9: R41 and R361 give the same parameters. -/
theorem test_crc_check_values :
    crc32 [0x31, 0x32, 0x33, 0x34, 0x35, 0x36, 0x37, 0x38, 0x39] = 0xCBF43926 ∧
    crcOfBits (([0x31, 0x32, 0x33, 0x34, 0x35, 0x36, 0x37, 0x38, 0x39] : List Byte).flatMap msbFirst) = 0x29B1 := by decide +kernel

/-- Section 11's example, step 2: no mark has come by 13,600 cycles, and TB0 makes tick N + 1 in FLYWHEEL. -/
theorem test_flywheel_start :
    let u := (after (.flywheelStart 0 13600) (on.setTb 0 { Timebase.reset with st := .tracking, period := 12800 })).tb 0
    (u.st, u.tickNo, u.fly) = (.flywheel, 1, 1) := by decide +kernel
/-- One cycle earlier it does not. -/
theorem test_flywheel_not_yet :
    ((after (.flywheelStart 0 13599) (on.setTb 0 { Timebase.reset with st := .tracking, period := 12800 })).tb 0).st = .tracking := by
  decide +kernel
/-- Section 8's example: the gains of crosspoint (7, 40) in the four computes of a ramp from 0.5 to 1.0. -/
theorem test_crosspoint_ramp : [0, 1, 2, 3].map (XptRamp.gain ⟨0x100000, 0x200000, 4, 0⟩) = [0x140000, 0x180000, 0x1C0000, 0x200000] := by decide

/-! ### Witnesses: for each statement with hypotheses, a state and operands that meet those of each of its clauses -/

theorem landed_of {s : State} (h : ∀ e : Fin 32, s.laneWaits (.engine e) = false) (r : s.laneWaits .router = false) (l : LaneName) :
    s.laneWaits l = false :=
  match l with
  | .engine e => h e
  | .router => r

theorem witness_MultiplyAccumulate :
    (∃ (e : Fin 32) (s : State), s.issues e .arith 0x01 = true) ∧
    (∃ (e : Fin 32) (s : State), s.issues e .arith 0x02 = true) ∧
    (∃ (e : Fin 32) (s : State), let w := s.engWord e; s.issues e .arith 0x03 = true ∧ fCONJ w = false) ∧
    (∃ (e : Fin 32) (s : State), let w := s.engWord e; s.issues e .arith 0x03 = true ∧ fCONJ w = true) :=
  ⟨⟨31, engine 31 0x800000000000000, by decide +kernel⟩,
    ⟨31, engine 31 0x1000000000000000, by decide +kernel⟩,
    ⟨31, engine 31 0x1800000000000000, by decide +kernel⟩,
    ⟨31, engine 31 0x1800010000000000, by decide +kernel⟩⟩

theorem witness_AccumulatorOperations :
    (∃ (e : Fin 32) (s : State), s.issues e .arith 0x08 = true) ∧
    (∃ (e : Fin 32) (s : State), s.issues e .arith 0x09 = true) ∧
    (∃ (e : Fin 32) (s : State), s.issues e .arith 0x0A = true) ∧
    (∃ (e : Fin 32) (s : State), s.issues e .arith 0x0B = true) ∧
    (∃ (e : Fin 32) (s : State), s.issues e .arith 0x0C = true) ∧
    (∃ (e : Fin 32) (s : State), s.issues e .arith 0x0D = true) ∧
    (∃ (e : Fin 32) (s : State), s.issues e .arith 0x0E = true) ∧
    (∃ (e : Fin 32) (s : State), s.issues e .arith 0x0F = true) :=
  ⟨⟨31, engine 31 0x4000000000000000, by decide +kernel⟩,
    ⟨31, engine 31 0x4800000000000000, by decide +kernel⟩,
    ⟨31, engine 31 0x5000000000000000, by decide +kernel⟩,
    ⟨31, engine 31 0x5800000000000000, by decide +kernel⟩,
    ⟨31, engine 31 0x6000000000000000, by decide +kernel⟩,
    ⟨31, engine 31 0x6800000000000000, by decide +kernel⟩,
    ⟨31, engine 31 0x7000000000000000, by decide +kernel⟩,
    ⟨31, engine 31 0x7800000000000000, by decide +kernel⟩⟩

theorem witness_RoundingToNearestEven :
    (∃ (e : Fin 32) (s : State), s.issues e .arith 0x10 = true) ∧
    (∃ (e : Fin 32) (s : State), s.issues e .arith 0x11 = true) ∧
    (∃ (e : Fin 32) (s : State), s.issues e .arith 0x1E = true) :=
  ⟨⟨31, engine 31 0x8000000000000000, by decide +kernel⟩,
    ⟨31, engine 31 0x8800000000000000, by decide +kernel⟩,
    ⟨31, engine 31 0xF000000000000000, by decide +kernel⟩⟩

theorem witness_DataRegisterResultsAndCompareFlags :
    (∃ (e : Fin 32) (s : State), s.issues e .arith 0x14 = true) ∧
    (∃ (e : Fin 32) (s : State), s.issues e .arith 0x15 = true) ∧
    (∃ (e : Fin 32) (s : State), s.issues e .arith 0x16 = true) ∧
    (∃ (e : Fin 32) (s : State), s.issues e .arith 0x17 = true) ∧
    (∃ (e : Fin 32) (s : State), s.issues e .arith 0x18 = true) ∧
    (∃ (e : Fin 32) (s : State), s.issues e .arith 0x19 = true) ∧
    (∃ (e : Fin 32) (s : State), s.issues e .arith 0x1A = true) ∧
    (∃ (e : Fin 32) (s : State), s.issues e .arith 0x1B = true) ∧
    (∃ (e : Fin 32) (s : State), s.issues e .arith 0x1C = true) ∧
    (∃ (e : Fin 32) (s : State), s.issues e .arith 0x1D = true) ∧
    (∃ (e : Fin 32) (s : State), s.issues e .arith 0x12 = true) ∧
    (∃ (e : Fin 32) (s : State), s.issues e .arith 0x13 = true) :=
  ⟨⟨31, engine 31 0xA000000000000000, by decide +kernel⟩,
    ⟨31, engine 31 0xA800000000000000, by decide +kernel⟩,
    ⟨31, engine 31 0xB000000000000000, by decide +kernel⟩,
    ⟨31, engine 31 0xB800000000000000, by decide +kernel⟩,
    ⟨31, engine 31 0xC000000000000000, by decide +kernel⟩,
    ⟨31, engine 31 0xC800000000000000, by decide +kernel⟩,
    ⟨31, engine 31 0xD000000000000000, by decide +kernel⟩,
    ⟨31, engine 31 0xD800000000000000, by decide +kernel⟩,
    ⟨31, engine 31 0xE000000000000000, by decide +kernel⟩,
    ⟨31, engine 31 0xE800000000000000, by decide +kernel⟩,
    ⟨31, engine 31 0x9000000000000000, by decide +kernel⟩,
    ⟨31, engine 31 0x9800000000000000, by decide +kernel⟩⟩

theorem witness_LoadsAndStoresAtTheEffectiveAddress :
    (∃ (e : Fin 32) (s : State), s.issues e .xmove 1 = true) ∧
    (∃ (e : Fin 32) (s : State), s.issues e .ymove 1 = true) ∧
    (∃ (e : Fin 32) (s : State), s.issues e .xmove 3 = true) ∧
    (∃ (e : Fin 32) (s : State), s.issues e .ymove 3 = true) ∧
    (∃ (e : Fin 32) (s : State), s.issues e .xmove 2 = true) ∧
    (∃ (e : Fin 32) (s : State), s.issues e .xmove 4 = true) :=
  ⟨⟨31, engine 31 0x2000000000, by decide +kernel⟩,
    ⟨31, engine 31 0x8000000, by decide +kernel⟩,
    ⟨31, engine 31 0x6000000000, by decide +kernel⟩,
    ⟨31, engine 31 0x18000000, by decide +kernel⟩,
    ⟨31, engine 31 0x4000000000, by decide +kernel⟩,
    ⟨31, engine 31 0x8000000000, by decide +kernel⟩⟩

theorem witness_OnlyStoresChangeMemory :
    (∃ (e : Fin 32) (s t : State) (c : _), Safety.storesNothing c e ∧ exec c s = .next t) ∧
    (∃ (e : Fin 32) (s t : State) (k : _), let a := Safety.ea s e (movePtr (s.engWord e) .x); exec (.st e) s = .next t ∧ (k < xAddr e a ∨ xAddr e a + 4 ≤ k)) ∧
    (∃ (e : Fin 32) (s t : State) (k : _), let a := Safety.ea s e (movePtr (s.engWord e) .x); exec (.stc e) s = .next t ∧ (k < xAddr e (a / 2 * 2) ∨ xAddr e (a / 2 * 2) + 8 ≤ k)) :=
  ⟨⟨31, engine 31 0x800000000000000, _, .mac 31, ⟨List.mem_cons_self, rfl⟩⟩,
    ⟨31, engine 31 0x4000000000, _, _, ⟨rfl, Or.inr (Nat.le_refl _)⟩⟩,
    ⟨31, engine 31 0x8000000000, _, _, ⟨rfl, Or.inr (Nat.le_refl _)⟩⟩⟩

theorem witness_PointerOffsetsMove :
    (∃ (e : Fin 32) (u : MoveUnit) (s : State), let slot := match u with | .x => SlotName.xmove | .y => SlotName.ymove; s.issues e slot 5 = true) ∧
    (∃ (e : Fin 32) (u : MoveUnit) (s : State), let slot := match u with | .x => SlotName.xmove | .y => SlotName.ymove; s.issues e slot 6 = true) :=
  ⟨⟨31, .y, engine 31 0x28000000, by decide +kernel⟩,
    ⟨31, .x, engine 31 0xC000000000, by decide +kernel⟩⟩

theorem witness_PointerUpdateStaysInCircle :
    (∃ (e n : Nat) (s : State), let discarded := ∃ l ∈ (s.eng e).landings, l.dest = .pointer n ∧ l.due = (s.eng e).cyc + 1; discarded) ∧
    (∃ (e n : Nat) (s : State), let discarded := ∃ l ∈ (s.eng e).landings, l.dest = .pointer n ∧ l.due = (s.eng e).cyc + 1; ¬discarded ∧ s.ptrLen e n = 0) ∧
    (∃ (e n : Nat) (s : State), let discarded := ∃ l ∈ (s.eng e).landings, l.dest = .pointer n ∧ l.due = (s.eng e).cyc + 1; ¬discarded ∧ 1 ≤ s.ptrLen e n ∧ s.ptrLen e n ≤ 8192) :=
  ⟨⟨31, 7, on.setEng 31 { Engine.reset with cyc := 4, landings := [⟨5, 3, 0, .pointer 7, 9, false⟩] }, ⟨⟨5, 3, 0, .pointer 7, 9, false⟩, by decide +kernel⟩⟩,
    ⟨31, 7, on, ⟨fun ⟨_, m, _⟩ => List.not_mem_nil ((show (on.eng 31).landings = [] by decide +kernel) ▸ m), by decide +kernel⟩⟩,
    ⟨31, 7, on.setEng 31 { Engine.reset with ptrLive := [(28, 0x20000000)] },
      ⟨fun ⟨_, m, _⟩ => List.not_mem_nil ((show (State.eng (on.setEng 31 { Engine.reset with ptrLive := [(28, 0x20000000)] }) 31).landings = [] by
        decide +kernel) ▸ m), by decide +kernel⟩⟩⟩

theorem witness_ControlSlotValues :
    (∃ (e : Fin 32) (s : State), s.issues e .ctrl 6 = true) ∧
    (∃ (e : Fin 32) (s : State), let w := s.engWord e; let f := wf w; s.issues e .ctrl 7 = true ∧ f 11 10 = 0) ∧
    (∃ (e : Fin 32) (s : State), let w := s.engWord e; let f := wf w; s.issues e .ctrl 7 = true ∧ f 11 10 = 1) ∧
    (∃ (e : Fin 32) (s : State), let w := s.engWord e; let f := wf w; s.issues e .ctrl 7 = true ∧ f 11 10 = 2) ∧
    (∃ (e : Fin 32) (s : State), let w := s.engWord e; let x := s.eng e; let f := wf w; let odd := (s.reg (engReg e 0x030)).toNat % 2 = 1; let holds : Nat → Prop := fun c => (c = 0 ∧ x.lt = true) ∨ (c = 1 ∧ x.lt = false) ∨ (c = 2 ∧ x.eq = true) ∨ (c = 3 ∧ x.eq = false) ∨ (c = 4 ∧ x.lt = false ∧ x.eq = false) ∨ (c = 5 ∧ (x.lt = true ∨ x.eq = true)) ∨ (c = 6 ∧ x.ridx = 0) ∨ (c = 7 ∧ x.ridx ≠ 0) ∨ (c = 8 ∧ x.ridx + 1 = s.engK e) ∨ (c = 9 ∧ x.ridx + 1 ≠ s.engK e) ∨ (c = 10 ∧ odd) ∨ (c = 11 ∧ ¬odd); s.issues e .ctrl 0xA = true ∧ holds (f 15 12)) ∧
    (∃ (e : Fin 32) (s : State), let w := s.engWord e; let x := s.eng e; let f := wf w; let odd := (s.reg (engReg e 0x030)).toNat % 2 = 1; let holds : Nat → Prop := fun c => (c = 0 ∧ x.lt = true) ∨ (c = 1 ∧ x.lt = false) ∨ (c = 2 ∧ x.eq = true) ∨ (c = 3 ∧ x.eq = false) ∨ (c = 4 ∧ x.lt = false ∧ x.eq = false) ∨ (c = 5 ∧ (x.lt = true ∨ x.eq = true)) ∨ (c = 6 ∧ x.ridx = 0) ∨ (c = 7 ∧ x.ridx ≠ 0) ∨ (c = 8 ∧ x.ridx + 1 = s.engK e) ∨ (c = 9 ∧ x.ridx + 1 ≠ s.engK e) ∨ (c = 10 ∧ odd) ∨ (c = 11 ∧ ¬odd); s.issues e .ctrl 0xA = true ∧ ¬holds (f 15 12)) ∧
    (∃ (e : Fin 32) (s : State), s.issues e .ctrl 0xB = true) ∧
    (∃ (e : Fin 32) (s : State), s.issues e .ctrl 0xC = true) ∧
    (∃ (e : Fin 32) (s : State), let w := s.engWord e; let x := s.eng e; let f := wf w; s.issues e .ctrl 0xD = true ∧ x.slotRamp (f 11 6) = none) ∧
    (∃ (e : Fin 32) (s : State) (r : _), let w := s.engWord e; let x := s.eng e; let f := wf w; s.issues e .ctrl 0xD = true ∧ x.slotRamp (f 11 6) = some r ∧ 1 < r.len) :=
  ⟨⟨31, engine 31 0x60000, by decide +kernel⟩,
    ⟨31, engine 31 0x70000, by decide +kernel⟩,
    ⟨31, engine 31 0x70400, by decide +kernel⟩,
    ⟨31, engine 31 0x70800, by decide +kernel⟩,
    ⟨31, engine 31 0xA6000, by decide +kernel⟩,
    ⟨31, engine 31 0xA7000, by decide +kernel⟩,
    ⟨31, engine 31 0xB0800, by decide +kernel⟩,
    ⟨31, engine 31 0xC0FFF, by decide +kernel⟩,
    ⟨31, engine 31 0xD0FC0, by decide +kernel⟩,
    ⟨31, engine 31 0xD0FC0 fun x => { x with ramps := [⟨63, 0, 0, 1, 2, 1⟩] }, ⟨63, 0, 0, 1, 2, 1⟩, by decide +kernel⟩⟩

theorem witness_ControlSlotEffectsAndNoOperations :
    (∃ (e : Fin 32) (s : State), s.issues e .ctrl 8 = true) ∧
    (∃ (e : Fin 32) (s : State), let w := s.engWord e; let f := wf w; s.issues e .ctrl 5 = true ∧ f 13 12 = 0) ∧
    (∃ (e : Fin 32) (s : State), let w := s.engWord e; let f := wf w; s.issues e .ctrl 5 = true ∧ f 13 12 = 1) ∧
    (∃ (e : Fin 32) (s : State), let w := s.engWord e; let f := wf w; s.issues e .ctrl 5 = true ∧ f 13 12 = 2) ∧
    (∃ (e : Fin 32) (s : State), let w := s.engWord e; let f := wf w; s.issues e .ctrl 2 = true ∧ f 7 7 = 0) ∧
    (∃ (e : Fin 32) (s : State), let w := s.engWord e; let f := wf w; s.issues e .ctrl 2 = true ∧ f 7 7 = 1) ∧
    (∃ (e : Fin 32) (s : State), s.issues e .ctrl 1 = true) ∧
    (∃ (e : Fin 32) (slot : SlotName) (s : State), s.ready e slot = true ∧ s.wordFault e = false ∧ slotLegal (s.engWord e) slot = true ∧ slotOp (s.engWord e) slot = 0 ∧ s.engWordBad e = false) ∧
    (∃ (e : Fin 32) (slot : SlotName) (s : State), s.ready e slot = true ∧ s.engWordBad e = false ∧ (s.wordFault e = true ∨ slotLegal (s.engWord e) slot = false)) ∧
    (∃ (e : Fin 32) (slot : SlotName) (s : State), s.ready e slot = true ∧ s.engWordBad e = true) :=
  ⟨⟨31, engine 31 0x80000, by decide +kernel⟩,
    ⟨31, engine 31 0x50000, by decide +kernel⟩,
    ⟨31, engine 31 0x51000, by decide +kernel⟩,
    ⟨31, engine 31 0x52000, by decide +kernel⟩,
    ⟨31, engine 31 0x20000, by decide +kernel⟩,
    ⟨31, engine 31 0x2FF80, by decide +kernel⟩,
    ⟨31, engine 31 0x10001, by decide +kernel⟩,
    ⟨31, .ctrl, engine 31 0x0, by decide +kernel⟩,
    ⟨31, .arith, engine 31 0x2000000000000000, by decide +kernel⟩,
    ⟨31, .ctrl, { engine 31 0 with parityBad := [(progAddr 31 0 + 4, true)] }, by decide +kernel⟩⟩

theorem witness_HandoffReads :
    (∃ (e : Fin 32) (s : State), let w := s.engWord e; let p := wf w 11 10; let declared := bit (s.reg (blk (0x60 + e / 4) 0x014)) (4 * (e % 4) + p); s.issues e .ctrl 9 = true ∧ declared = false) ∧
    (∃ (e : Fin 32) (s : State), let w := s.engWord e; let p := wf w 11 10; let writer := e / 4 * 4 + p; let y := s.eng writer; let declared := bit (s.reg (blk (0x60 + e / 4) 0x014)) (4 * (e % 4) + p); let live := y.st = .running ∧ s.holding (s.engTb writer) = false; let fresh := y.pubTag = some (s.tb (s.engTb e)).tickNo; s.issues e .ctrl 9 = true ∧ declared = true ∧ (¬live ∨ fresh)) ∧
    (∃ (e : Fin 32) (s : State), let w := s.engWord e; let p := wf w 11 10; let writer := e / 4 * 4 + p; let y := s.eng writer; let declared := bit (s.reg (blk (0x60 + e / 4) 0x014)) (4 * (e % 4) + p); let live := y.st = .running ∧ s.holding (s.engTb writer) = false; let fresh := y.pubTag = some (s.tb (s.engTb e)).tickNo; s.issues e .ctrl 9 = true ∧ declared = true ∧ live ∧ ¬fresh) :=
  ⟨⟨1, engine 1 0x90000, by decide +kernel⟩,
    ⟨1, regs (engine 1 0x90000) [(blk 0x60 0x014, 0x10)], by decide +kernel⟩,
    ⟨1, ((regs (engine 1 0x90000) [(blk 0x60 0x014, 0x10)]).setEng 0 { Engine.reset with st := .running }).setTb 0 { Timebase.reset with st := .tracking }, by decide +kernel⟩⟩

theorem witness_RoundStartsWithItsInputs :
    (∃ (e : Fin 32) (t : Nat) (s0 : State), let s := s0.upTo t; s.roundDue e = true ∧ (s.eng e).skipTick ≠ some (s.engTickNo e) ∧ (s.eng e).latched ≠ some (s.engTickNo e)) ∧
    (∃ (e : Fin 32) (t : Nat) (s0 : State), let s := s0.upTo t; s.roundDue e = true) :=
  ⟨⟨31, 0, ((engine 31 0 fun x => { x with inRound := false, published := true }).setTb 0 { Timebase.reset with st := .tracking, tickNo := 1 }), by decide +kernel⟩,
    ⟨31, 0, ((engine 31 0 fun x => { x with inRound := false, published := true }).setTb 0 { Timebase.reset with st := .tracking, tickNo := 1 }), by decide +kernel⟩⟩

theorem witness_PublicationScalesOutputs :
    ∃ (e : Fin 32) (t : Nat) (s0 : State), let s := s0.upTo t; (s.eng e).awaits = true ∧ s.lateGroups e = [] ∧ (s.eng e).stopping = false ∧ (s.eng e).stopAtEnd = false :=
  ⟨31, 0, engine 31 0 fun x => { x with inRound := false, roundTick := some 1 }, by decide +kernel⟩

theorem witness_WordsIssueAndTheBudgetEnds :
    (∃ (e : Fin 32) (s : State), s.engStructBad e = false ∧ (s.eng e).st = .running ∧ (s.eng e).inRound = true ∧ (s.eng e).slotsDone = [] ∧ s.engBudget e ≤ (s.eng e).issued ∧ s.engK e ≤ (s.eng e).ridx + 1) ∧
    (∃ (e : Fin 32) (s : State), s.engStructBad e = false ∧ (s.eng e).st = .running ∧ (s.eng e).inRound = true ∧ (s.eng e).slotsDone = [] ∧ s.engBudget e ≤ (s.eng e).issued ∧ (s.eng e).ridx + 1 < s.engK e) ∧
    (∃ (e : Nat) (l : List SlotName) (s : State), let x := s.eng e; let done := l ++ x.slotsDone; let whole := SlotName.arith ∈ done ∧ SlotName.xmove ∈ done ∧ SlotName.ymove ∈ done ∧ SlotName.ctrl ∈ done; ¬whole) ∧
    (∃ (e : Nat) (l : List SlotName) (s : State), let x := s.eng e; let done := l ++ x.slotsDone; let whole := SlotName.arith ∈ done ∧ SlotName.xmove ∈ done ∧ SlotName.ymove ∈ done ∧ SlotName.ctrl ∈ done; whole ∧ x.finalSeen = false ∧ x.issued + 1 < s.engBudget e ∧ x.repeatTo = none ∧ x.far = []) ∧
    (∃ (e : Nat) (l : List SlotName) (s : State), let x := s.eng e; let done := l ++ x.slotsDone; let whole := SlotName.arith ∈ done ∧ SlotName.xmove ∈ done ∧ SlotName.ymove ∈ done ∧ SlotName.ctrl ∈ done; whole ∧ x.finalSeen = false ∧ x.issued + 1 < s.engBudget e ∧ x.repeatTo = none ∧ x.far = [] ∧ x.blocks = []) ∧
    (∃ (e : Nat) (l : List SlotName) (s : State) (b : _) (r : _), let x := s.eng e; let done := l ++ x.slotsDone; let whole := SlotName.arith ∈ done ∧ SlotName.xmove ∈ done ∧ SlotName.ymove ∈ done ∧ SlotName.ctrl ∈ done; whole ∧ x.finalSeen = false ∧ x.issued + 1 < s.engBudget e ∧ x.repeatTo = none ∧ x.far = [] ∧ x.blocks = b :: r ∧ b.last ≠ x.pc) ∧
    (∃ (e : Nat) (l : List SlotName) (s : State) (b : _) (r : _), let x := s.eng e; let done := l ++ x.slotsDone; let whole := SlotName.arith ∈ done ∧ SlotName.xmove ∈ done ∧ SlotName.ymove ∈ done ∧ SlotName.ctrl ∈ done; whole ∧ x.finalSeen = false ∧ x.issued + 1 < s.engBudget e ∧ x.repeatTo = none ∧ x.far = [] ∧ x.blocks = b :: r ∧ b.last = x.pc ∧ 1 < (look 0 x.lc r.length).toNat) ∧
    (∃ (e : Nat) (l : List SlotName) (s : State) (b : _), let x := s.eng e; let done := l ++ x.slotsDone; let whole := SlotName.arith ∈ done ∧ SlotName.xmove ∈ done ∧ SlotName.ymove ∈ done ∧ SlotName.ctrl ∈ done; whole ∧ x.finalSeen = false ∧ x.issued + 1 < s.engBudget e ∧ x.repeatTo = none ∧ x.far = [] ∧ x.blocks = [b] ∧ b.last = x.pc ∧ (look 0 x.lc 0).toNat ≤ 1) ∧
    (∃ (e : Nat) (l : List SlotName) (s : State) (last : _), let x := s.eng e; let done := l ++ x.slotsDone; let whole := SlotName.arith ∈ done ∧ SlotName.xmove ∈ done ∧ SlotName.ymove ∈ done ∧ SlotName.ctrl ∈ done; whole ∧ x.finalSeen = false ∧ x.issued + 1 < s.engBudget e ∧ x.far = [] ∧ x.repeatTo = some (0, last) ∧ x.blocks = []) ∧
    (∃ (e : Nat) (l : List SlotName) (s : State), let x := s.eng e; let done := l ++ x.slotsDone; let whole := SlotName.arith ∈ done ∧ SlotName.xmove ∈ done ∧ SlotName.ymove ∈ done ∧ SlotName.ctrl ∈ done; whole ∧ x.finalSeen = false ∧ s.engBudget e ≤ x.issued + 1 ∧ x.repeatTo = none) ∧
    (∃ (e : Nat) (l : List SlotName) (s : State) (n : _) (last : _), let x := s.eng e; let done := l ++ x.slotsDone; let whole := SlotName.arith ∈ done ∧ SlotName.xmove ∈ done ∧ SlotName.ymove ∈ done ∧ SlotName.ctrl ∈ done; whole ∧ x.finalSeen = false ∧ x.far = [] ∧ x.repeatTo = some (n + 1, last)) :=
  ⟨⟨31, engine 31 0 fun x => { x with issued := 100 }, by decide +kernel⟩,
    ⟨31, regs (engine 31 0 fun x => { x with issued := 100 }) [(engReg 31 0x010, 0x80000100)], by decide +kernel⟩,
    ⟨31, [], on, by decide +kernel⟩,
    ⟨31, [.ctrl], regs (on.setEng 31 { Engine.reset with slotsDone := [.arith, .xmove, .ymove] }) [(engReg 31 0x014, 100)], by decide +kernel⟩,
    ⟨31, [.ctrl], regs (on.setEng 31 { Engine.reset with slotsDone := [.arith, .xmove, .ymove] }) [(engReg 31 0x014, 100)], by decide +kernel⟩,
    ⟨31, [.ctrl], regs (on.setEng 31 { Engine.reset with slotsDone := [.arith, .xmove, .ymove], blocks := [⟨0, 1⟩] }) [(engReg 31 0x014, 100)], ⟨0, 1⟩, [], by decide +kernel⟩,
    ⟨31, [.ctrl], regs (on.setEng 31 { Engine.reset with slotsDone := [.arith, .xmove, .ymove], blocks := [⟨0, 0⟩], lc := [(0, 2)] }) [(engReg 31 0x014, 100)], ⟨0, 0⟩, [], by decide +kernel⟩,
    ⟨31, [.ctrl], regs (on.setEng 31 { Engine.reset with slotsDone := [.arith, .xmove, .ymove], blocks := [⟨0, 0⟩], lc := [(0, 1)] }) [(engReg 31 0x014, 100)], ⟨0, 0⟩, by decide +kernel⟩,
    ⟨31, [.ctrl], regs (on.setEng 31 { Engine.reset with slotsDone := [.arith, .xmove, .ymove], repeatTo := some (0, 4095) }) [(engReg 31 0x014, 100)], 4095, by decide +kernel⟩,
    ⟨31, [.ctrl], on.setEng 31 { Engine.reset with slotsDone := [.arith, .xmove, .ymove] }, by decide +kernel⟩,
    ⟨31, [.ctrl], on.setEng 31 { Engine.reset with slotsDone := [.arith, .xmove, .ymove], repeatTo := some (65535, 1) }, 65534, 1, by decide +kernel⟩⟩

theorem witness_EngineCommands :
    (∃ (e : Fin 32) (t : Nat) (s0 : State), let s := s0.upTo t; let x := s.eng e; s.unitOn (e / 4 + 1) = true ∧ s.loader.st ≠ .applying ∧ x.st = .stopped ∧ s.engBudget e ≠ 0) ∧
    (∃ (e : Fin 32) (t : Nat) (s0 : State), let s := s0.upTo t; let x := s.eng e; let c := fld (s.reg (engReg e 0x024)) 15 0 * 2 ^ 32 + (s.reg (engReg e 0x020)).toNat; s.unitOn (e / 4 + 1) = true ∧ s.loader.st ≠ .applying ∧ x.st = .stopped ∧ s.engBudget e ≠ 0 ∧ s.tickCount.toNat < c) ∧
    (∃ (e : Fin 32) (t : Nat) (s0 : State), let s := s0.upTo t; let x := s.eng e; let c := fld (s.reg (engReg e 0x024)) 15 0 * 2 ^ 32 + (s.reg (engReg e 0x020)).toNat; s.unitOn (e / 4 + 1) = true ∧ s.loader.st ≠ .applying ∧ x.st = .stopped ∧ s.engBudget e ≠ 0 ∧ c ≤ s.tickCount.toNat) ∧
    (∃ (e : Fin 32) (t : Nat) (s0 : State), let s := s0.upTo t; let x := s.eng e; s.unitOn (e / 4 + 1) = true ∧ s.loader.st ≠ .applying ∧ x.st = .armed) ∧
    (∃ (e : Fin 32) (t : Nat) (s0 : State), let s := s0.upTo t; let x := s.eng e; s.unitOn (e / 4 + 1) = true ∧ s.loader.st ≠ .applying ∧ x.st = .running ∧ (s.holding (s.engTb e) = false ∨ x.gain ≠ 0)) ∧
    (∃ (e : Fin 32) (t : Nat) (s0 : State), let s := s0.upTo t; let x := s.eng e; s.unitOn (e / 4 + 1) = true ∧ s.loader.st ≠ .applying ∧ x.st = .faulted) ∧
    (∃ (e : Fin 32) (t : Nat) (s0 : State), let s := s0.upTo t; let x := s.eng e; s.unitOn (e / 4 + 1) = true ∧ s.loader.st ≠ .applying ∧ x.st ≠ .stopped) ∧
    (∃ (e : Fin 32) (t : Nat) (s0 : State), let s := s0.upTo t; let x := s.eng e; s.unitOn (e / 4 + 1) = true ∧ s.loader.st ≠ .applying ∧ x.st ≠ .faulted) :=
  ⟨⟨31, 0, regs (on.setEng 31 { Engine.reset with st := .stopped }) [(engReg 31 0x014, 1)], by decide +kernel⟩,
    ⟨31, 0, regs (on.setEng 31 { Engine.reset with st := .stopped }) [(engReg 31 0x014, 1), (engReg 31 0x020, 1)], by decide +kernel⟩,
    ⟨31, 0, regs (on.setEng 31 { Engine.reset with st := .stopped }) [(engReg 31 0x014, 1)], by decide +kernel⟩,
    ⟨31, 0, regs (on.setEng 31 { Engine.reset with st := .armed }) [(engReg 31 0x014, 1)], by decide +kernel⟩,
    ⟨31, 0, regs (on.setEng 31 { Engine.reset with st := .running, gain := 1 }) [(engReg 31 0x014, 1)], by decide +kernel⟩,
    ⟨31, 0, regs (on.setEng 31 { Engine.reset with st := .faulted }) [(engReg 31 0x014, 1)], by decide +kernel⟩,
    ⟨31, 0, regs (on.setEng 31 { Engine.reset with st := .off }) [(engReg 31 0x014, 1)], by decide +kernel⟩,
    ⟨31, 0, regs (on.setEng 31 { Engine.reset with st := .off }) [(engReg 31 0x014, 1)], by decide +kernel⟩⟩

theorem witness_ProgramAndPointerWrites :
    (∃ (e : Fin 32) (n : BitVec 12) (hi : Bool) (p : Fin 8) (f : PtrField) (w : Word) (t : Nat) (s0 : State), let s := s0.upTo t; let on := s.unitOn (e / 4 + 1) = true; let st := (s.eng e).st; s.loader.st ≠ .applying ∧ on ∧ (st = .off ∨ st = .stopped ∨ st = .faulted)) ∧
    (∃ (e : Fin 32) (n : BitVec 12) (hi : Bool) (p : Fin 8) (f : PtrField) (w : Word) (t : Nat) (s0 : State), let s := s0.upTo t; let on := s.unitOn (e / 4 + 1) = true; let st := (s.eng e).st; s.loader.st ≠ .applying ∧ on ∧ (st = .armed ∨ st = .running)) ∧
    (∃ (e : Fin 32) (n : BitVec 12) (hi : Bool) (p : Fin 8) (f : PtrField) (w : Word) (t : Nat) (s0 : State), let s := s0.upTo t; let on := s.unitOn (e / 4 + 1) = true; s.loader.st ≠ .applying ∧ ¬on) ∧
    (∃ (e : Fin 32) (n : BitVec 12) (hi : Bool) (p : Fin 8) (f : PtrField) (w : Word) (t : Nat) (s0 : State), let s := s0.upTo t; let r := engReg e (match f with | .cfg => 0x100 + 16 * p.val | .mod => 0x104 + 16 * p.val | .init => 0x108 + 16 * p.val); let on := s.unitOn (e / 4 + 1) = true; let st := (s.eng e).st; s.loader.st ≠ .applying ∧ on ∧ legalWrite r (rowAt r).rw w = true ∧ st = .running) ∧
    (∃ (e : Fin 32) (n : BitVec 12) (hi : Bool) (p : Fin 8) (f : PtrField) (w : Word) (t : Nat) (s0 : State), let s := s0.upTo t; let r := engReg e (match f with | .cfg => 0x100 + 16 * p.val | .mod => 0x104 + 16 * p.val | .init => 0x108 + 16 * p.val); let on := s.unitOn (e / 4 + 1) = true; let st := (s.eng e).st; s.loader.st ≠ .applying ∧ on ∧ legalWrite r (rowAt r).rw w = true ∧ st ≠ .running) ∧
    (∃ (e : Fin 32) (n : BitVec 12) (hi : Bool) (p : Fin 8) (f : PtrField) (w : Word) (t : Nat) (s0 : State), let s := s0.upTo t; let r := engReg e (match f with | .cfg => 0x100 + 16 * p.val | .mod => 0x104 + 16 * p.val | .init => 0x108 + 16 * p.val); let on := s.unitOn (e / 4 + 1) = true; s.loader.st ≠ .applying ∧ on ∧ legalWrite r (rowAt r).rw w = false) :=
  ⟨⟨31, 4095, true, 7, .mod, 0, 0, regs (on.setEng 31 { Engine.reset with st := .faulted }) [(engReg 31 0x014, 1)], by decide +kernel⟩,
    ⟨31, 4095, true, 7, .mod, 0, 0, regs (on.setEng 31 { Engine.reset with st := .armed }) [(engReg 31 0x014, 1)], by decide +kernel⟩,
    ⟨31, 4095, true, 7, .mod, 0, 0, State.reset, by decide +kernel⟩,
    ⟨31, 4095, true, 7, .mod, 0, 0, regs (on.setEng 31 { Engine.reset with st := .running, gain := 1 }) [(engReg 31 0x014, 1)], by decide +kernel⟩,
    ⟨31, 4095, true, 7, .mod, 0, 0, regs (on.setEng 31 { Engine.reset with st := .stopped }) [(engReg 31 0x014, 1)], by decide +kernel⟩,
    ⟨31, 4095, true, 7, .cfg, 0x3FFF0000, 0, regs (on.setEng 31 { Engine.reset with st := .stopped }) [(engReg 31 0x014, 1)], by decide +kernel⟩⟩

theorem witness_RegisterWritesFollowAccessCodes :
    (∃ (by_ : Requester) (addr : Addr) (w : Word) (t : Nat) (s0 : State), let s := s0.upTo t; let a := wordOf addr.toNat; let b := a / 0x1000; let plain := regionOf a = some (.control b) ∧ (b = 0x00 ∨ b = 0x05 ∨ b = 0x0B ∨ b = 0x30 ∨ b = 0x32 ∨ (0x60 ≤ b ∧ b < 0x68)) ∧ s.reaches (.control b) a = true; (by_ = .host → s.loader.st ≠ .applying ∧ (inCore addr.toNat = true → (s.cross 70).active = false)) ∧ plain ∧ a % 0x1000 ≠ 4 ∧ legalWrite a (rowAt a).rw w = true) ∧
    (∃ (by_ : Requester) (addr : Addr) (w : Word) (t : Nat) (s0 : State), let s := s0.upTo t; let a := wordOf addr.toNat; let b := a / 0x1000; let plain := regionOf a = some (.control b) ∧ (b = 0x00 ∨ b = 0x05 ∨ b = 0x0B ∨ b = 0x30 ∨ b = 0x32 ∨ (0x60 ≤ b ∧ b < 0x68)) ∧ s.reaches (.control b) a = true; (by_ = .host → s.loader.st ≠ .applying ∧ (inCore addr.toNat = true → (s.cross 70).active = false)) ∧ plain ∧ a % 0x1000 ≠ 4 ∧ legalWrite a (rowAt a).rw w = false) ∧
    (∃ (by_ : Requester) (addr : Addr) (w : Word) (t : Nat) (s0 : State), let s := s0.upTo t; let a := wordOf addr.toNat; let b := a / 0x1000; let plain := regionOf a = some (.control b) ∧ (b = 0x00 ∨ b = 0x05 ∨ b = 0x0B ∨ b = 0x30 ∨ b = 0x32 ∨ (0x60 ≤ b ∧ b < 0x68)) ∧ s.reaches (.control b) a = true; let set := look (0, 0) s.eventSet a; (by_ = .host → s.loader.st ≠ .applying ∧ (inCore addr.toNat = true → (s.cross 70).active = false)) ∧ plain ∧ a % 0x1000 = 4 ∧ set.1 ≠ s.now) ∧
    (∃ (by_ : Requester) (addr : Addr) (w : Word) (t : Nat) (s0 : State), let s := s0.upTo t; let a := wordOf addr.toNat; let b := a / 0x1000; let plain := regionOf a = some (.control b) ∧ (b = 0x00 ∨ b = 0x05 ∨ b = 0x0B ∨ b = 0x30 ∨ b = 0x32 ∨ (0x60 ≤ b ∧ b < 0x68)) ∧ s.reaches (.control b) a = true; let set := look (0, 0) s.eventSet a; (by_ = .host → s.loader.st ≠ .applying ∧ (inCore addr.toNat = true → (s.cross 70).active = false)) ∧ plain ∧ a % 0x1000 = 4 ∧ set.1 = s.now) ∧
    (∃ (by_ : Requester) (addr : Addr) (w : Word) (t : Nat) (s0 : State) (r : _), let s := s0.upTo t; let a := wordOf addr.toNat; let lands := s.lowerHold (bankClass by_) = 0 ∧ s.hostCrosses a = false ∧ (by_ = .core → s.fclkFast = false); (by_ = .host → s.loader.st ≠ .applying ∧ (inCore addr.toNat = true → (s.cross 70).active = false)) ∧ regionOf a = some r ∧ r.isData = true ∧ s.reaches r a = true ∧ lands ∧ (by_ = .core → r ≠ .store)) ∧
    (∃ (by_ : Requester) (addr : Addr) (w : Word) (t : Nat) (s0 : State), let s := s0.upTo t; let a := wordOf addr.toNat; let lands := s.lowerHold (bankClass by_) = 0 ∧ s.hostCrosses a = false ∧ (by_ = .core → s.fclkFast = false); (by_ = .host → s.loader.st ≠ .applying ∧ (inCore addr.toNat = true → (s.cross 70).active = false)) ∧ by_ = .core ∧ regionOf a = some .store ∧ s.reaches .store a = true ∧ lands) ∧
    (∃ (by_ : Requester) (addr : Addr) (w : Word) (t : Nat) (s0 : State) (r : _), let s := s0.upTo t; let a := wordOf addr.toNat; (by_ = .host → s.loader.st ≠ .applying ∧ (inCore addr.toNat = true → (s.cross 70).active = false)) ∧ regionOf a = some r ∧ s.reaches r a = false) ∧
    (∃ (by_ : Requester) (addr : Addr) (w : Word) (t : Nat) (s0 : State), let s := s0.upTo t; let a := wordOf addr.toNat; (by_ = .host → s.loader.st ≠ .applying ∧ (inCore addr.toNat = true → (s.cross 70).active = false)) ∧ regionOf a = none) :=
  ⟨⟨.host, 0x040, 4, 0, on, by decide +kernel⟩,
    ⟨.host, 0xB040, 7, 0, on, by decide +kernel⟩,
    ⟨.host, 0x04, 1, 1, on, by decide +kernel⟩,
    ⟨.host, 0x04, 1, 0, on, by decide +kernel⟩,
    ⟨.host, 0x2FFFFFC, 7, 0, on, .store, by decide +kernel⟩,
    ⟨.core, 0x2FFFFFC, 7, 0, half, by decide +kernel⟩,
    ⟨.host, 0x2FFFFFC, 7, 0, State.reset, .store, by decide +kernel⟩,
    ⟨.host, 0xFFFFFFC, 7, 0, on, by decide +kernel⟩⟩

theorem witness_ReadsClearLatchAndWideWritesTakeEffectWhole :
    (∃ (by_ : Requester) (addr : Addr) (hit : Bool) (t : Nat) (s0 : State), let s := s0.upTo t; let a := wordOf addr.toNat; let b := a / 0x1000; (by_ = .host → s.loader.st ≠ .applying) ∧ regionOf a = some (.control b) ∧ (b = 0x00 ∨ b = 0x32 ∨ (0x40 ≤ b ∧ b < 0x60)) ∧ s.reaches (.control b) a = true ∧ (rowAt a).rc = 0xFFFFFFFF ∧ s.bad a = false) ∧
    (∃ (by_ : Requester) (addr : Addr) (hit : Bool) (t : Nat) (s0 : State), let s := s0.upTo t; let a := wordOf addr.toNat; (by_ = .host → s.loader.st ≠ .applying) ∧ a = 0x3010 ∧ s.bad a = false) ∧
    (∃ (by_ : Requester) (addr : Addr) (hit : Bool) (t : Nat) (s0 : State), let s := s0.upTo t; let a := wordOf addr.toNat; (by_ = .host → s.loader.st ≠ .applying) ∧ a = 0x3014 ∧ s.bad a = false) ∧
    (∃ (by_ : Requester) (low high : Addr) (w : Word) (t : Nat) (s0 : State), let s := s0.upTo t; let a := high.toNat; (by_ = .host → s.loader.st ≠ .applying) ∧ (a = 0x301C ∨ a = 0xA018 ∨ ∃ e : Fin 32, a = engReg e 0x024 ∧ s.unitOn (e / 4 + 1) = true) ∧ low.toNat + 4 = a) :=
  ⟨⟨.host, 0x04003C, true, 0, on, by decide +kernel⟩,
    ⟨.core, 0x3010, false, 0, on, by decide +kernel⟩,
    ⟨.core, 0x3014, false, 0, on, by decide +kernel⟩,
    ⟨.host, 0x3018, 0x301C, 0, 0, on, by decide +kernel⟩⟩

theorem witness_FrameMarksTickOrCount :
    (∃ (n : Fin 4) (t : Nat) (s0 : State), let s := s0.upTo t; let now := s.now; let x := s.tb n; let since := ((now - x.ref : Nat) : Rat); s.tbBad n = false ∧ s.marksSeen n = true ∧ s.eclkRuns = true ∧ (n = 0 → fld (s.control 0x0F8) 9 0 = 0) ∧ s.tickShiftOf n = 0 ∧ x.st = .tracking ∧ since < 3 / 4 * x.period) ∧
    (∃ (n : Fin 4) (t : Nat) (s0 : State) (r : _), let s := s0.upTo t; let now := s.now; let x := s.tb n; let since := ((now - x.ref : Nat) : Rat); s.tbBad n = false ∧ s.marksSeen n = true ∧ s.eclkRuns = true ∧ (n = 0 → fld (s.control 0x0F8) 9 0 = 0) ∧ s.tickShiftOf n = 0 ∧ x.st = .tracking ∧ 3 / 4 * x.period ≤ since ∧ since ≤ 17 / 16 * x.period ∧ x.closeRun < 16 ∧ x.realTick = some r) ∧
    (∃ (n : Fin 4) (t : Nat) (s0 : State), let s := s0.upTo t; let x := s.tb n; s.tbBad n = false ∧ s.marksSeen n = true ∧ s.eclkRuns = true ∧ (n = 0 → fld (s.control 0x0F8) 9 0 = 0) ∧ s.tickShiftOf n = 0 ∧ (x.st = .acquire ∨ x.st = .hold) ∧ x.acq.length < 3) :=
  ⟨⟨3, 767, (regs on [(blk 3 0x0A0, 0x30)]).setTb 3 { Timebase.reset with st := .tracking, period := 1024, ref := 0 }, by decide +kernel⟩,
    ⟨3, 768, (regs on [(blk 3 0x0A0, 0x30)]).setTb 3 { Timebase.reset with st := .tracking, period := 1024, realTick := some 0 }, 0, by decide +kernel⟩,
    ⟨3, 0, (regs on [(blk 3 0x0A0, 0x30)]).setTb 3 { Timebase.reset with st := .hold, period := 1024, acq := [1, 1] }, by decide +kernel⟩⟩

theorem witness_FlywheelTicksThenHolds :
    (∃ (n : Fin 4) (t : Nat) (s0 : State), let s := s0.upTo t; let now := s.now; let x := s.tb n; let since := ((now - x.ref : Nat) : Int); s.tbBad n = false ∧ s.tickShiftOf n = 0 ∧ x.st = .tracking ∧ x.closeRun < 16 ∧ ⌊17 / 16 * x.period⌋ ≤ since) ∧
    (∃ (n : Fin 4) (t : Nat) (s0 : State), let s := s0.upTo t; let now := s.now; let x := s.tb n; let since := ((now - x.ref : Nat) : Int); s.tbBad n = false ∧ s.tickShiftOf n = 0 ∧ x.st = .flywheel ∧ x.fly < 256 ∧ ⌊x.period⌋ ≤ since) ∧
    (∃ (n : Fin 4) (t : Nat) (s0 : State), let s := s0.upTo t; let now := s.now; let x := s.tb n; let since := ((now - x.ref : Nat) : Int); s.tbBad n = false ∧ s.tickShiftOf n = 0 ∧ x.st = .flywheel ∧ 256 ≤ x.fly ∧ ⌊x.period⌋ ≤ since) :=
  ⟨⟨3, 1088, (on).setTb 3 { Timebase.reset with st := .tracking, period := 1024, ref := 0 }, by decide +kernel⟩,
    ⟨3, 1024, (on).setTb 3 { Timebase.reset with st := .flywheel, period := 1024, fly := 255 }, by decide +kernel⟩,
    ⟨3, 1024, (on).setTb 3 { Timebase.reset with st := .flywheel, period := 1024, fly := 256 }, by decide +kernel⟩⟩

theorem witness_AlignLoadsTheTickCount :
    (∃ (t : Nat) (s0 : State), let s := s0.upTo t; s.loader.st ≠ .applying) ∧
    (∃ (t : Nat) (s0 : State) (v : _) (r : _), let s := s0.upTo t; let x := s.tb 0; s.alignAt = some (v, r) ∧ s.tbBad 0 = false ∧ s.marksSeen 0 = true ∧ s.eclkRuns = true ∧ fld (s.control 0x0F8) 9 0 = 0 ∧ s.tickShiftOf 0 = 0 ∧ x.st = .tracking ∧ 3 / 4 * x.period ≤ ((s.now - x.ref : Nat) : Rat) ∧ ((s.now - x.ref : Nat) : Rat) ≤ 17 / 16 * x.period ∧ x.lastTick ≤ r + 128 ∧ r + 128 < s.now) ∧
    (∃ (t : Nat) (s0 : State) (v : _) (r : _), let s := s0.upTo t; let x := s.tb 0; s.alignAt = some (v, r) ∧ r + 128 < x.lastTick) ∧
    (∃ (t : Nat) (s0 : State), let s := s0.upTo t; let x := s.tb 0; (s.alignAt = none ∨ ∃ v r, s.alignAt = some (v, r) ∧ x.lastTick ≤ r + 128)) :=
  ⟨⟨0, on, by decide +kernel⟩,
    ⟨1000, { (regs on [(0x3040, 0x30)]).setTb 0 { Timebase.reset with st := .tracking, period := 1024, lastTick := 0 } with alignAt := some (5, 0) }, 5, 0, by decide +kernel⟩,
    ⟨0, { (on).setTb 0 { Timebase.reset with st := .tracking, period := 1024, lastTick := 129 } with alignAt := some (5, 0) }, 5, 0, by decide +kernel⟩,
    ⟨0, on, Or.inl rfl⟩⟩

theorem witness_FarAccessesQueueAndComplete :
    (∃ (e : Fin 32) (s : State), let x := s.eng e; let open_ := x.far.length < 8 ∧ ∀ c, x.lastFar = some c → c + 1 ≠ x.cyc; s.issues e .ctrl 3 = true ∧ ¬open_) ∧
    (∃ (e : Fin 32) (s : State), let x := s.eng e; let open_ := x.far.length < 8 ∧ ∀ c, x.lastFar = some c → c + 1 ≠ x.cyc; s.issues e .ctrl 4 = true ∧ ¬open_) ∧
    (∃ (e : Fin 32) (s : State), let w := s.engWord e; let x := s.eng e; let d := s.farDrawer e (wf w 15 14); let open_ := x.far.length < 8 ∧ ∀ c, x.lastFar = some c → c + 1 ≠ x.cyc; s.issues e .ctrl 3 = true ∧ open_ ∧ s.farNone d = true) ∧
    (∃ (e : Fin 32) (s : State), let w := s.engWord e; let x := s.eng e; let d := s.farDrawer e (wf w 15 14); let at_ := fun k => drawerMem d (locBase (s.loc d) + (s.origin d + (look 0 x.fTap (wf w 15 14)).toNat + k) % s.len d); let open_ := x.far.length < 8 ∧ ∀ c, x.lastFar = some c → c + 1 ≠ x.cyc; let exists_ := s.farNone d = false ∧ s.drawerBad d = false; s.issues e .ctrl 3 = true ∧ open_ ∧ exists_ ∧ wf w 10 10 = 0 ∧ s.memOff (at_ 0) = false) ∧
    (∃ (e : Fin 32) (s : State), let w := s.engWord e; let x := s.eng e; let d := s.farDrawer e (wf w 15 14); let at_ := fun k => drawerMem d (locBase (s.loc d) + (s.origin d + (look 0 x.fTap (wf w 15 14)).toNat + k) % s.len d); let open_ := x.far.length < 8 ∧ ∀ c, x.lastFar = some c → c + 1 ≠ x.cyc; let exists_ := s.farNone d = false ∧ s.drawerBad d = false; s.issues e .ctrl 3 = true ∧ open_ ∧ exists_ ∧ wf w 10 10 = 1 ∧ s.memOff (at_ 0) = false ∧ s.memOff (at_ 1) = false) ∧
    (∃ (e : Fin 32) (s : State), let w := s.engWord e; let x := s.eng e; let d := s.farDrawer e (wf w 15 14); let open_ := x.far.length < 8 ∧ ∀ c, x.lastFar = some c → c + 1 ≠ x.cyc; s.issues e .ctrl 4 = true ∧ open_ ∧ s.farNone d = true) ∧
    (∃ (e : Fin 32) (s : State), let w := s.engWord e; let x := s.eng e; let d := s.farDrawer e (wf w 15 14); let at_ := fun k => drawerMem d (locBase (s.loc d) + (s.origin d + (look 0 x.fTap (wf w 15 14)).toNat + k) % s.len d); let open_ := x.far.length < 8 ∧ ∀ c, x.lastFar = some c → c + 1 ≠ x.cyc; let exists_ := s.farNone d = false ∧ s.drawerBad d = false; s.issues e .ctrl 4 = true ∧ open_ ∧ exists_ ∧ s.memOff (at_ 0) = false ∧ locOwner (s.loc d) = e) ∧
    (∃ (e : Fin 32) (s : State), let w := s.engWord e; let x := s.eng e; let d := s.farDrawer e (wf w 15 14); let at_ := fun k => drawerMem d (locBase (s.loc d) + (s.origin d + (look 0 x.fTap (wf w 15 14)).toNat + k) % s.len d); let open_ := x.far.length < 8 ∧ ∀ c, x.lastFar = some c → c + 1 ≠ x.cyc; let exists_ := s.farNone d = false ∧ s.drawerBad d = false; s.issues e .ctrl 4 = true ∧ open_ ∧ exists_ ∧ s.memOff (at_ 0) = false ∧ locOwner (s.loc d) ≠ e) ∧
    (∃ (e : Fin 32) (q : FarReq) (s : State), let x := s.eng e; s.engStructBad e = false ∧ x.structSeen = false ∧ x.far = [q] ∧ x.st = .running ∧ x.inRound = true ∧ q.read = true ∧ q.arrived = none ∧ q.passed = false ∧ q.counted = false ∧ q.deadline ≤ x.cyc) ∧
    (∃ (e : Fin 32) (i : Fin 8) (q : FarReq) (a b : Nat) (t : Nat) (s0 : State), let s := s0.upTo t; let x := s.eng e; let extra := fld (s.acting (0x020 + 4 * e)) 7 0; let may := fun (q : FarReq) (second : Bool) => x.farOldest i q second = true ∧ q.eligible second t extra = true; let waits := x.far[i.val]? = some q ∧ q.read = true ∧ q.arrived = none ∧ q.issued < t; waits ∧ q.dead = false ∧ t ≤ q.deadline ∧ q.interp = false ∧ q.w0 = some a ∧ q.w1 = none ∧ may q false ∧ s.memOff a = false) ∧
    (∃ (e : Fin 32) (i : Fin 8) (q : FarReq) (a b : Nat) (t : Nat) (s0 : State), let s := s0.upTo t; let x := s.eng e; let extra := fld (s.acting (0x020 + 4 * e)) 7 0; let may := fun (q : FarReq) (second : Bool) => x.farOldest i q second = true ∧ q.eligible second t extra = true; let waits := x.far[i.val]? = some q ∧ q.read = true ∧ q.arrived = none ∧ q.issued < t; waits ∧ q.dead = false ∧ t ≤ q.deadline ∧ q.interp = true ∧ q.w0 = some a ∧ q.w1 = some b ∧ may q false ∧ may { q with w0 := none } true ∧ s.memOff a = false ∧ s.memOff b = false) ∧
    (∃ (e : Fin 32) (i : Fin 8) (q : FarReq) (a b : Nat) (t : Nat) (s0 : State), let s := s0.upTo t; let x := s.eng e; let extra := fld (s.acting (0x020 + 4 * e)) 7 0; let may := fun (q : FarReq) (second : Bool) => x.farOldest i q second = true ∧ q.eligible second t extra = true; let waits := x.far[i.val]? = some q ∧ q.read = true ∧ q.arrived = none ∧ q.issued < t; waits ∧ q.w0 = some a ∧ q.w1 = some b ∧ may q false ∧ s.memOff a = false) ∧
    (∃ (e : Fin 32) (i : Fin 8) (q : FarReq) (a b : Nat) (t : Nat) (s0 : State), let s := s0.upTo t; let x := s.eng e; let extra := fld (s.acting (0x020 + 4 * e)) 7 0; let may := fun (q : FarReq) (second : Bool) => x.farOldest i q second = true ∧ q.eligible second t extra = true; let waits := x.far[i.val]? = some q ∧ q.read = true ∧ q.arrived = none ∧ q.issued < t; waits ∧ q.dead = false ∧ t ≤ q.deadline ∧ q.interp = true ∧ q.w0 = none ∧ q.w1 = some b ∧ may q true ∧ s.memOff b = false) ∧
    (∃ (e : Fin 32) (i : Fin 8) (q : FarReq) (a b : Nat) (t : Nat) (s0 : State), let s := s0.upTo t; let x := s.eng e; let extra := fld (s.acting (0x020 + 4 * e)) 7 0; let may := fun (q : FarReq) (second : Bool) => x.farOldest i q second = true ∧ q.eligible second t extra = true; let waits := x.far[i.val]? = some q ∧ q.read = true ∧ q.arrived = none ∧ q.issued < t; waits ∧ q.dead = true ∧ q.interp = false ∧ q.w0 = some a ∧ q.w1 = none ∧ may q false) ∧
    (∃ (e : Fin 32) (i : Fin 8) (q : FarReq) (a b : Nat) (t : Nat) (s0 : State), let s := s0.upTo t; let x := s.eng e; x.far[i.val]? = some q ∧ q.read = false ∧ q.w0 = some a ∧ x.farOldest i q false = true ∧ (q.hold0 = 0 ∨ q.issued + reqArrival a + bankCycles a q.hold0 ≤ t) ∧ s.memOff a = false) :=
  ⟨⟨31, engine 31 0x301FF fun x => { x with far := List.replicate 8 ⟨false, 0, 0, 0, none, none, 0, 0, 0, 0, false, 0, 0, none, 0, false, false, false⟩ }, ⟨by decide +kernel, fun h => absurd h.1 (by decide +kernel)⟩⟩,
    ⟨31, engine 31 0x40000 fun x => { x with far := List.replicate 8 ⟨false, 0, 0, 0, none, none, 0, 0, 0, 0, false, 0, 0, none, 0, false, false, false⟩ }, ⟨by decide +kernel, fun h => absurd h.1 (by decide +kernel)⟩⟩,
    ⟨31, regs (engine 31 0x301FF) [(blk 0x67 0x100, 0x1F000000), (blk 0x67 0x104, 0)], ⟨by decide +kernel, ⟨by decide +kernel, nofun⟩, by decide +kernel⟩⟩,
    ⟨31, regs (engine 31 0x301FF) [(blk 0x67 0x100, 0x1F000000), (blk 0x67 0x104, 4)], ⟨by decide +kernel, ⟨by decide +kernel, nofun⟩, by decide +kernel⟩⟩,
    ⟨31, regs (engine 31 0x305FF) [(blk 0x67 0x100, 0x1F000000), (blk 0x67 0x104, 4)], ⟨by decide +kernel, ⟨by decide +kernel, nofun⟩, by decide +kernel⟩⟩,
    ⟨31, regs (engine 31 0x40000) [(blk 0x67 0x100, 0x1F000000), (blk 0x67 0x104, 0)], ⟨by decide +kernel, ⟨by decide +kernel, nofun⟩, by decide +kernel⟩⟩,
    ⟨31, regs (engine 31 0x40000) [(blk 0x67 0x100, 0x1F000000), (blk 0x67 0x104, 4)], ⟨by decide +kernel, ⟨by decide +kernel, nofun⟩, by decide +kernel⟩⟩,
    ⟨31, regs (engine 31 0x40000) [(blk 0x67 0x100, 0x1E000000), (blk 0x67 0x104, 4)], ⟨by decide +kernel, ⟨by decide +kernel, nofun⟩, by decide +kernel⟩⟩,
    ⟨31, ⟨true, 0, 0, 7, some 0x2FFFFFC, none, 0, 0, 0, 0, false, 5, 7, none, 0, false, false, false⟩, on.setEng 31 { Engine.reset with st := .running, inRound := true, far := [⟨true, 0, 0, 7, some 0x2FFFFFC, none, 0, 0, 0, 0, false, 5, 7, none, 0, false, false, false⟩] }, by decide +kernel⟩,
    ⟨31, 0, ⟨true, 0, 9, 7, some 0x2FFFFFC, none, 0, 0, 0, 0, false, 5, 7, none, 0, false, false, false⟩, 0x2FFFFFC, 0x1000000, 5, on.setEng 31 { Engine.reset with st := .running, inRound := true, far := [⟨true, 0, 9, 7, some 0x2FFFFFC, none, 0, 0, 0, 0, false, 5, 7, none, 0, false, false, false⟩] }, by decide +kernel⟩,
    ⟨31, 0, ⟨true, 0, 9, 7, some 0x2FFFFFC, some 0x1000000, 0, 0, 0, 0, true, 5, 7, none, 0, false, false, false⟩, 0x2FFFFFC, 0x1000000, 5, on.setEng 31 { Engine.reset with st := .running, inRound := true, far := [⟨true, 0, 9, 7, some 0x2FFFFFC, some 0x1000000, 0, 0, 0, 0, true, 5, 7, none, 0, false, false, false⟩] }, by decide +kernel⟩,
    ⟨31, 0, ⟨true, 0, 9, 7, some 0x2FFFFFC, some 0x1000000, 0, 0, 0, 0, true, 5, 7, none, 0, false, false, false⟩, 0x2FFFFFC, 0x1000000, 5, on.setEng 31 { Engine.reset with st := .running, inRound := true, far := [⟨true, 0, 9, 7, some 0x2FFFFFC, some 0x1000000, 0, 0, 0, 0, true, 5, 7, none, 0, false, false, false⟩] }, by decide +kernel⟩,
    ⟨31, 0, ⟨true, 0, 9, 7, none, some 0x1000000, 0, 0, 0, 0, true, 5, 7, none, 0, false, false, false⟩, 0x2FFFFFC, 0x1000000, 5, on.setEng 31 { Engine.reset with st := .running, inRound := true, far := [⟨true, 0, 9, 7, none, some 0x1000000, 0, 0, 0, 0, true, 5, 7, none, 0, false, false, false⟩] }, by decide +kernel⟩,
    ⟨31, 0, ⟨true, 0, 9, 7, some 0x2FFFFFC, none, 0, 0, 0, 0, false, 5, 7, none, 0, false, false, true⟩, 0x2FFFFFC, 0x1000000, 5, on.setEng 31 { Engine.reset with st := .running, inRound := true, far := [⟨true, 0, 9, 7, some 0x2FFFFFC, none, 0, 0, 0, 0, false, 5, 7, none, 0, false, false, true⟩] }, by decide +kernel⟩,
    ⟨31, 0, ⟨false, 0, 9, 7, some 0x2FFFFFC, none, 0, 0, 0, 0, false, 5, 7, none, 0, false, false, false⟩, 0x2FFFFFC, 0x1000000, 5, on.setEng 31 { Engine.reset with st := .running, inRound := true, far := [⟨false, 0, 9, 7, some 0x2FFFFFC, none, 0, 0, 0, 0, false, 5, 7, none, 0, false, false, false⟩] }, by decide +kernel⟩⟩

theorem witness_StageEntriesAreChecked :
    (∃ (n : Fin 16) (f : Fin 3) (w : Word) (t : Nat) (s0 : State), let s := s0.upTo t; let a := blk 0x38 (0xD00 + 16 * n + 4 * f); s.loader.st ≠ .applying ∧ legalWrite a (rowAt a).rw w = true) ∧
    (∃ (n : Fin 16) (f : Fin 3) (w : Word) (t : Nat) (s0 : State), let s := s0.upTo t; let a := blk 0x38 (0xD00 + 16 * n + 4 * f); s.loader.st ≠ .applying ∧ legalWrite a (rowAt a).rw w = false) ∧
    (∃ (n : Fin 16) (f : Fin 3) (w : Word) (t : Nat) (s0 : State), let s := s0.upTo t; s.loader.st ≠ .applying) ∧
    (∃ (n : Fin 16) (f : Fin 3) (w : Word) (t : Nat) (s0 : State), let s := s0.upTo t; let x := s.stage n; s.loader.st ≠ .applying ∧ x.st = .checking ∧ s.stageCause n = 0) ∧
    (∃ (n : Fin 16) (f : Fin 3) (w : Word) (t : Nat) (s0 : State), let s := s0.upTo t; let x := s.stage n; s.loader.st ≠ .applying ∧ x.st = .checking ∧ s.stageCause n ≠ 0) ∧
    (∃ (n : Fin 16) (f : Fin 3) (w : Word) (t : Nat) (s0 : State), let s := s0.upTo t; let d := s.stageDrawer n; let x := s.stage n; s.loader.st ≠ .applying ∧ x.st = .checking ∧ d.store = false ∧ 64 ≤ d.n) ∧
    (∃ (n : Fin 16) (f : Fin 3) (w : Word) (t : Nat) (s0 : State), let s := s0.upTo t; let d := s.stageDrawer n; let base := locBase (s.reg (blk 0x38 (0xD00 + 16 * n + 4))); let len := fld (s.reg (blk 0x38 (0xD00 + 16 * n + 8))) 22 0; let x := s.stage n; s.loader.st ≠ .applying ∧ x.st = .checking ∧ d.store = true ∧ 4194304 < base + len) ∧
    (∃ (n : Fin 16) (f : Fin 3) (w : Word) (t : Nat) (s0 : State), let s := s0.upTo t; let d := s.stageDrawer n; let base := locBase (s.reg (blk 0x38 (0xD00 + 16 * n + 4))); let len := fld (s.reg (blk 0x38 (0xD00 + 16 * n + 8))) 22 0; let x := s.stage n; s.loader.st ≠ .applying ∧ x.st = .checking ∧ d.store = false ∧ d.n < 64 ∧ (524288 < base + len ∨ 524287 < base)) :=
  ⟨⟨15, 2, 4, 0, on, by decide +kernel⟩,
    ⟨15, 0, 0x81000000, 0, on, by decide +kernel⟩,
    ⟨15, 0, 0, 0, on, by decide +kernel⟩,
    ⟨15, 0, 0, 0, (regs on [(blk 0x38 0xDF0, 0x0), (blk 0x38 0xDF4, 0x0), (blk 0x38 0xDF8, 0x0)]).setStage 15 ⟨.checking, 0, none⟩, by decide +kernel⟩,
    ⟨15, 0, 0, 0, (regs on [(blk 0x38 0xDF0, 0x40), (blk 0x38 0xDF4, 0x0), (blk 0x38 0xDF8, 0x0)]).setStage 15 ⟨.checking, 0, none⟩, by decide +kernel⟩,
    ⟨15, 0, 0, 0, (regs on [(blk 0x38 0xDF0, 0x40), (blk 0x38 0xDF4, 0x0), (blk 0x38 0xDF8, 0x0)]).setStage 15 ⟨.checking, 0, none⟩, by decide +kernel⟩,
    ⟨15, 0, 0, 0, (regs on [(blk 0x38 0xDF0, 0x80000000), (blk 0x38 0xDF4, 0x3FFFFF), (blk 0x38 0xDF8, 0x2)]).setStage 15 ⟨.checking, 0, none⟩, by decide +kernel⟩,
    ⟨15, 0, 0, 0, (regs on [(blk 0x38 0xDF0, 0x3F), (blk 0x38 0xDF4, 0x7FFFF), (blk 0x38 0xDF8, 0x2)]).setStage 15 ⟨.checking, 0, none⟩, by decide +kernel⟩⟩

theorem witness_ShelfWritesAndReshelve :
    (∃ (by_ : Requester) (addr : Addr) (e : Fin 32) (w : Word) (t : Nat) (s0 : State), let s := s0.upTo t; let a := wordOf addr.toNat; let x := s.eng e; let clean := match by_ with | .host => s.loader.st ≠ .applying | .core => s.fclkFast = false; clean ∧ regionOf a = some (.yshelf e) ∧ s.unitOn (e / 4 + 1) = true ∧ x.lane.job = .idle) ∧
    (∃ (by_ : Requester) (addr : Addr) (e : Fin 32) (w : Word) (t : Nat) (s0 : State), let s := s0.upTo t; let a := wordOf addr.toNat; let x := s.eng e; let clean := match by_ with | .host => s.loader.st ≠ .applying | .core => s.fclkFast = false; clean ∧ regionOf a = some (.yshelf e) ∧ s.unitOn (e / 4 + 1) = true ∧ x.lane.job ≠ .idle) ∧
    (∃ (by_ : Requester) (addr : Addr) (e : Fin 32) (w : Word) (t : Nat) (s0 : State) (l : _), let s := s0.upTo t; let x := s.eng e; x.lane.job = .reshelve l ∧ x.lane.waiting = [] ∧ (∀ k ∈ l, k < 8192) ∧ (∀ k, s.bad k = false) ∧ s.lanesRun = true ∧ s.fclkFast = false ∧ s.core.autoWait = []) :=
  ⟨⟨.host, 0x7FFFFC, 31, 7, 0, on, by decide +kernel⟩,
    ⟨.core, 0x7FFFFC, 31, 7, 0, half.setEng 31 { Engine.reset with lane := ⟨.reshelve [0], [], [], none, 0, []⟩ }, by decide +kernel⟩,
    ⟨.host, 0, 31, 0, 0, half.setEng 31 { Engine.reset with lane := ⟨.reshelve [0, 8191], [], [], none, 0, []⟩ }, [0, 8191], ⟨by decide +kernel, by decide +kernel, by decide +kernel, fun _ => rfl, by decide +kernel, by decide +kernel, by decide +kernel⟩⟩⟩

theorem witness_CommitsMoveTheirGroupAndTakeEffect :
    (∃ (g e : Fin 32) (t : Nat) (s0 : State), let s := s0.upTo t; s.loader.st ≠ .applying) ∧
    (∃ (g e : Fin 32) (t : Nat) (s0 : State), let s := s0.upTo t; let c := fld (s.reg (blk 0x0A 0x018)) 15 0 * 2 ^ 32 + (s.reg (blk 0x0A 0x014)).toNat; s.loader.st ≠ .applying ∧ s.tickCount.toNat < c) ∧
    (∃ (g e : Fin 32) (t : Nat) (s0 : State), let s := s0.upTo t; let c := fld (s.reg (blk 0x0A 0x018)) 15 0 * 2 ^ 32 + (s.reg (blk 0x0A 0x014)).toNat; s.loader.st ≠ .applying ∧ c ≤ s.tickCount.toNat) ∧
    (∃ (g e : Fin 32) (t : Nat) (s0 : State), let s := s0.upTo t; s.loader.st ≠ .applying ∧ s.members g = [] ∧ (∀ l, (s.lane l).reverts g = false)) ∧
    (∃ (g e : Fin 32) (t : Nat) (s0 : State), let s := s0.upTo t; let x := s.eng e; s.loader.st ≠ .applying ∧ s.members g = [.engine e] ∧ x.lane.job = .idle) ∧
    (∃ (g e : Fin 32) (t : Nat) (s0 : State), let s := s0.upTo t; let x := s.eng e; s.loader.st ≠ .applying ∧ x.lane.job = .revert g ∧ x.lane.waiting = [] ∧ s.lanesRun = true ∧ s.fclkFast = false ∧ s.core.autoWait = [] ∧ (∀ k ∈ x.lane.dirty, k < 8192) ∧ (∀ k, s.bad k = false) ∧ (∀ l, l ≠ .engine e → (s.lane l).reverts g = false)) ∧
    (∃ (g e : Fin 32) (tb : Fin 4) (t : Nat) (s0 : State), let s := s0.upTo t; let x := s.eng e; s.groupDue g tb = true ∧ s.members g = [.engine e] ∧ (∀ k, k < 3 → s.bad (blk 0x0A (0x100 + 32 * g + 4 * k)) = false) ∧ s.domain (e / 4 + 1) = true ∧ s.loader.st ≠ .applying ∧ x.st ≠ .running ∧ x.lane.job = .idle ∧ x.lane.exchanged ≠ some (s.tb (s.engTb e)).tickNo ∧ x.lane.landedNow s.now = []) ∧
    (∃ (g e : Fin 32) (tb : Fin 4) (t : Nat) (s0 : State), let s := s0.upTo t; let x := s.eng e; s.groupDue g tb = true ∧ s.members g = [.engine e] ∧ (∀ k, k < 3 → s.bad (blk 0x0A (0x100 + 32 * g + 4 * k)) = false) ∧ s.domain (e / 4 + 1) = true ∧ s.loader.st ≠ .applying ∧ x.lane.job ≠ .idle ∧ x.lane.exchanged ≠ some (s.tb (s.engTb e)).tickNo) :=
  ⟨⟨31, 0, 0, on, by decide +kernel⟩,
    ⟨31, 0, 0, regs on [(blk 0x0A 0x014, 1)], by decide +kernel⟩,
    ⟨31, 0, 0, on, by decide +kernel⟩,
    ⟨31, 0, 0, on, ⟨by decide +kernel, by decide +kernel, fun l => by cases l with | router => decide +kernel | engine e => revert e; decide +kernel⟩⟩,
    ⟨31, 31, 0, (regs (on) [(groupReg 31 0, 0x80000000)]), by decide +kernel⟩,
    ⟨31, 31, 0, (regs (half.setEng 31 { Engine.reset with lane := ⟨.revert 31, [], [8191], none, 0, []⟩ }) [(groupReg 31 0, 0x80000000)]), ⟨by decide +kernel, by decide +kernel, by decide +kernel, by decide +kernel, by decide +kernel, by decide +kernel, by decide +kernel, fun _ => rfl, fun l => by cases l with | router => decide +kernel | engine e => revert e; decide +kernel⟩⟩,
    ⟨31, 31, 0, 0, ((regs on [(groupReg 31 0, 0x80000000)]).setGrp 31 { Group.reset with st := .pending }).setTb 0 { Timebase.reset with st := .tracking, tickNo := 1 }, by decide +kernel⟩,
    ⟨31, 31, 0, 0, (((regs (half.setEng 31 { Engine.reset with lane := ⟨.reshelve [0], [], [], none, 0, []⟩ }) [(groupReg 31 0, 0x80000000)]).setGrp 31 { Group.reset with st := .pending }).setTb 0 { Timebase.reset with st := .tracking, tickNo := 1 }), by decide +kernel⟩⟩

theorem witness_SinksTakeWhatTheyArePatchedTo :
    (∃ (tb : Fin 4) (t : Nat) (s0 : State), let s := s0.upTo t; let r := s.router; let still := s.gated 9 = false ∧ r.sinkFade = [] ∧ r.muteFade = [] ∧ r.muted = [] ∧ r.patchOld = [] ∧ r.zc = [] ∧ r.muteAt = [] ∧ s.core.crossings = []; s.holding tb = false ∧ s.domain 13 = true ∧ still) ∧
    (∃ (tb : Fin 4) (t : Nat) (s0 : State), let s := s0.upTo t; s.holding tb = false ∧ s.domain 13 = false) :=
  ⟨⟨0, 0, (on).setTb 0 { Timebase.reset with st := .tracking, period := 1024, tickNo := 1 }, by decide +kernel⟩,
    ⟨0, 0, (State.reset).setTb 0 { Timebase.reset with st := .tracking, period := 1024, tickNo := 1 }, by decide +kernel⟩⟩

theorem witness_ColumnsSumGainsTimesRows :
    ∃ (t : Nat) (s0 : State), let s := s0.upTo t; s.domain 13 = true ∧ s.holding 0 = false ∧ s.gated 9 = false ∧ s.router.computedAt ≠ some (s.tb 0).tickNo ∧ s.router.xpt = [] ∧ s.router.rowFade = [] :=
  ⟨0, (on).setTb 0 { Timebase.reset with st := .tracking, period := 1024, tickNo := 1 }, by decide +kernel⟩

theorem witness_RouterCommands :
    (∃ (n : Fin 35) (z : Fin 16) (k : Fin 8) (m : Fin 64) (w : Word) (t : Nat) (s0 : State), let s := s0.upTo t; let direct := s.loader.st ≠ .applying; direct ∧ s.unitOn 13 = true) ∧
    (∃ (n : Fin 35) (z : Fin 16) (k : Fin 8) (m : Fin 64) (w : Word) (t : Nat) (s0 : State), let s := s0.upTo t; let direct := s.loader.st ≠ .applying; direct ∧ s.unitOn 13 = false) ∧
    (∃ (n : Fin 35) (z : Fin 16) (k : Fin 8) (m : Fin 64) (w : Word) (t : Nat) (s0 : State) (v : _) (ticks : _), let s := s0.upTo t; let r := s.router; let zc := s.zcWord z; look none r.zc z = some ⟨false, some v, ticks⟩ ∧ (fld zc 24 16 : Rat) * s.nominalHz (s.sinkTb (fld zc 10 0)) ≤ 1000 * (ticks : Rat)) ∧
    (∃ (n : Fin 35) (z : Fin 16) (k : Fin 8) (m : Fin 64) (w : Word) (t : Nat) (s0 : State), let s := s0.upTo t; let direct := s.loader.st ≠ .applying; direct ∧ s.unitOn 13 = true ∧ 6 ≤ k.val ∧ bit w 31 = true) ∧
    (∃ (n : Fin 35) (z : Fin 16) (k : Fin 8) (m : Fin 64) (w : Word) (t : Nat) (s0 : State), let s := s0.upTo t; let direct := s.loader.st ≠ .applying; direct ∧ s.unitOn 13 = true ∧ (k.val < 6 ∨ bit w 31 = false)) ∧
    (∃ (n : Fin 35) (z : Fin 16) (k : Fin 8) (m : Fin 64) (w : Word) (t : Nat) (s0 : State) (d : _), let s := s0.upTo t; let p := drawerMem d (locBase (s.loc d) + (s.origin d + s.len d - 1) % s.len d); s.domain 13 = true ∧ s.gated 9 = false ∧ s.streamDrawer false m = some d ∧ s.drawerBad d = false ∧ s.memOff p = false) ∧
    (∃ (n : Fin 35) (z : Fin 16) (k : Fin 8) (m : Fin 64) (w : Word) (t : Nat) (s0 : State) (p : _) (issued : _) (hold : _), let s := s0.upTo t; let r := s.router; look none r.prefetch m = some ⟨some p, issued, hold, none⟩ ∧ s.memOff p = false ∧ (hold = 0 ∨ issued + reqArrival p + bankCycles p hold + reqReturn p ≤ s.now)) ∧
    (∃ (n : Fin 35) (z : Fin 16) (k : Fin 8) (m : Fin 64) (w : Word) (t : Nat) (s0 : State) (p : _) (issued : _) (hold : _), let s := s0.upTo t; let r := s.router; look none r.prefetch m = some ⟨some p, issued, hold, none⟩ ∧ hold ≠ 0 ∧ s.now < issued + reqArrival p + bankCycles p hold + reqReturn p) ∧
    (∃ (n : Fin 35) (z : Fin 16) (k : Fin 8) (m : Fin 64) (w : Word) (t : Nat) (s0 : State) (p : _) (issued : _) (hold : _), let s := s0.upTo t; let r := s.router; look none r.prefetch m = some ⟨some p, issued, hold, none⟩) :=
  ⟨⟨34, 15, 0, 63, 0, 0, on, by decide +kernel⟩,
    ⟨34, 15, 0, 63, 0, 0, State.reset, by decide +kernel⟩,
    ⟨34, 15, 0, 63, 0, 0, { on with router := { Router.reset with zc := [(15, some ⟨false, some true, 2400⟩)] } }, true, 2400, by decide +kernel⟩,
    ⟨34, 15, 6, 63, 0x80000000, 0, on, by decide +kernel⟩,
    ⟨34, 15, 5, 63, 0x80000000, 0, on, by decide +kernel⟩,
    ⟨34, 15, 0, 63, 0, 0, regs on [(blk 0x31 0x4FC, 0x41000003), (blk 0x61 0x134, 4)], ⟨false, 1, 3⟩, by decide +kernel⟩,
    ⟨34, 15, 0, 63, 0, 0, { on with router := { Router.reset with prefetch := [(63, some ⟨some 0x2FFFFFC, 0, 0, none⟩)] } }, 0x2FFFFFC, 0, 0, by decide +kernel⟩,
    ⟨34, 15, 0, 63, 0, 0, { on with router := { Router.reset with prefetch := [(63, some ⟨some 0x2FFFFFC, 0, 1, none⟩)] } }, 0x2FFFFFC, 0, 1, by decide +kernel⟩,
    ⟨34, 15, 0, 63, 0, 0, { on with router := { Router.reset with prefetch := [(63, some ⟨some 0x2FFFFFC, 0, 0, none⟩)] } }, 0x2FFFFFC, 0, 0, by decide +kernel⟩⟩

theorem witness_TdmPortStatesMasksAndStamps :
    (∃ (p : Fin 16) (t : Nat) (s0 : State), let s := s0.upTo t; let x := s.port p; let on := s.unitOn (if p.val < 8 then 14 else 15) = true; let direct := s.loader.st ≠ .applying; direct ∧ on ∧ x.st = .disabled) ∧
    (∃ (p : Fin 16) (t : Nat) (s0 : State), let s := s0.upTo t; let x := s.port p; let on := s.unitOn (if p.val < 8 then 14 else 15) = true; let direct := s.loader.st ≠ .applying; direct ∧ on ∧ x.st = .stopping) ∧
    (∃ (p : Fin 16) (t : Nat) (s0 : State), let s := s0.upTo t; let x := s.port p; let on := s.unitOn (if p.val < 8 then 14 else 15) = true; let direct := s.loader.st ≠ .applying; direct ∧ on ∧ (x.st = .starting ∨ x.st = .running ∨ x.st = .hold ∨ x.st = .faulted)) ∧
    (∃ (p : Fin 16) (t : Nat) (s0 : State), let s := s0.upTo t; let x := s.port p; let on := s.unitOn (if p.val < 8 then 14 else 15) = true; let direct := s.loader.st ≠ .applying; direct ∧ on ∧ (x.st = .starting ∨ x.st = .running ∨ x.st = .hold)) ∧
    (∃ (p : Fin 16) (t : Nat) (s0 : State), let s := s0.upTo t; let x := s.port p; let on := s.unitOn (if p.val < 8 then 14 else 15) = true; let direct := s.loader.st ≠ .applying; direct ∧ on ∧ x.st = .faulted) ∧
    (∃ (p : Fin 16) (t : Nat) (s0 : State), let s := s0.upTo t; let on := s.unitOn (if p.val < 8 then 14 else 15) = true; let direct := s.loader.st ≠ .applying; direct ∧ ¬on) ∧
    (∃ (p : Fin 16) (t : Nat) (s0 : State) (m : _), let s := s0.upTo t; let x := s.port p; x.st = .running ∧ x.lastMark = some m ∧ m + 2 * s.nominal (s.tdmTb p) ≤ s.now) ∧
    (∃ (p : Fin 16) (t : Nat) (s0 : State) (m : _), let s := s0.upTo t; let x := s.port p; (x.st = .hold ∨ x.st = .stopping ∨ x.st = .faulted) ∧ x.lastMark = some m ∧ m + 2 * s.nominal (s.tdmTb p) ≤ s.now) ∧
    (∃ (p : Fin 16) (t : Nat) (s0 : State), let s := s0.upTo t; let x := s.port p; x.st = .stopping ∧ x.restart = false) ∧
    (∃ (by_ : Requester) (p : Fin 16) (w : Word) (t : Nat) (s0 : State), let s := s0.upTo t; let direct := s.loader.st ≠ .applying; let x := s.port p; let quiet := x.st = .disabled ∨ x.st = .faulted; s.unitOn (if p.val < 8 then 14 else 15) = true ∧ direct ∧ quiet) ∧
    (∃ (by_ : Requester) (p : Fin 16) (w : Word) (t : Nat) (s0 : State), let s := s0.upTo t; let direct := s.loader.st ≠ .applying; let x := s.port p; let quiet := x.st = .disabled ∨ x.st = .faulted; s.unitOn (if p.val < 8 then 14 else 15) = true ∧ direct ∧ ¬quiet) ∧
    (∃ (by_ : Requester) (p : Fin 16) (w : Word) (t : Nat) (s0 : State) (c : _) (q : _) (l : _), let s := s0.upTo t; let direct := s.loader.st ≠ .applying; let x := s.port p; s.unitOn (if p.val < 8 then 14 else 15) = true ∧ (by_ = .host → direct) ∧ x.stamps = (c, q) :: l) ∧
    (∃ (by_ : Requester) (p : Fin 16) (w : Word) (t : Nat) (s0 : State), let s := s0.upTo t; let direct := s.loader.st ≠ .applying; let x := s.port p; s.unitOn (if p.val < 8 then 14 else 15) = true ∧ (by_ = .host → direct) ∧ x.stamps = []) :=
  ⟨⟨15, 0, (on).setPort 15 { Port.reset with st := .disabled }, by decide +kernel⟩,
    ⟨15, 0, (on).setPort 15 { Port.reset with st := .stopping }, by decide +kernel⟩,
    ⟨15, 0, (on).setPort 15 { Port.reset with st := .faulted }, by decide +kernel⟩,
    ⟨15, 0, (on).setPort 15 { Port.reset with st := .starting }, by decide +kernel⟩,
    ⟨15, 0, (on).setPort 15 { Port.reset with st := .faulted }, by decide +kernel⟩,
    ⟨15, 0, State.reset, by decide +kernel⟩,
    ⟨15, 38400, (on).setPort 15 { Port.reset with st := .running, lastMark := some 0 }, 0, by decide +kernel⟩,
    ⟨15, 38400, (on).setPort 15 { Port.reset with st := .hold, lastMark := some 0 }, 0, by decide +kernel⟩,
    ⟨15, 0, (on).setPort 15 { Port.reset with st := .stopping }, by decide +kernel⟩,
    ⟨.host, 15, 0, 0, (on).setPort 15 { Port.reset with st := .faulted }, by decide +kernel⟩,
    ⟨.host, 15, 0, 0, (on).setPort 15 { Port.reset with st := .running }, by decide +kernel⟩,
    ⟨.host, 15, 0, 0, (on).setPort 15 { Port.reset with stamps := [(7, 3)] }, 7, 3, [], by decide +kernel⟩,
    ⟨.host, 15, 0, 0, on, by decide +kernel⟩⟩

theorem witness_FrameMarkMovesFrames :
    ∃ (p : Fin 16) (bits half : Nat) (slots : List Word) (m : Nat) (f : PortFrame) (l : List PortFrame) (t : Nat) (s0 : State), let s := s0.upTo t; let x := s.port p; let a := fun o => blk (0x10 + p) o; let cfg := s.reg (a 0x010); s.domain (if p.val < 8 then 14 else 15) = true ∧ s.gated (if p.val < 8 then 10 else 11) = false ∧ x.st = .running ∧ s.bad (a 0x010) = false ∧ s.tdmAligned p = false ∧ x.lastMark = some m ∧ s.now - m ≤ 2 * s.nominal (s.tdmTb p) ∧ layoutShort cfg bits half = false ∧ x.prevBits = some bits ∧ s.rateNear p = some true ∧ s.looped p = false ∧ look 0 s.provoked.loopAt p ≤ m ∧ x.rxs.fifo.length < 8 ∧ x.seq = none ∧ x.txFifo = f :: l ∧ x.txUnder = false ∧ x.tx.up = true ∧ s.host.st = .normal :=
  ⟨15, 64, 32, [1, 2], 0, ⟨[5, 6], 0⟩, [], 100, (regs on [(0x3040, 0x01000032), (0x2034, 12288000), (blk 0x1F 0x010, 0x10), (0x3178, 0x810BB800)]).setPort 15 { Port.reset with st := .running, prevBits := some 64, lastMark := some 0, txFifo := [⟨[5, 6], 0⟩], tx := ⟨0, true, 0⟩ }, by decide +kernel⟩

theorem witness_BiphaseStates :
    (∃ (n : Fin 4) (t : Nat) (s0 : State), let s := s0.upTo t; let x := s.rx n; let on := s.unitOn 16 = true; let direct := s.loader.st ≠ .applying; direct ∧ on ∧ x.st = .disabled) ∧
    (∃ (n : Fin 4) (t : Nat) (s0 : State), let s := s0.upTo t; let x := s.rx n; let on := s.unitOn 16 = true; let direct := s.loader.st ≠ .applying; direct ∧ on ∧ x.st ≠ .disabled) ∧
    (∃ (n : Fin 4) (t : Nat) (s0 : State), let s := s0.upTo t; let x := s.rx n; let on := s.unitOn 16 = true; let direct := s.loader.st ≠ .applying; direct ∧ on ∧ (x.st = .searching ∨ x.st = .running ∨ x.st = .hold) ∧ x.quiet = true) ∧
    (∃ (n : Fin 4) (t : Nat) (s0 : State), let s := s0.upTo t; let x := s.rx n; let on := s.unitOn 16 = true; let direct := s.loader.st ≠ .applying; direct ∧ on ∧ (x.st = .searching ∨ x.st = .running ∨ x.st = .hold) ∧ x.quiet = false) ∧
    (∃ (n : Fin 4) (t : Nat) (s0 : State), let s := s0.upTo t; let x := s.rx n; let on := s.unitOn 16 = true; let direct := s.loader.st ≠ .applying; direct ∧ on ∧ x.st = .faulted) ∧
    (∃ (n : Fin 4) (t : Nat) (s0 : State), let s := s0.upTo t; let x := s.rx n; x.st = .running) ∧
    (∃ (n : Fin 4) (t : Nat) (s0 : State), let s := s0.upTo t; let y := s.tx n; let on := s.unitOn 16 = true; let direct := s.loader.st ≠ .applying; let count := fld (s.reg (blk (0x24 + n) 0x018)) 9 0; direct ∧ on ∧ y.st = .disabled ∧ count ≠ 0) ∧
    (∃ (n : Fin 4) (t : Nat) (s0 : State), let s := s0.upTo t; let y := s.tx n; let on := s.unitOn 16 = true; let direct := s.loader.st ≠ .applying; let count := fld (s.reg (blk (0x24 + n) 0x018)) 9 0; direct ∧ on ∧ y.st = .disabled ∧ count = 0 ∧ s.holding (s.txTb n) = false) ∧
    (∃ (n : Fin 4) (t : Nat) (s0 : State), let s := s0.upTo t; let y := s.tx n; let on := s.unitOn 16 = true; let direct := s.loader.st ≠ .applying; let count := fld (s.reg (blk (0x24 + n) 0x018)) 9 0; direct ∧ on ∧ y.st = .disabled ∧ count = 0 ∧ s.holding (s.txTb n) = true) ∧
    (∃ (n : Fin 4) (t : Nat) (s0 : State), let s := s0.upTo t; let y := s.tx n; let on := s.unitOn 16 = true; let direct := s.loader.st ≠ .applying; direct ∧ on ∧ (y.st = .starting ∨ y.st = .running ∨ y.st = .hold)) ∧
    (∃ (n : Fin 4) (t : Nat) (s0 : State), let s := s0.upTo t; let y := s.tx n; let on := s.unitOn 16 = true; let direct := s.loader.st ≠ .applying; direct ∧ on ∧ y.st = .faulted) ∧
    (∃ (n : Fin 4) (t : Nat) (s0 : State), let s := s0.upTo t; let y := s.tx n; let on := s.unitOn 16 = true; let direct := s.loader.st ≠ .applying; direct ∧ on ∧ y.swapAt = none) ∧
    (∃ (n : Fin 4) (t : Nat) (s0 : State), let s := s0.upTo t; let y := s.tx n; let on := s.unitOn 16 = true; let direct := s.loader.st ≠ .applying; direct ∧ on ∧ y.swapAt ≠ none) ∧
    (∃ (n : Fin 4) (t : Nat) (s0 : State), let s := s0.upTo t; let on := s.unitOn 16 = true; let direct := s.loader.st ≠ .applying; direct ∧ ¬on) :=
  ⟨⟨3, 0, on.setRx 3 { BpRx.reset with st := .disabled }, by decide +kernel⟩,
    ⟨3, 0, on.setRx 3 { BpRx.reset with st := .faulted }, by decide +kernel⟩,
    ⟨3, 0, on.setRx 3 { BpRx.reset with st := .hold }, by decide +kernel⟩,
    ⟨3, 0, on.setRx 3 { BpRx.reset with st := .running, a := { RxChannel.reset with fade := ⟨1, true, 0⟩ } }, by decide +kernel⟩,
    ⟨3, 0, on.setRx 3 { BpRx.reset with st := .faulted }, by decide +kernel⟩,
    ⟨3, 0, on.setRx 3 { BpRx.reset with st := .running }, by decide +kernel⟩,
    ⟨3, 0, (regs on [(blk 0x27 0x018, 1)]).setTx 3 { BpTx.reset with st := .disabled }, by decide +kernel⟩,
    ⟨3, 0, ((regs on [(blk 0x27 0x018, 0)]).setTx 3 { BpTx.reset with st := .disabled }).setTb 0 { Timebase.reset with st := .tracking }, by decide +kernel⟩,
    ⟨3, 0, ((regs on [(blk 0x27 0x018, 0)]).setTb 0 { Timebase.reset with st := .hold }).setTx 3 { BpTx.reset with st := .disabled }, by decide +kernel⟩,
    ⟨3, 0, (on).setTx 3 { BpTx.reset with st := .hold }, by decide +kernel⟩,
    ⟨3, 0, (on).setTx 3 { BpTx.reset with st := .faulted }, by decide +kernel⟩,
    ⟨3, 0, (on).setTx 3 { BpTx.reset with st := .running }, by decide +kernel⟩,
    ⟨3, 0, (on).setTx 3 { BpTx.reset with st := .disabled, swapAt := some 0 }, by decide +kernel⟩,
    ⟨3, 0, State.reset, by decide +kernel⟩⟩

theorem witness_BiphaseFramesCountTowardLock :
    (∃ (n : Fin 4) (f : BiphaseFrame) (t : Nat) (s0 : State), let s := s0.upTo t; let x := s.rx n; let good := f.preamblesOk = true ∧ f.violation = false ∧ (∃ p, x.prevPeriod = some p ∧ (f.period - p) * 100 ≤ p ∧ (p - f.period) * 100 ≤ p) ∧ (∀ k, x.place = some k → (f.z = true ↔ k = 191)); let goal := if x.count = 0 then fld (s.reg (blk (0x20 + n) 0x018)) 9 0 else x.countTo.getD (fld (s.reg (blk (0x20 + n) 0x018)) 9 0); let even := evenParity f.a = true ∧ evenParity f.b = true; s.domain 16 = true ∧ s.gated 12 = false ∧ s.looped (16 + n) = false ∧ x.st = .searching ∧ x.leaving = false ∧ even ∧ good ∧ x.count + 1 < goal) ∧
    (∃ (n : Fin 4) (f : BiphaseFrame) (t : Nat) (s0 : State), let s := s0.upTo t; let x := s.rx n; let good := f.preamblesOk = true ∧ f.violation = false ∧ (∃ p, x.prevPeriod = some p ∧ (f.period - p) * 100 ≤ p ∧ (p - f.period) * 100 ≤ p) ∧ (∀ k, x.place = some k → (f.z = true ↔ k = 191)); let goal := if x.count = 0 then fld (s.reg (blk (0x20 + n) 0x018)) 9 0 else x.countTo.getD (fld (s.reg (blk (0x20 + n) 0x018)) 9 0); let even := evenParity f.a = true ∧ evenParity f.b = true; s.domain 16 = true ∧ s.gated 12 = false ∧ s.looped (16 + n) = false ∧ x.st = .searching ∧ x.leaving = false ∧ even ∧ good ∧ goal ≤ x.count + 1 ∧ s.lockable n f.period = false) ∧
    (∃ (n : Fin 4) (f : BiphaseFrame) (t : Nat) (s0 : State), let s := s0.upTo t; let x := s.rx n; let good := f.preamblesOk = true ∧ f.violation = false ∧ (∃ p, x.prevPeriod = some p ∧ (f.period - p) * 100 ≤ p ∧ (p - f.period) * 100 ≤ p) ∧ (∀ k, x.place = some k → (f.z = true ↔ k = 191)); let goal := if x.count = 0 then fld (s.reg (blk (0x20 + n) 0x018)) 9 0 else x.countTo.getD (fld (s.reg (blk (0x20 + n) 0x018)) 9 0); let even := evenParity f.a = true ∧ evenParity f.b = true; s.domain 16 = true ∧ s.gated 12 = false ∧ s.looped (16 + n) = false ∧ x.st = .searching ∧ x.leaving = false ∧ even ∧ good ∧ goal ≤ x.count + 1 ∧ s.lockable n f.period = true) ∧
    (∃ (n : Fin 4) (f : BiphaseFrame) (t : Nat) (s0 : State), let s := s0.upTo t; let x := s.rx n; let good := f.preamblesOk = true ∧ f.violation = false ∧ (∃ p, x.prevPeriod = some p ∧ (f.period - p) * 100 ≤ p ∧ (p - f.period) * 100 ≤ p) ∧ (∀ k, x.place = some k → (f.z = true ↔ k = 191)); let even := evenParity f.a = true ∧ evenParity f.b = true; let errors := s.reg (blk (0x20 + n) 0x028); s.domain 16 = true ∧ s.gated 12 = false ∧ s.looped (16 + n) = false ∧ x.st = .searching ∧ x.leaving = false ∧ even ∧ ¬good ∧ errors ≠ 0xFFFFFFFF) ∧
    (∃ (n : Fin 4) (f : BiphaseFrame) (t : Nat) (s0 : State), let s := s0.upTo t; let x := s.rx n; s.domain 16 = true ∧ s.gated 12 = false ∧ s.looped (16 + n) = false ∧ x.st = .searching ∧ evenParity f.a = false ∧ evenParity f.b = true ∧ s.reg (blk (0x20 + n) 0x020) ≠ 0xFFFFFFFF) :=
  ⟨⟨3, ⟨false, true, false, 256, ⟨0, false, false, false, false⟩, ⟨0, false, false, false, false⟩⟩, 0, (regs on [(0x2034, 12288000), (blk 0x23 0x018, 2)]).setRx 3 { BpRx.reset with st := .searching, count := 0, countTo := some 2, prevPeriod := some 256 }, ⟨by decide +kernel, by decide +kernel, by decide +kernel, rfl, rfl, by decide +kernel, ⟨rfl, rfl, ⟨256, rfl, by decide +kernel, by decide +kernel⟩, nofun⟩, by decide +kernel⟩⟩,
    ⟨3, ⟨false, true, false, 401, ⟨0, false, false, false, false⟩, ⟨0, false, false, false, false⟩⟩, 0, (regs on [(0x2034, 12288000), (blk 0x23 0x018, 2)]).setRx 3 { BpRx.reset with st := .searching, count := 1, countTo := some 2, prevPeriod := some 401 }, ⟨by decide +kernel, by decide +kernel, by decide +kernel, rfl, rfl, by decide +kernel, ⟨rfl, rfl, ⟨401, rfl, by decide +kernel, by decide +kernel⟩, nofun⟩, by decide +kernel, by decide +kernel⟩⟩,
    ⟨3, ⟨false, true, false, 256, ⟨0, false, false, false, false⟩, ⟨0, false, false, false, false⟩⟩, 0, (regs on [(0x2034, 12288000), (blk 0x23 0x018, 2)]).setRx 3 { BpRx.reset with st := .searching, count := 1, countTo := some 2, prevPeriod := some 256 }, ⟨by decide +kernel, by decide +kernel, by decide +kernel, rfl, rfl, by decide +kernel, ⟨rfl, rfl, ⟨256, rfl, by decide +kernel, by decide +kernel⟩, nofun⟩, by decide +kernel, by decide +kernel⟩⟩,
    ⟨3, ⟨false, true, true, 256, ⟨0, false, false, false, false⟩, ⟨0, false, false, false, false⟩⟩, 0, (regs on [(0x2034, 12288000), (blk 0x23 0x018, 2)]).setRx 3 { BpRx.reset with st := .searching, count := 1, countTo := some 2, prevPeriod := some 256 }, ⟨by decide +kernel, by decide +kernel, by decide +kernel, rfl, rfl, by decide +kernel, fun h => Bool.noConfusion h.2.1, by decide +kernel⟩⟩,
    ⟨3, ⟨false, true, false, 256, ⟨0, false, false, false, true⟩, ⟨0, false, false, false, false⟩⟩, 0, (regs on [(0x2034, 12288000), (blk 0x23 0x018, 2)]).setRx 3 { BpRx.reset with st := .searching, count := 0, countTo := some 2, prevPeriod := some 256 }, by decide +kernel⟩⟩

theorem witness_DcoFollowsItsWindows :
    (∃ (n t : Nat) (s0 : State), let s := s0.upTo t; let c := s.clocks; c.xclkOk = true) ∧
    (∃ (n t : Nat) (s0 : State), let s := s0.upTo t; let c := s.clocks; c.xclkOk = false ∧ s.gpio.waiting = 0) ∧
    (∃ (n t : Nat) (s0 : State), let s := s0.upTo t; let c := s.clocks; c.settling = true ∧ c.dco = .settling ∧ s.straps.testen = false) ∧
    (∃ (n t : Nat) (s0 : State), let s := s0.upTo t; let c := s.clocks; c.settling = true ∧ s.straps.testen = true ∧ s.loader.st ≠ .applying) ∧
    (∃ (n t : Nat) (s0 : State), let s := s0.upTo t; let c := s.clocks; let word := s.controlWord; let ratio : Rat := fld word.1 23 16 + (fld word.1 15 0 : Rat) / 65536; let passes := |(n : Rat) - 64 * (ratio * (1 + (word.2 : Rat) / 2 ^ 24))| ≤ ((fld (s.reg (blk 2 0x018)) 7 0 : Nat) : Rat) ∧ 20 ≤ fld word.1 23 16 ∧ fld word.1 23 16 ≤ 127 ∧ 800000000 ≤ c.pinHz * ratio ∧ c.pinHz * ratio ≤ 1228800000; let judged := c.xclkOk = true ∧ c.settling = false ∧ s.straps.testen = false; let comparing := c.dco = .comparing ∨ c.dco = .holdover; judged ∧ comparing ∧ passes ∧ c.passes < 3) ∧
    (∃ (n t : Nat) (s0 : State), let s := s0.upTo t; let c := s.clocks; let word := s.controlWord; let ratio : Rat := fld word.1 23 16 + (fld word.1 15 0 : Rat) / 65536; let passes := |(n : Rat) - 64 * (ratio * (1 + (word.2 : Rat) / 2 ^ 24))| ≤ ((fld (s.reg (blk 2 0x018)) 7 0 : Nat) : Rat) ∧ 20 ≤ fld word.1 23 16 ∧ fld word.1 23 16 ≤ 127 ∧ 800000000 ≤ c.pinHz * ratio ∧ c.pinHz * ratio ≤ 1228800000; let judged := c.xclkOk = true ∧ c.settling = false ∧ s.straps.testen = false; let comparing := c.dco = .comparing ∨ c.dco = .holdover; judged ∧ comparing ∧ passes ∧ 3 ≤ c.passes ∧ s.loader.st ≠ .applying) ∧
    (∃ (n t : Nat) (s0 : State), let s := s0.upTo t; let c := s.clocks; let word := s.controlWord; let ratio : Rat := fld word.1 23 16 + (fld word.1 15 0 : Rat) / 65536; let passes := |(n : Rat) - 64 * (ratio * (1 + (word.2 : Rat) / 2 ^ 24))| ≤ ((fld (s.reg (blk 2 0x018)) 7 0 : Nat) : Rat) ∧ 20 ≤ fld word.1 23 16 ∧ fld word.1 23 16 ≤ 127 ∧ 800000000 ≤ c.pinHz * ratio ∧ c.pinHz * ratio ≤ 1228800000; let judged := c.xclkOk = true ∧ c.settling = false ∧ s.straps.testen = false; let comparing := c.dco = .comparing ∨ c.dco = .holdover; judged ∧ comparing ∧ ¬passes) ∧
    (∃ (n t : Nat) (s0 : State), let s := s0.upTo t; let c := s.clocks; let word := s.controlWord; let ratio : Rat := fld word.1 23 16 + (fld word.1 15 0 : Rat) / 65536; let passes := |(n : Rat) - 64 * (ratio * (1 + (word.2 : Rat) / 2 ^ 24))| ≤ ((fld (s.reg (blk 2 0x018)) 7 0 : Nat) : Rat) ∧ 20 ≤ fld word.1 23 16 ∧ fld word.1 23 16 ≤ 127 ∧ 800000000 ≤ c.pinHz * ratio ∧ c.pinHz * ratio ≤ 1228800000; let judged := c.xclkOk = true ∧ c.settling = false ∧ s.straps.testen = false; judged ∧ c.dco = .locked ∧ passes) ∧
    (∃ (n t : Nat) (s0 : State), let s := s0.upTo t; let c := s.clocks; let word := s.controlWord; let ratio : Rat := fld word.1 23 16 + (fld word.1 15 0 : Rat) / 65536; let passes := |(n : Rat) - 64 * (ratio * (1 + (word.2 : Rat) / 2 ^ 24))| ≤ ((fld (s.reg (blk 2 0x018)) 7 0 : Nat) : Rat) ∧ 20 ≤ fld word.1 23 16 ∧ fld word.1 23 16 ≤ 127 ∧ 800000000 ≤ c.pinHz * ratio ∧ c.pinHz * ratio ≤ 1228800000; let judged := c.xclkOk = true ∧ c.settling = false ∧ s.straps.testen = false; judged ∧ c.dco = .locked ∧ ¬passes) ∧
    (∃ (n t : Nat) (s0 : State), let s := s0.upTo t; let c := s.clocks; let judged := c.xclkOk = true ∧ c.settling = false ∧ s.straps.testen = false; ¬judged) :=
  ⟨⟨0, 0, on, by decide +kernel⟩,
    ⟨0, 0, { on with clocks := { Clocks.reset with xclkOk := false } }, by decide +kernel⟩,
    ⟨0, 0, on, by decide +kernel⟩,
    ⟨0, 0, { on with straps := { Straps.reset with testen := true } }, by decide +kernel⟩,
    ⟨3200, 0, { on with clocks := { Clocks.reset with settling := false, dco := .comparing, passes := 2 } }, by decide +kernel⟩,
    ⟨3200, 0, { on with clocks := { Clocks.reset with settling := false, dco := .holdover, passes := 3 } }, by decide +kernel⟩,
    ⟨0, 0, { on with clocks := { Clocks.reset with settling := false, dco := .comparing } }, by decide +kernel⟩,
    ⟨3200, 0, { on with clocks := { Clocks.reset with settling := false, dco := .locked } }, by decide +kernel⟩,
    ⟨0, 0, { on with clocks := { Clocks.reset with settling := false, dco := .locked } }, by decide +kernel⟩,
    ⟨0, 0, on, by decide +kernel⟩⟩

theorem witness_ClockSwitchesAndGates :
    (∃ (c : ClockName) (n : Fin 15) (w : Word) (forced : Bool) (t : Nat) (s0 : State), let s := s0.upTo t; let a := blk 2 (match c with | .eclk => 0x028 | .fclk => 0x02C | .hclk => 0x030); let no := match c with | .eclk => 0 | .fclk => 1 | .hclk => 2; let busy := (look none s.clocks.sel no).isSome = true; let ready := if bit w 8 then s.clocks.xclkOk = true else s.clocks.dco = .locked; let target := w &&& 0x13F; let direct := s.loader.st ≠ .applying; direct ∧ (busy ∨ (target ≠ s.reg a ∧ ¬ready))) ∧
    (∃ (c : ClockName) (n : Fin 15) (w : Word) (forced : Bool) (t : Nat) (s0 : State), let s := s0.upTo t; let a := blk 2 (match c with | .eclk => 0x028 | .fclk => 0x02C | .hclk => 0x030); let no := match c with | .eclk => 0 | .fclk => 1 | .hclk => 2; let busy := (look none s.clocks.sel no).isSome = true; let target := w &&& 0x13F; let direct := s.loader.st ≠ .applying; direct ∧ ¬busy ∧ target = s.reg a) ∧
    (∃ (c : ClockName) (n : Fin 15) (w : Word) (forced : Bool) (t : Nat) (s0 : State), let s := s0.upTo t; let a := blk 2 (match c with | .eclk => 0x028 | .fclk => 0x02C | .hclk => 0x030); let no := match c with | .eclk => 0 | .fclk => 1 | .hclk => 2; let busy := (look none s.clocks.sel no).isSome = true; let ready := if bit w 8 then s.clocks.xclkOk = true else s.clocks.dco = .locked; let target := w &&& 0x13F; let direct := s.loader.st ≠ .applying; direct ∧ ¬busy ∧ target ≠ s.reg a ∧ ready) ∧
    (∃ (c : ClockName) (n : Fin 15) (w : Word) (forced : Bool) (t : Nat) (s0 : State) (v : _), let s := s0.upTo t; let no := match c with | .eclk => 0 | .fclk => 1 | .hclk => 2; look none s.clocks.sel no = some v ∧ s.gpio.waiting = 0) ∧
    (∃ (c : ClockName) (n : Fin 15) (w : Word) (forced : Bool) (t : Nat) (s0 : State), let s := s0.upTo t; let xclk := ∀ k ∈ [0x028, 0x02C, 0x030], bit (s.reg (blk 2 k)) 8 = true; let direct := s.loader.st ≠ .applying; direct ∧ ¬xclk) ∧
    (∃ (c : ClockName) (n : Fin 15) (w : Word) (forced : Bool) (t : Nat) (s0 : State), let s := s0.upTo t; let xclk := ∀ k ∈ [0x028, 0x02C, 0x030], bit (s.reg (blk 2 k)) 8 = true; let direct := s.loader.st ≠ .applying; direct ∧ xclk ∧ legalWrite (blk 2 0x010) 0x00FFFFFF w = false) ∧
    (∃ (c : ClockName) (n : Fin 15) (w : Word) (forced : Bool) (t : Nat) (s0 : State), let s := s0.upTo t; let xclk := ∀ k ∈ [0x028, 0x02C, 0x030], bit (s.reg (blk 2 k)) 8 = true; let direct := s.loader.st ≠ .applying; direct ∧ xclk ∧ legalWrite (blk 2 0x010) 0x00FFFFFF w = true) ∧
    (∃ (c : ClockName) (n : Fin 15) (w : Word) (forced : Bool) (t : Nat) (s0 : State), let s := s0.upTo t; let gate := s.reg (blk 2 (0x040 + 4 * n)); let open_ := bit gate (match s.power.mode with | .run => 0 | .sleep => 1 | .deepSleep => 2); open_ = false ∧ s.gateRests n = true ∧ s.gateShut n = false) ∧
    (∃ (c : ClockName) (n : Fin 15) (w : Word) (forced : Bool) (t : Nat) (s0 : State), let s := s0.upTo t; let gate := s.reg (blk 2 (0x040 + 4 * n)); let open_ := bit gate (match s.power.mode with | .run => 0 | .sleep => 1 | .deepSleep => 2); (open_ = true ∨ s.gateRests n = false)) :=
  ⟨⟨.hclk, 14, 0, false, 0, on, by decide +kernel⟩,
    ⟨.hclk, 14, 0x101, false, 0, on, by decide +kernel⟩,
    ⟨.hclk, 14, 0x102, false, 0, on, by decide +kernel⟩,
    ⟨.hclk, 14, 0, false, 0, { on with clocks := { Clocks.reset with sel := [(2, some 3)] } }, 3, by decide +kernel⟩,
    ⟨.hclk, 14, 0, false, 0, regs on [(0x2030, 1)], by decide +kernel⟩,
    ⟨.hclk, 14, 0x00010000, false, 0, on, by decide +kernel⟩,
    ⟨.hclk, 14, 0x00640000, false, 0, on, by decide +kernel⟩,
    ⟨.hclk, 14, 0, false, 0, { (regs on [(0x2078, 0)]) with core := { Core.reset with idle := true } }, by decide +kernel⟩,
    ⟨.hclk, 14, 0, false, 0, on, by decide +kernel⟩⟩

theorem witness_RateMeterReports :
    (∃ (i : Fin 20) (count : Nat) (clean : Bool) (t : Nat) (s0 : State), let s := s0.upTo t; let timed := i.val < 16 ∨ s.domain 16 = true; let spoilt := s.clocks.xclkOk = false ∨ i.val ∈ s.clocks.spoilt; timed ∧ ¬spoilt) ∧
    (∃ (i : Fin 20) (count : Nat) (clean : Bool) (t : Nat) (s0 : State), let s := s0.upTo t; let timed := i.val < 16 ∨ s.domain 16 = true; let spoilt := s.clocks.xclkOk = false ∨ i.val ∈ s.clocks.spoilt; timed ∧ spoilt) ∧
    (∃ (i : Fin 20) (count : Nat) (clean : Bool) (t : Nat) (s0 : State), let s := s0.upTo t; let timed := i.val < 16 ∨ s.domain 16 = true; ¬timed) ∧
    (∃ (i : Fin 20) (count : Nat) (clean : Bool) (t : Nat) (s0 : State), let s := s0.upTo t; let fs := (rneDiv (16 * 256 * s.xclkHz) count).toNat; let timed := i.val < 16 ∨ s.domain 16 = true; let spoilt := s.clocks.xclkOk = false ∨ i.val ∈ s.clocks.spoilt; timed ∧ ¬spoilt ∧ bit (s.reg (blk 1 0x030)) 3 = false ∧ fs < 2 ^ 22) ∧
    (∃ (i : Fin 20) (count : Nat) (clean : Bool) (t : Nat) (s0 : State), let s := s0.upTo t; let r := s.reg (blk 3 (0x100 + 8 * i)); let cls := fld r 25 22; cls ≠ 0) :=
  ⟨⟨19, 0, false, 0, on, by decide +kernel⟩,
    ⟨19, 0, true, 0, { on with clocks := { Clocks.reset with xclkOk := false } }, by decide +kernel⟩,
    ⟨19, 0, true, 0, State.reset, by decide +kernel⟩,
    ⟨19, 65536, true, 0, regs on [(0x2034, 12288000)], by decide +kernel⟩,
    ⟨19, 0, true, 0, regs on [(0x3198, 0x810BB800)], by decide +kernel⟩⟩

theorem witness_HeadersAreJudged :
    (∃ (h : Head) (op : BitVec 5) (t : Nat) (s0 : State), let s := s0.upTo t; let hears := s.host.mastering = false ∧ h.ownLow = false ∧ s.power.vin = true ∧ s.clkRuns .hclk = true; ¬hears) ∧
    (∃ (h : Head) (op : BitVec 5) (t : Nat) (s0 : State), let s := s0.upTo t; let hears := s.host.mastering = false ∧ h.ownLow = false ∧ s.power.vin = true ∧ s.clkRuns .hclk = true; hears ∧ h.hchk = none) ∧
    (∃ (h : Head) (op : BitVec 5) (t : Nat) (s0 : State), let s := s0.upTo t; let hears := s.host.mastering = false ∧ h.ownLow = false ∧ s.power.vin = true ∧ s.clkRuns .hclk = true; let passes := h.hchk = some (crcOfBits (commandBits 7 h)); hears ∧ h.hchk ≠ none ∧ ¬passes) ∧
    (∃ (h : Head) (op : BitVec 5) (t : Nat) (s0 : State), let s := s0.upTo t; Safety.Accepted s 7 [] h) ∧
    (∃ (h : Head) (op : BitVec 5) (t : Nat) (s0 : State), let s := s0.upTo t; let hears := s.host.mastering = false ∧ h.ownLow = false ∧ s.power.vin = true ∧ s.clkRuns .hclk = true; let passes := h.hchk = some (crcOfBits (commandBits 7 h)); let mine := h.device.toNat = s.host.active.toNat; hears ∧ passes ∧ mine ∧ h.gen = s.host.gen ∧ s.host.st = .quarantine) ∧
    (∃ (h : Head) (op : BitVec 5) (t : Nat) (s0 : State), let s := s0.upTo t; let hears := s.host.mastering = false ∧ h.ownLow = false ∧ s.power.vin = true ∧ s.clkRuns .hclk = true; let passes := h.hchk = some (crcOfBits (commandBits 7 h)); let mine := h.device.toNat = s.host.active.toNat; hears ∧ passes ∧ mine ∧ h.gen ≠ s.host.gen ∧ h.gen = 15) ∧
    (∃ (h : Head) (op : BitVec 5) (t : Nat) (s0 : State), let s := s0.upTo t; let hears := s.host.mastering = false ∧ h.ownLow = false ∧ s.power.vin = true ∧ s.clkRuns .hclk = true; let passes := h.hchk = some (crcOfBits (commandBits 7 h)); let mine := h.device.toNat = s.host.active.toNat; hears ∧ passes ∧ mine ∧ h.gen ≠ s.host.gen ∧ h.gen ≠ 15) ∧
    (∃ (h : Head) (op : BitVec 5) (t : Nat) (s0 : State), let s := s0.upTo t; let hears := s.host.mastering = false ∧ h.ownLow = false ∧ s.power.vin = true ∧ s.clkRuns .hclk = true; let passes := h.hchk = some (crcOfBits (commandBits 7 h)); let mine := h.device.toNat = s.host.active.toNat; hears ∧ passes ∧ h.device.toNat < 64 ∧ ¬mine) ∧
    (∃ (h : Head) (op : BitVec 5) (t : Nat) (s0 : State), let s := s0.upTo t; let hears := s.host.mastering = false ∧ h.ownLow = false ∧ s.power.vin = true ∧ s.clkRuns .hclk = true; let passes := h.hchk = some (crcOfBits (commandBits 7 h)); hears ∧ passes ∧ 64 ≤ h.device.toNat ∧ h.device ≠ 127 ∧ s.inGroup h.device.toNat = true ∧ h.gen ≠ s.host.gen) ∧
    (∃ (h : Head) (op : BitVec 5) (t : Nat) (s0 : State), let s := s0.upTo t; let hears := s.host.mastering = false ∧ h.ownLow = false ∧ s.power.vin = true ∧ s.clkRuns .hclk = true; let passes := h.hchk = some (crcOfBits (commandBits 7 h)); hears ∧ passes ∧ 64 ≤ h.device.toNat ∧ (h.device = 127 ∨ s.inGroup h.device.toNat = false ∨ h.gen = s.host.gen)) ∧
    (∃ (h : Head) (op : BitVec 5) (t : Nat) (s0 : State), let s := s0.upTo t; Safety.Accepted s op [] h ∧ (op = 0 ∨ 10 < op.toNat)) ∧
    (∃ (h : Head) (op : BitVec 5) (t : Nat) (s0 : State) (base n : Nat) (l : List Bool), n ∈ [1, 2, 4, 8] ∧ base + n ≤ 8 ∧ n ∣ l.length) :=
  ⟨⟨head 7, 0, 0, { (on) with host := { HostPort.reset with mastering := true } }, by decide +kernel⟩,
    ⟨⟨0, 0, none, false⟩, 0, 0, on, by decide +kernel⟩,
    ⟨⟨0, 0, some 7, false⟩, 0, 0, on, by decide +kernel⟩,
    ⟨head 7, 0, 0, on, by unfold Safety.Accepted; decide +kernel⟩,
    ⟨head 7, 0, 0, { (on) with host := { HostPort.reset with st := .quarantine } }, by decide +kernel⟩,
    ⟨head 7 [] 0 15, 0, 0, on, by decide +kernel⟩,
    ⟨head 7 [] 0 14, 0, 0, on, by decide +kernel⟩,
    ⟨head 7 [] 63, 0, 0, on, by decide +kernel⟩,
    ⟨head 7 [] 126 14, 0, 0, regs on [(0x402C, 0x40000000)], by decide +kernel⟩,
    ⟨head 7 [] 64 14, 0, 0, on, by decide +kernel⟩,
    ⟨head 11, 11, 0, on, by unfold Safety.Accepted; decide +kernel⟩,
    ⟨head 7, 0, 0, on, 4, 4, [true, false, true, true], by decide +kernel⟩⟩

theorem witness_WriteFramesPost :
    (∃ (h : Head) (a : Word) (words : List Word) (extra : Nat) (dchk : BitVec 16) (b : Nat) (fixed : Bool) (t : Nat) (s0 : State), let s := s0.upTo t; let addr := s.addressBits a; let inside := fixed = true ∨ b + 4 * words.length ≤ regionEnd b; let fits := extra = 0 ∧ words.length ≤ 64; let whole := fits ∧ words ≠ []; let place := s.addressOf a = some (b, fixed); Safety.Accepted s 3 addr h ∧ whole ∧ place ∧ controlClass b = false ∧ inside ∧ s.host.posted.length < 16) ∧
    (∃ (h : Head) (a : Word) (words : List Word) (extra : Nat) (dchk : BitVec 16) (b : Nat) (fixed : Bool) (t : Nat) (s0 : State), let s := s0.upTo t; let addr := s.addressBits a; let inside := fixed = true ∨ b + 4 * words.length ≤ regionEnd b; let fits := extra = 0 ∧ words.length ≤ 64; let whole := fits ∧ words ≠ []; let place := s.addressOf a = some (b, fixed); Safety.Accepted s 3 addr h ∧ whole ∧ place ∧ controlClass b = false ∧ inside ∧ 16 ≤ s.host.posted.length) ∧
    (∃ (h : Head) (a : Word) (words : List Word) (extra : Nat) (dchk : BitVec 16) (b : Nat) (fixed : Bool) (t : Nat) (s0 : State), let s := s0.upTo t; let addr := s.addressBits a; let inside := fixed = true ∨ b + 4 * words.length ≤ regionEnd b; let place := s.addressOf a = some (b, fixed); Safety.Accepted s 3 addr h ∧ extra = 0 ∧ words = [] ∧ place ∧ controlClass b = false ∧ inside) ∧
    (∃ (h : Head) (a : Word) (words : List Word) (extra : Nat) (dchk : BitVec 16) (b : Nat) (fixed : Bool) (t : Nat) (s0 : State), let s := s0.upTo t; let addr := s.addressBits a; let fits := extra = 0 ∧ words.length ≤ 64; let place := s.addressOf a = some (b, fixed); Safety.Accepted s 3 addr h ∧ fits ∧ place ∧ controlClass b = true) ∧
    (∃ (h : Head) (a : Word) (words : List Word) (extra : Nat) (dchk : BitVec 16) (b : Nat) (fixed : Bool) (t : Nat) (s0 : State), let s := s0.upTo t; let addr := s.addressBits a; let inside := fixed = true ∨ b + 4 * words.length ≤ regionEnd b; let fits := extra = 0 ∧ words.length ≤ 64; let place := s.addressOf a = some (b, fixed); Safety.Accepted s 3 addr h ∧ fits ∧ place ∧ controlClass b = false ∧ ¬inside) ∧
    (∃ (h : Head) (a : Word) (words : List Word) (extra : Nat) (dchk : BitVec 16) (b : Nat) (fixed : Bool) (t : Nat) (s0 : State), let s := s0.upTo t; let addr := s.addressBits a; let fits := extra = 0 ∧ words.length ≤ 64; Safety.Accepted s 3 addr h ∧ fits ∧ s.addressOf a = none) ∧
    (∃ (h : Head) (a : Word) (words : List Word) (extra : Nat) (dchk : BitVec 16) (b : Nat) (fixed : Bool) (t : Nat) (s0 : State), let s := s0.upTo t; let addr := s.addressBits a; Safety.Accepted s 3 addr h ∧ (64 < words.length ∨ words.length = 64 ∧ extra ≠ 0)) ∧
    (∃ (h : Head) (a : Word) (words : List Word) (extra : Nat) (dchk : BitVec 16) (b : Nat) (fixed : Bool) (t : Nat) (s0 : State), let s := s0.upTo t; let addr := s.addressBits a; Safety.Accepted s 3 addr h ∧ words.length < 64 ∧ extra ≠ 0) ∧
    (∃ (h : Head) (a : Word) (words : List Word) (extra : Nat) (dchk : BitVec 16) (b : Nat) (fixed : Bool) (t : Nat) (s0 : State), let s := s0.upTo t; let addr := s.addressBits a; let inside := fixed = true ∨ b + 4 * words.length ≤ regionEnd b; let fits := extra = 0 ∧ words.length ≤ 64; let whole := fits ∧ words ≠ []; let place := s.addressOf a = some (b, fixed); let checked := dchk = dchkOf 4 h addr words; Safety.Accepted s 4 addr h ∧ whole ∧ checked ∧ place ∧ inside ∧ s.host.posted.length < 16) ∧
    (∃ (h : Head) (a : Word) (words : List Word) (extra : Nat) (dchk : BitVec 16) (b : Nat) (fixed : Bool) (t : Nat) (s0 : State), let s := s0.upTo t; let addr := s.addressBits a; let inside := fixed = true ∨ b + 4 * words.length ≤ regionEnd b; let fits := extra = 0 ∧ words.length ≤ 64; let whole := fits ∧ words ≠ []; let place := s.addressOf a = some (b, fixed); let checked := dchk = dchkOf 4 h addr words; Safety.Accepted s 4 addr h ∧ whole ∧ checked ∧ place ∧ inside ∧ 16 ≤ s.host.posted.length) ∧
    (∃ (h : Head) (a : Word) (words : List Word) (extra : Nat) (dchk : BitVec 16) (b : Nat) (fixed : Bool) (t : Nat) (s0 : State), let s := s0.upTo t; let addr := s.addressBits a; let inside := fixed = true ∨ b + 4 * words.length ≤ regionEnd b; let fits := extra = 0 ∧ words.length ≤ 64; let whole := fits ∧ words ≠ []; let place := s.addressOf a = some (b, fixed); let checked := dchk = dchkOf 4 h addr words; Safety.Accepted s 4 addr h ∧ whole ∧ checked ∧ place ∧ ¬inside) ∧
    (∃ (h : Head) (a : Word) (words : List Word) (extra : Nat) (dchk : BitVec 16) (b : Nat) (fixed : Bool) (t : Nat) (s0 : State), let s := s0.upTo t; let addr := s.addressBits a; let fits := extra = 0 ∧ words.length ≤ 64; let whole := fits ∧ words ≠ []; let checked := dchk = dchkOf 4 h addr words; Safety.Accepted s 4 addr h ∧ whole ∧ checked ∧ s.addressOf a = none) ∧
    (∃ (h : Head) (a : Word) (words : List Word) (extra : Nat) (dchk : BitVec 16) (b : Nat) (fixed : Bool) (t : Nat) (s0 : State), let s := s0.upTo t; let addr := s.addressBits a; let fits := extra = 0 ∧ words.length ≤ 64; let whole := fits ∧ words ≠ []; let checked := dchk = dchkOf 4 h addr words; Safety.Accepted s 4 addr h ∧ whole ∧ ¬checked) ∧
    (∃ (h : Head) (a : Word) (words : List Word) (extra : Nat) (dchk : BitVec 16) (b : Nat) (fixed : Bool) (t : Nat) (s0 : State), let s := s0.upTo t; let addr := s.addressBits a; Safety.Accepted s 4 addr h ∧ words.length < 64 ∧ (extra ≠ 0 ∨ words = [])) ∧
    (∃ (h : Head) (a : Word) (words : List Word) (extra : Nat) (dchk : BitVec 16) (b : Nat) (fixed : Bool) (t : Nat) (s0 : State), let s := s0.upTo t; let addr := s.addressBits a; Safety.Accepted s 4 addr h ∧ (64 < words.length ∨ words.length = 64 ∧ extra ≠ 0)) :=
  ⟨⟨head 3 (State.addressBits (on) 0x11FFF00), 0x11FFF00, List.replicate 64 7, 0, 0, 0x11FFF00, false, 0, on, by unfold Safety.Accepted; decide +kernel⟩,
    ⟨head 3 (State.addressBits ({ on with host := { HostPort.reset with posted := List.replicate 16 (.adopt 0) } }) 0x11FFFFC), 0x11FFFFC, [7], 0, 0, 0x11FFFFC, false, 0, { on with host := { HostPort.reset with posted := List.replicate 16 (.adopt 0) } }, by unfold Safety.Accepted; decide +kernel⟩,
    ⟨head 3 (State.addressBits (on) 0x11FFFFC), 0x11FFFFC, [], 0, 0, 0x11FFFFC, false, 0, on, by unfold Safety.Accepted; decide +kernel⟩,
    ⟨head 3 (State.addressBits (on) 0x4010), 0x4010, [1], 0, 0, 0x4010, false, 0, on, by unfold Safety.Accepted; decide +kernel⟩,
    ⟨head 3 (State.addressBits (on) 0x11FFFFC), 0x11FFFFC, [1, 2], 0, 0, 0x11FFFFC, false, 0, on, by unfold Safety.Accepted; decide +kernel⟩,
    ⟨head 3 (State.addressBits (on) 0x20000000), 0x20000000, [1], 0, 0, 0x20000000, false, 0, on, by unfold Safety.Accepted; decide +kernel⟩,
    ⟨head 3 (State.addressBits (on) 0), 0, List.replicate 64 7, 1, 0, 0, false, 0, on, by unfold Safety.Accepted; decide +kernel⟩,
    ⟨head 3 (on.addressBits 0), 0, [], 31, 0, 0, false, 0, on, by unfold Safety.Accepted; decide +kernel⟩,
    ⟨head 4 (State.addressBits (on) 0x11FFFFC), 0x11FFFFC, [7], 0, dchkOf 4 (head 4 (State.addressBits (on) 0x11FFFFC)) (State.addressBits (on) 0x11FFFFC) [7], 0x11FFFFC, false, 0, on, by unfold Safety.Accepted; decide +kernel⟩,
    ⟨head 4 (State.addressBits ({ on with host := { HostPort.reset with posted := List.replicate 16 (.adopt 0) } }) 0x11FFFFC), 0x11FFFFC, [1], 0, dchkOf 4 (head 4 (State.addressBits ({ on with host := { HostPort.reset with posted := List.replicate 16 (.adopt 0) } }) 0x11FFFFC)) (State.addressBits ({ on with host := { HostPort.reset with posted := List.replicate 16 (.adopt 0) } }) 0x11FFFFC) [1], 0x11FFFFC, false, 0, { on with host := { HostPort.reset with posted := List.replicate 16 (.adopt 0) } }, by unfold Safety.Accepted; decide +kernel⟩,
    ⟨head 4 (State.addressBits (on) 0x11FFFFC), 0x11FFFFC, [1, 2], 0, dchkOf 4 (head 4 (State.addressBits (on) 0x11FFFFC)) (State.addressBits (on) 0x11FFFFC) [1, 2], 0x11FFFFC, false, 0, on, by unfold Safety.Accepted; decide +kernel⟩,
    ⟨head 4 (State.addressBits (on) 0x20000000), 0x20000000, [1], 0, dchkOf 4 (head 4 (State.addressBits (on) 0x20000000)) (State.addressBits (on) 0x20000000) [1], 0x20000000, false, 0, on, by unfold Safety.Accepted; decide +kernel⟩,
    ⟨head 4 (State.addressBits (on) 0), 0, [1], 0, dchkOf 4 (head 4 (State.addressBits (on) 0)) (State.addressBits (on) 0) [1] ^^^ 1, 0, false, 0, on, by unfold Safety.Accepted; decide +kernel⟩,
    ⟨head 4 (on.addressBits 0), 0, [], 0, 0, 0, false, 0, on, by unfold Safety.Accepted; decide +kernel⟩,
    ⟨head 4 (State.addressBits (on) 0), 0, List.replicate 64 7, 1, 0, 0, false, 0, on, by unfold Safety.Accepted; decide +kernel⟩⟩

theorem witness_CommandFramesPost :
    (∃ (h : Head) (x y z : Word) (t : Nat) (s0 : State), let s := s0.upTo t; s.host.posted.length < 16 ∧ Safety.Accepted s 5 [] h ∧ fld z 10 8 ≤ 4) ∧
    (∃ (h : Head) (x y z : Word) (t : Nat) (s0 : State), let s := s0.upTo t; s.host.posted.length < 16 ∧ Safety.Accepted s 5 [] h ∧ 4 < fld z 10 8) ∧
    (∃ (h : Head) (x y z : Word) (t : Nat) (s0 : State), let s := s0.upTo t; s.host.posted.length < 16 ∧ Safety.Accepted s 5 [] h) ∧
    (∃ (h : Head) (x y z : Word) (t : Nat) (s0 : State), let s := s0.upTo t; s.host.posted.length < 16 ∧ Safety.Accepted s 9 [] h ∧ scopeKnown (fld x 7 0) = true) ∧
    (∃ (h : Head) (x y z : Word) (t : Nat) (s0 : State), let s := s0.upTo t; s.host.posted.length < 16 ∧ Safety.Accepted s 9 [] h ∧ scopeKnown (fld x 7 0) = false) ∧
    (∃ (h : Head) (x y z : Word) (t : Nat) (s0 : State), let s := s0.upTo t; s.host.posted.length < 16 ∧ Safety.Accepted s 10 [] h) ∧
    (∃ (h : Head) (x y z : Word) (t : Nat) (s0 : State), let s := s0.upTo t; s.host.posted.length < 16 ∧ Safety.Accepted s 8 [] h ∧ fld z 3 0 ≠ 15) ∧
    (∃ (h : Head) (x y z : Word) (t : Nat) (s0 : State), let s := s0.upTo t; s.host.posted.length < 16 ∧ Safety.Accepted s 8 [] h ∧ fld z 3 0 = 15) ∧
    (∃ (h : Head) (x y z : Word) (t : Nat) (s0 : State), let s := s0.upTo t; let hears := s.host.mastering = false ∧ h.ownLow = false ∧ s.power.vin = true ∧ s.clkRuns .hclk = true; s.host.posted.length < 16 ∧ hears ∧ s.host.st ≠ .superseded ∧ h.device = 127 ∧ h.gen = 15 ∧ h.hchk = some (crcOfBits (commandBits 8 h)) ∧ (x ++ y : BitVec 64) ≠ s.uid ∧ fld z 3 0 ≠ 15) ∧
    (∃ (h : Head) (x y z : Word) (t : Nat) (s0 : State), let s := s0.upTo t; let hears := s.host.mastering = false ∧ h.ownLow = false ∧ s.power.vin = true ∧ s.clkRuns .hclk = true; s.host.posted.length < 16 ∧ hears ∧ s.host.st = .superseded ∧ h.device = 127 ∧ h.gen = 15 ∧ h.hchk = some (crcOfBits (commandBits 8 h)) ∧ (x ++ y : BitVec 64) = s.uid ∧ fld z 3 0 ≠ 15) ∧
    (∃ (h : Head) (x y z : Word) (t : Nat) (s0 : State), let s := s0.upTo t; s.host.posted.length < 16 ∧ Safety.Accepted s 6 [] h) :=
  ⟨⟨head 5, 0, 0, 0x400, 0, on, by unfold Safety.Accepted; decide +kernel⟩,
    ⟨head 5, 0, 0, 0x500, 0, on, by unfold Safety.Accepted; decide +kernel⟩,
    ⟨head 5, 0, 0, 0, 0, on, by unfold Safety.Accepted; decide +kernel⟩,
    ⟨head 9, 0x17, 0, 0, 0, on, by unfold Safety.Accepted; decide +kernel⟩,
    ⟨head 9, 0xFF, 0, 0, 0, on, by unfold Safety.Accepted; decide +kernel⟩,
    ⟨head 10, 0, 0, 0, 0, on, by unfold Safety.Accepted; decide +kernel⟩,
    ⟨head 8, 0, 0, 14, 0, on, by unfold Safety.Accepted; decide +kernel⟩,
    ⟨head 8, 0, 0, 15, 0, on, by unfold Safety.Accepted; decide +kernel⟩,
    ⟨head 8 [] 127 15, 1, 0, 0, 0, on, by decide +kernel⟩,
    ⟨head 8 [] 127 15, 0, 0, 0, 0, { (on) with host := { HostPort.reset with st := .superseded } }, by decide +kernel⟩,
    ⟨head 6, 0, 0, 0, 0, on, by unfold Safety.Accepted; decide +kernel⟩⟩

theorem witness_ReadsAreAnsweredAndEntriesComplete :
    (∃ (h : Head) (a : Word) (n wait : Nat) (w : Word) (rest : List Posted) (t : Nat) (s0 : State) (b : _) (fixed : _), let s := s0.upTo t; let addr := s.addressBits a; Safety.Accepted s 1 addr h ∧ s.addressOf a = some (b, fixed)) ∧
    (∃ (h : Head) (a : Word) (n wait : Nat) (w : Word) (rest : List Posted) (t : Nat) (s0 : State) (b : _) (fixed : _), let s := s0.upTo t; let addr := s.addressBits a; Safety.Accepted s 2 addr h ∧ s.addressOf a = some (b, fixed)) ∧
    (∃ (h : Head) (a : Word) (n wait : Nat) (w : Word) (rest : List Posted) (t : Nat) (s0 : State) (k : Nat) (fixed : Bool) (l : Option Nat), let s := s0.upTo t; let data := fun (n : Nat) => (∃ r, regionOf n = some r ∧ r.isData = true ∧ s.reaches r n = true) ∧ s.hostCrosses n = false ∧ n % 4 = 0; let goes := s.loader.st ≠ .applying ∧ (s.cross 70).active = false ∧ s.gateCloses n = false ∧ s.clkRuns .hclk = true; let j : ReadJob := ⟨n, fixed, l⟩; let p := s.prefetch j; let place := fun i => if fixed then n else n + 4 * i; (l = none ∨ l = some k) ∧ s.host.read = some j ∧ s.host.posted = [] ∧ goes ∧ (∀ i, i < max p k → data (place i)) ∧ (fixed = true ∨ n + 4 * k ≤ regionEnd n) ∧ s.turnHold ((List.range p).map place) wait ≤ wait) ∧
    (∃ (h : Head) (a : Word) (n wait : Nat) (w : Word) (rest : List Posted) (t : Nat) (s0 : State) (j : _), let s := s0.upTo t; s.host.read = some j ∧ s.host.posted ≠ []) ∧
    (∃ (h : Head) (a : Word) (n wait : Nat) (w : Word) (rest : List Posted) (t : Nat) (s0 : State) (j : _), let s := s0.upTo t; s.host.read = some j) ∧
    (∃ (h : Head) (a : Word) (n wait : Nat) (w : Word) (rest : List Posted) (t : Nat) (s0 : State), let s := s0.upTo t; let data := fun (n : Nat) => (∃ r, regionOf n = some r ∧ r.isData = true ∧ s.reaches r n = true) ∧ s.hostCrosses n = false ∧ n % 4 = 0; let goes := s.loader.st ≠ .applying ∧ (s.cross 70).active = false ∧ s.gateCloses n = false ∧ s.clkRuns .hclk = true; s.host.posted = .write [(n, w)] :: rest ∧ goes ∧ data n ∧ (atBank n = true → s.host.hold ≤ wait)) ∧
    (∃ (h : Head) (a : Word) (n wait : Nat) (w : Word) (rest : List Posted) (t : Nat) (s0 : State), let s := s0.upTo t; s.host.posted = .align w a :: rest ∧ s.loader.st ≠ .applying ∧ s.clkRuns .hclk = true) ∧
    (∃ (h : Head) (a : Word) (n wait : Nat) (w : Word) (rest : List Posted) (t : Nat) (s0 : State), let s := s0.upTo t; s.host.posted = .commit w a 0x100 :: rest ∧ s.loader.st ≠ .applying ∧ s.clkRuns .hclk = true) ∧
    (∃ (h : Head) (a : Word) (n wait : Nat) (w : Word) (rest : List Posted) (t : Nat) (s0 : State), let s := s0.upTo t; s.host.posted ≠ [] ∧ (∃ k v, s.host.posted.head? = some (.write [(k, v)])) ∧ s.loader.st = .applying) ∧
    (∃ (h : Head) (a : Word) (n wait : Nat) (w : Word) (rest : List Posted) (t : Nat) (s0 : State), let s := s0.upTo t; s.host.posted = .write [(n, w)] :: rest ∧ atBank n = true ∧ wait < s.host.hold) ∧
    (∃ (h : Head) (a : Word) (n wait : Nat) (w : Word) (rest : List Posted) (t : Nat) (s0 : State), let s := s0.upTo t; s.clkRuns .hclk = false) :=
  ⟨⟨head 1 (on.addressBits 0x11FFFFC), 0x11FFFFC, 0, 0, 0, [], 0, on, 0x11FFFFC, false, by unfold Safety.Accepted; decide +kernel⟩,
    ⟨head 2 (on.addressBits 0x11FFFFC), 0x11FFFFC, 0, 0, 0, [], 0, on, 0x11FFFFC, false, by unfold Safety.Accepted; decide +kernel⟩,
    ⟨head 1, 0, 0x11FFFF8, 0, 0, [], 0, { on with host := { HostPort.reset with read := some ⟨0x11FFFF8, false, some 2⟩ } }, 2, false, some 2,
      ⟨by decide +kernel, by decide +kernel, by decide +kernel, by decide +kernel, fun i h => by
        have two : i = 0 ∨ i = 1 := by
          have : max (State.prefetch ({ on with host := { HostPort.reset with read := some ⟨0x11FFFF8, false, some 2⟩ } }) ⟨0x11FFFF8, false, some 2⟩) 2 = 2 := by
            decide +kernel
          have : i < 2 := this ▸ h
          omega
        rcases two with rfl | rfl
        · exact ⟨⟨.setMem 0, by decide +kernel⟩, by decide +kernel⟩
        · exact ⟨⟨.setMem 0, by decide +kernel⟩, by decide +kernel⟩, by decide +kernel, by decide +kernel⟩⟩,
    ⟨head 1, 0, 0, 0, 0, [], 0, { (on) with host := { HostPort.reset with read := some ⟨4, false, none⟩, posted := [.adopt 0] } }, ⟨4, false, none⟩, by decide +kernel⟩,
    ⟨head 1, 0, 0, 0, 0, [], 0, { (on) with host := { HostPort.reset with read := some ⟨4, false, none⟩ } }, ⟨4, false, none⟩, by decide +kernel⟩,
    ⟨head 1, 0, 0x11FFFFC, 0, 7, [], 0, { on with host := { HostPort.reset with posted := [.write [(0x11FFFFC, 7)]] } }, ⟨by decide +kernel, by decide +kernel, ⟨⟨.setMem 0, by decide +kernel⟩, by decide +kernel⟩, by decide +kernel⟩⟩,
    ⟨head 1, 3, 0, 0, 7, [], 0, { (on) with host := { HostPort.reset with posted := [.align 7 3] } }, by decide +kernel⟩,
    ⟨head 1, 3, 0, 0, 7, [], 0, { (on) with host := { HostPort.reset with posted := [.commit 7 3 0x100] } }, by decide +kernel⟩,
    ⟨head 1, 0, 0, 0, 0, [], 0, { (on.setLoader { Loader.reset with st := .applying }) with host := { HostPort.reset with posted := [.write [(0x11FFFFC, 7)]] } }, ⟨by decide +kernel, ⟨0x11FFFFC, 7, rfl⟩, by decide +kernel⟩⟩,
    ⟨head 1, 0, 0x11FFFFC, 0, 7, [], 0, { (on) with host := { HostPort.reset with posted := [.write [(0x11FFFFC, 7)]], hold := 1 } }, by decide +kernel⟩,
    ⟨head 1, 0, 0, 0, 0, [], 0, { on with clocks := { Clocks.reset with xclkOk := false } }, by decide +kernel⟩⟩

theorem witness_SilenceAndBusMastering :
    (∃ (l : List Word) (b0 b1 b2 b3 : Byte) (t : Nat) (s0 : State), let s := s0.upTo t; let due := s.silenceRuns = true ∧ s.power.vin = true ∧ (s.silenceMs : Rat) ≤ s.silent * 1000 / s.xclkHz; ¬due) ∧
    (∃ (l : List Word) (b0 b1 b2 b3 : Byte) (t : Nat) (s0 : State), let s := s0.upTo t; let due := s.silenceRuns = true ∧ s.power.vin = true ∧ (s.silenceMs : Rat) ≤ s.silent * 1000 / s.xclkHz; due) ∧
    (∃ (l : List Word) (b0 b1 b2 b3 : Byte) (t : Nat) (s0 : State), let s := s0.upTo t; let h := s.host; let may := s.power.vin = true ∧ h.st = .normal ∧ s.clkRuns .hclk = true; h.rawWaiting = true ∧ may ∧ s.rawLoops = false) ∧
    (∃ (l : List Word) (b0 b1 b2 b3 : Byte) (t : Nat) (s0 : State), let s := s0.upTo t; let h := s.host; let raw := s.reg (blk 4 0x054); bit raw 0 = true ∧ h.rawWaiting = false ∧ s.rawReceives = true ∧ s.unitOn 19 = true ∧ h.rawLoop = false ∧ s.clkRuns .hclk = true ∧ s.rawLen = 32) ∧
    (∃ (l : List Word) (b0 b1 b2 b3 : Byte) (t : Nat) (s0 : State), let s := s0.upTo t; let h := s.host; let raw := s.reg (blk 4 0x054); bit raw 0 = true ∧ h.rawWaiting = false ∧ h.mastering = true ∧ s.flashHolds = false) ∧
    (∃ (l : List Word) (b0 b1 b2 b3 : Byte) (t : Nat) (s0 : State), let s := s0.upTo t; let h := s.host; h.mastering = true ∧ s.flashHolds = true ∧ s.loader.full = true) ∧
    (∃ (l : List Word) (b0 b1 b2 b3 : Byte) (t : Nat) (s0 : State), let s := s0.upTo t; let h := s.host; let may := s.power.vin = true ∧ h.st = .normal ∧ s.clkRuns .hclk = true; (s.core.phase = .flash ∨ s.core.phase = .queued ∧ s.straps.devnum.toNat ≤ h.edges) ∧ may ∧ h.mastering = false ∧ (s.loader.st = .idle ∨ s.loader.st = .failed)) ∧
    (∃ (l : List Word) (b0 b1 b2 b3 : Byte) (t : Nat) (s0 : State), let s := s0.upTo t; let h := s.host; h.mastering = true ∧ s.loader.path = .flash ∧ s.loader.st = .receiving ∧ s.clkRuns .hclk = true ∧ h.flashRest = []) :=
  ⟨⟨[7], 4, 3, 2, 1, 0, regs on [(0x0028, 0)], by decide +kernel⟩,
    ⟨[7], 4, 3, 2, 1, 0, { regs on [(0x0028, 1)] with silent := 24576000 }, by decide +kernel⟩,
    ⟨[7], 4, 3, 2, 1, 0, { (on) with host := { HostPort.reset with rawWaiting := true } }, by decide +kernel⟩,
    ⟨[7], 4, 3, 2, 1, 0, regs on [(0x4054, 1), (0x404C, 32)], by decide +kernel⟩,
    ⟨[7], 4, 3, 2, 1, 0, { (regs on [(0x4054, 1)]) with host := { HostPort.reset with mastering := true } }, by decide +kernel⟩,
    ⟨[7], 4, 3, 2, 1, 0, { (on.setLoader { Loader.reset with st := .receiving, path := .flash, full := true }) with host := { HostPort.reset with mastering := true } }, by decide +kernel⟩,
    ⟨[7], 4, 3, 2, 1, 0, { on with core := { Core.reset with phase := .flash } }, by decide +kernel⟩,
    ⟨[7], 4, 3, 2, 1, 0, { (on.setLoader { Loader.reset with st := .receiving, path := .flash, full := true }) with host := { HostPort.reset with mastering := true } }, by decide +kernel⟩⟩

theorem witness_LoaderCommands :
    (∃ (t : Nat) (s0 : State), let s := s0.upTo t; let l := s.loader; let on := s.unitOn 19 = true; let direct := l.st ≠ .applying; let free := l.st = .idle ∨ l.st = .failed; direct ∧ on ∧ free) ∧
    (∃ (t : Nat) (s0 : State), let s := s0.upTo t; let l := s.loader; let on := s.unitOn 19 = true; let direct := l.st ≠ .applying; let free := l.st = .idle ∨ l.st = .failed; direct ∧ on ∧ ¬free) ∧
    (∃ (t : Nat) (s0 : State), let s := s0.upTo t; let l := s.loader; let on := s.unitOn 19 = true; let direct := l.st ≠ .applying; direct ∧ on ∧ l.st = .receiving) ∧
    (∃ (t : Nat) (s0 : State) (es : _), let s := s0.upTo t; let l := s.loader; let on := s.unitOn 19 = true; let direct := l.st ≠ .applying; direct ∧ on ∧ l.st = .failed ∧ l.previous = some es ∧ es ≠ []) ∧
    (∃ (t : Nat) (s0 : State), let s := s0.upTo t; let l := s.loader; let on := s.unitOn 19 = true; let direct := l.st ≠ .applying; direct ∧ on ∧ l.st = .failed ∧ l.previous = some []) ∧
    (∃ (t : Nat) (s0 : State), let s := s0.upTo t; let l := s.loader; let on := s.unitOn 19 = true; let direct := l.st ≠ .applying; direct ∧ on ∧ l.st = .hold ∧ l.entries ≠ []) ∧
    (∃ (t : Nat) (s0 : State), let s := s0.upTo t; let l := s.loader; let on := s.unitOn 19 = true; let direct := l.st ≠ .applying; direct ∧ on ∧ l.st ≠ .receiving) ∧
    (∃ (t : Nat) (s0 : State), let s := s0.upTo t; let l := s.loader; let on := s.unitOn 19 = true; let direct := l.st ≠ .applying; direct ∧ on ∧ l.st ≠ .failed) ∧
    (∃ (t : Nat) (s0 : State), let s := s0.upTo t; let l := s.loader; let on := s.unitOn 19 = true; let direct := l.st ≠ .applying; direct ∧ on ∧ l.st ≠ .hold) ∧
    (∃ (t : Nat) (s0 : State), let s := s0.upTo t; let l := s.loader; let on := s.unitOn 19 = true; let direct := l.st ≠ .applying; direct ∧ ¬on) :=
  ⟨⟨0, on, by decide +kernel⟩,
    ⟨0, (on).setLoader { Loader.reset with st := .receiving }, by decide +kernel⟩,
    ⟨0, (on).setLoader { Loader.reset with st := .receiving }, by decide +kernel⟩,
    ⟨0, (on).setLoader { Loader.reset with st := .failed, previous := some [⟨0, 31, 0, false⟩] }, [⟨0, 31, 0, false⟩], by decide +kernel⟩,
    ⟨0, (on).setLoader { Loader.reset with st := .failed, previous := some [] }, by decide +kernel⟩,
    ⟨0, (on).setLoader { Loader.reset with st := .hold, entries := [⟨0, 31, 0, false⟩] }, by decide +kernel⟩,
    ⟨0, on, by decide +kernel⟩,
    ⟨0, on, by decide +kernel⟩,
    ⟨0, on, by decide +kernel⟩,
    ⟨0, { State.reset with power := { Power.reset with on := [] } }, by decide +kernel⟩⟩

theorem witness_LoadsProceed :
    (∃ (w : Word) (late : Bool) (i : Nat) (x : StartEntry) (t : Nat) (s0 : State), let s := s0.upTo t; let l := s.loader; l.st = .stopping ∧ l.path = .host ∧ (late = true ∨ s.allStopped = true)) ∧
    (∃ (w : Word) (late : Bool) (i : Nat) (x : StartEntry) (t : Nat) (s0 : State), let s := s0.upTo t; let l := s.loader; let on := s.unitOn 19 = true; let staged := l.staged ++ [w]; let n := imgLength staged; let host := l.st = .receiving ∧ l.path = .host; on ∧ host ∧ (staged.length = 4 → bit w 0 = !l.full) ∧ (staged.length < 5 ∨ lengthCode l.full n = 0 ∧ 4 * staged.length < n)) ∧
    (∃ (w : Word) (late : Bool) (i : Nat) (x : StartEntry) (t : Nat) (s0 : State), let s := s0.upTo t; let l := s.loader; let on := s.unitOn 19 = true; let staged := l.staged ++ [w]; let host := l.st = .receiving ∧ l.path = .host; on ∧ host ∧ staged.length = 4) ∧
    (∃ (w : Word) (late : Bool) (i : Nat) (x : StartEntry) (t : Nat) (s0 : State), let s := s0.upTo t; let l := s.loader; let on := s.unitOn 19 = true; let staged := l.staged ++ [w]; let n := imgLength staged; let host := l.st = .receiving ∧ l.path = .host; on ∧ host ∧ 5 < staged.length ∧ n ≤ 4 * staged.length) ∧
    (∃ (w : Word) (late : Bool) (i : Nat) (x : StartEntry) (t : Nat) (s0 : State), let s := s0.upTo t; let l := s.loader; let on := s.unitOn 19 = true; let staged := l.staged ++ [w]; let n := imgLength staged; let host := l.st = .receiving ∧ l.path = .host; on ∧ host ∧ staged.length = 5 ∧ lengthCode l.full n ≠ 0) ∧
    (∃ (w : Word) (late : Bool) (i : Nat) (x : StartEntry) (t : Nat) (s0 : State), let s := s0.upTo t; let l := s.loader; let on := s.unitOn 19 = true; let host := l.st = .receiving ∧ l.path = .host; on ∧ l.st ≠ .applying ∧ ¬host) ∧
    (∃ (w : Word) (late : Bool) (i : Nat) (x : StartEntry) (t : Nat) (s0 : State), let s := s0.upTo t; let l := s.loader; let on := s.unitOn 19 = true; ¬on ∧ l.st ≠ .applying) ∧
    (∃ (w : Word) (late : Bool) (i : Nat) (x : StartEntry) (t : Nat) (s0 : State), let s := s0.upTo t; let l := s.loader; l.st = .receiving) ∧
    (∃ (w : Word) (late : Bool) (i : Nat) (x : StartEntry) (t : Nat) (s0 : State) (e : _), let s := s0.upTo t; let l := s.loader; let fclk := s.clkRuns .fclk = true; let verdict := s.verifyError l.full l.staged; l.st = .verifying ∧ fclk ∧ verdict = some e) ∧
    (∃ (w : Word) (late : Bool) (i : Nat) (x : StartEntry) (t : Nat) (s0 : State), let s := s0.upTo t; let l := s.loader; let fclk := s.clkRuns .fclk = true; let verdict := s.verifyError l.full l.staged; l.st = .verifying ∧ fclk ∧ verdict = none) ∧
    (∃ (w : Word) (late : Bool) (i : Nat) (x : StartEntry) (t : Nat) (s0 : State), let s := s0.upTo t; let l := s.loader; let fclk := s.clkRuns .fclk = true; l.st = .applying ∧ s.domainsDone = true ∧ fclk ∧ l.clockTodo = [] ∧ s.waiting = [] ∧ s.gpio.waiting = 0) ∧
    (∃ (w : Word) (late : Bool) (i : Nat) (x : StartEntry) (t : Nat) (s0 : State), let s := s0.upTo t; let l := s.loader; let es := l.entries.set i { x with started := true }; let due := if x.unit = 0 then (s.eng x.inst).st ≠ .armed else l.startAt + x.offset ≤ s.tickCount.toNat; l.st = .starting ∧ l.entries[i]? = some x ∧ x.started = false ∧ due ∧ (es.all (·.started)) = false) ∧
    (∃ (w : Word) (late : Bool) (i : Nat) (x : StartEntry) (t : Nat) (s0 : State), let s := s0.upTo t; let l := s.loader; let es := l.entries.set i { x with started := true }; let due := if x.unit = 0 then (s.eng x.inst).st ≠ .armed else l.startAt + x.offset ≤ s.tickCount.toNat; l.st = .starting ∧ l.entries[i]? = some x ∧ x.started = false ∧ due ∧ (es.all (·.started)) = true) :=
  ⟨⟨0, false, 0, ⟨0, 31, 0, false⟩, 0, (on).setLoader { Loader.reset with st := .stopping }, by decide +kernel⟩,
    ⟨0, false, 0, ⟨0, 31, 0, false⟩, 0, (on).setLoader { Loader.reset with st := .receiving }, by decide +kernel⟩,
    ⟨0, false, 0, ⟨0, 31, 0, false⟩, 0, (on).setLoader { Loader.reset with st := .receiving, staged := [0, 0, 0] }, by decide +kernel⟩,
    ⟨image.getLast?.getD 0, false, 0, ⟨0, 31, 0, false⟩, 0, (on).setLoader { Loader.reset with st := .receiving, staged := image.take 17 }, by decide +kernel⟩,
    ⟨0, false, 0, ⟨0, 31, 0, false⟩, 0, (on).setLoader { Loader.reset with st := .receiving, staged := [0, 0, 0, 0] }, by decide +kernel⟩,
    ⟨0, false, 0, ⟨0, 31, 0, false⟩, 0, on, by decide +kernel⟩,
    ⟨0, false, 0, ⟨0, 31, 0, false⟩, 0, { State.reset with power := { Power.reset with on := [] } }, by decide +kernel⟩,
    ⟨0, false, 0, ⟨0, 31, 0, false⟩, 0, (on).setLoader { Loader.reset with st := .receiving }, by decide +kernel⟩,
    ⟨0, false, 0, ⟨0, 31, 0, false⟩, 0, (on).setLoader { Loader.reset with st := .verifying }, ⟨1, 1, 0xFFFF, 0⟩, by decide +kernel⟩,
    ⟨0, false, 0, ⟨0, 31, 0, false⟩, 0, (on).setLoader { Loader.reset with st := .verifying, staged := image }, by decide +kernel⟩,
    ⟨0, false, 0, ⟨0, 31, 0, false⟩, 0, (on).setLoader { Loader.reset with st := .applying }, by decide +kernel⟩,
    ⟨0, false, 0, ⟨0, 31, 0, false⟩, 0, (on).setLoader { Loader.reset with st := .starting, entries := [⟨0, 31, 0, false⟩, ⟨0, 31, 0, false⟩] }, by decide +kernel⟩,
    ⟨0, false, 0, ⟨0, 31, 0, false⟩, 0, (on).setLoader { Loader.reset with st := .starting, entries := [⟨0, 31, 0, false⟩] }, by decide +kernel⟩⟩

theorem witness_ChannelsStartAndStop :
    (∃ (c : Fin 16) (t : Nat) (s0 : State), let s := s0.upTo t; let on := s.unitOn 17 = true; let direct := s.loader.st ≠ .applying; let x := s.chan c; direct ∧ on ∧ x.st = .stopped ∧ s.dma.halted = false) ∧
    (∃ (c : Fin 16) (t : Nat) (s0 : State), let s := s0.upTo t; let on := s.unitOn 17 = true; let direct := s.loader.st ≠ .applying; let x := s.chan c; direct ∧ on ∧ (x.st ≠ .stopped ∨ s.dma.halted = true)) ∧
    (∃ (c : Fin 16) (t : Nat) (s0 : State), let s := s0.upTo t; let on := s.unitOn 17 = true; let direct := s.loader.st ≠ .applying; let x := s.chan c; direct ∧ on ∧ x.st = .running ∧ x.flight = [] ∧ s.chanHangs c = false) ∧
    (∃ (c : Fin 16) (t : Nat) (s0 : State), let s := s0.upTo t; let on := s.unitOn 17 = true; let direct := s.loader.st ≠ .applying; let x := s.chan c; direct ∧ on ∧ x.st = .running ∧ (x.flight ≠ [] ∨ s.chanHangs c = true)) ∧
    (∃ (c : Fin 16) (t : Nat) (s0 : State), let s := s0.upTo t; let on := s.unitOn 17 = true; let direct := s.loader.st ≠ .applying; let x := s.chan c; direct ∧ on ∧ x.st = .waiting) ∧
    (∃ (c : Fin 16) (t : Nat) (s0 : State), let s := s0.upTo t; let on := s.unitOn 17 = true; let direct := s.loader.st ≠ .applying; let x := s.chan c; direct ∧ on ∧ (x.st = .stopped ∨ x.st = .stopping)) ∧
    (∃ (c : Fin 16) (t : Nat) (s0 : State), let s := s0.upTo t; let on := s.unitOn 17 = true; let direct := s.loader.st ≠ .applying; direct ∧ on) ∧
    (∃ (c : Fin 16) (t : Nat) (s0 : State), let s := s0.upTo t; let on := s.unitOn 17 = true; let direct := s.loader.st ≠ .applying; direct ∧ ¬on) :=
  ⟨⟨15, 0, on, by decide +kernel⟩,
    ⟨15, 0, (on).setChan 15 { Channel.reset with st := .waiting }, by decide +kernel⟩,
    ⟨15, 0, on.setChan 15 { Channel.reset with st := .running }, by decide +kernel⟩,
    ⟨15, 0, on.setChan 15 { Channel.reset with st := .running, left := 1 }, by decide +kernel⟩,
    ⟨15, 0, (on).setChan 15 { Channel.reset with st := .waiting }, by decide +kernel⟩,
    ⟨15, 0, (on).setChan 15 { Channel.reset with st := .stopping }, by decide +kernel⟩,
    ⟨15, 0, on, by decide +kernel⟩,
    ⟨15, 0, State.reset, by decide +kernel⟩⟩

theorem witness_DescriptorsMoveWords :
    (∃ (c : Fin 16) (i : Nat) (v : DmaWord) (rest : List DmaWord) (wr : Bool) (rw ww t : Nat) (s0 : State), let s := s0.upTo t; let x := s.chan c; let parity := (List.range 4).any fun k => s.bad (0x320000 + 16 * i + 4 * k); let fetches := x.fetch = some i ∧ x.st = .running ∧ x.ending = none ∧ s.dma.halted = false ∧ s.unitOn 17 = true ∧ s.clkRuns .fclk = true ∧ x.flight = [] ∧ x.hung = false; fetches ∧ parity = true) ∧
    (∃ (c : Fin 16) (i : Nat) (v : DmaWord) (rest : List DmaWord) (wr : Bool) (rw ww t : Nat) (s0 : State), let s := s0.upTo t; let x := s.chan c; let w := fun k => s.wordAt (0x320000 + 16 * i + 4 * k); let parity := (List.range 4).any fun k => s.bad (0x320000 + 16 * i + 4 * k); let fetches := x.fetch = some i ∧ x.st = .running ∧ x.ending = none ∧ s.dma.halted = false ∧ s.unitOn 17 = true ∧ s.clkRuns .fclk = true ∧ x.flight = [] ∧ x.hung = false; let len := fld (w 2) 23 0; let badFormat := descFormatBad (w 0) (w 1) (w 2) (w 3) = true; fetches ∧ parity = false ∧ len ≠ 0 ∧ badFormat) ∧
    (∃ (c : Fin 16) (i : Nat) (v : DmaWord) (rest : List DmaWord) (wr : Bool) (rw ww t : Nat) (s0 : State), let s := s0.upTo t; let x := s.chan c; let w := fun k => s.wordAt (0x320000 + 16 * i + 4 * k); let parity := (List.range 4).any fun k => s.bad (0x320000 + 16 * i + 4 * k); let fetches := x.fetch = some i ∧ x.st = .running ∧ x.ending = none ∧ s.dma.halted = false ∧ s.unitOn 17 = true ∧ s.clkRuns .fclk = true ∧ x.flight = [] ∧ x.hung = false; let len := fld (w 2) 23 0; let badFormat := descFormatBad (w 0) (w 1) (w 2) (w 3) = true; let badPlace := descControl (w 0) (w 1) (w 2) (w 3) = true; fetches ∧ parity = false ∧ len ≠ 0 ∧ ¬badFormat ∧ badPlace) ∧
    (∃ (c : Fin 16) (i : Nat) (v : DmaWord) (rest : List DmaWord) (wr : Bool) (rw ww t : Nat) (s0 : State), let s := s0.upTo t; let x := s.chan c; let w := fun k => s.wordAt (0x320000 + 16 * i + 4 * k); let parity := (List.range 4).any fun k => s.bad (0x320000 + 16 * i + 4 * k); let fetches := x.fetch = some i ∧ x.st = .running ∧ x.ending = none ∧ s.dma.halted = false ∧ s.unitOn 17 = true ∧ s.clkRuns .fclk = true ∧ x.flight = [] ∧ x.hung = false; let len := fld (w 2) 23 0; let badFormat := descFormatBad (w 0) (w 1) (w 2) (w 3) = true; let badPlace := descControl (w 0) (w 1) (w 2) (w 3) = true; fetches ∧ parity = false ∧ len ≠ 0 ∧ ¬badFormat ∧ ¬badPlace ∧ x.pace = 0) ∧
    (∃ (c : Fin 16) (i : Nat) (v : DmaWord) (rest : List DmaWord) (wr : Bool) (rw ww t : Nat) (s0 : State), let s := s0.upTo t; let x := s.chan c; let w := fun k => s.wordAt (0x320000 + 16 * i + 4 * k); let parity := (List.range 4).any fun k => s.bad (0x320000 + 16 * i + 4 * k); let fetches := x.fetch = some i ∧ x.st = .running ∧ x.ending = none ∧ s.dma.halted = false ∧ s.unitOn 17 = true ∧ s.clkRuns .fclk = true ∧ x.flight = [] ∧ x.hung = false; let len := fld (w 2) 23 0; fetches ∧ parity = false ∧ len = 0 ∧ bit (w 3) 19 = false ∧ x.links < 15) ∧
    (∃ (c : Fin 16) (i : Nat) (v : DmaWord) (rest : List DmaWord) (wr : Bool) (rw ww t : Nat) (s0 : State), let s := s0.upTo t; let x := s.chan c; let w := fun k => s.wordAt (0x320000 + 16 * i + 4 * k); let parity := (List.range 4).any fun k => s.bad (0x320000 + 16 * i + 4 * k); let fetches := x.fetch = some i ∧ x.st = .running ∧ x.ending = none ∧ s.dma.halted = false ∧ s.unitOn 17 = true ∧ s.clkRuns .fclk = true ∧ x.flight = [] ∧ x.hung = false; let len := fld (w 2) 23 0; fetches ∧ parity = false ∧ len = 0 ∧ bit (w 3) 19 = false ∧ x.links = 15) ∧
    (∃ (c : Fin 16) (i : Nat) (v : DmaWord) (rest : List DmaWord) (wr : Bool) (rw ww t : Nat) (s0 : State), let s := s0.upTo t; let x := s.chan c; let tick := (s.tb x.paceTb).tickNo; let grid := x.pace ≠ 0 ∧ x.gridAt < tick ∧ (tick - x.gridAt) % x.pace = 0 ∧ x.usedGrid ≠ some tick; grid ∧ x.st = .waiting) ∧
    (∃ (c : Fin 16) (i : Nat) (v : DmaWord) (rest : List DmaWord) (wr : Bool) (rw ww t : Nat) (s0 : State), let s := s0.upTo t; let x := s.chan c; let tick := (s.tb x.paceTb).tickNo; let grid := x.pace ≠ 0 ∧ x.gridAt < tick ∧ (tick - x.gridAt) % x.pace = 0 ∧ x.usedGrid ≠ some tick; grid ∧ x.st = .running ∧ x.left ≠ 0) ∧
    (∃ (c : Fin 16) (i : Nat) (v : DmaWord) (rest : List DmaWord) (wr : Bool) (rw ww t : Nat) (s0 : State), let s := s0.upTo t; let x := s.chan c; let keeps := s.fclkFast = false ∧ s.fclkSlow = false; x.flight = [] ∧ s.chanIssues c = true ∧ s.dmaAcks x.src = true ∧ s.dmaAcks x.dst = true ∧ s.dmaErr = 0 ∧ 1 < x.left ∧ keeps ∧ (atBank x.src = true → s.holdAt 1 (s.readBy x.src x.dst rw ww) ≤ rw) ∧ (atBank x.dst = true → s.holdAt 1 (s.now - bankCycles x.dst ww) ≤ ww)) ∧
    (∃ (c : Fin 16) (i : Nat) (v : DmaWord) (rest : List DmaWord) (wr : Bool) (rw ww t : Nat) (s0 : State) (ctrl : _), let s := s0.upTo t; let x := s.chan c; let keeps := s.fclkFast = false ∧ s.fclkSlow = false; x.flight = [{ v with last := some ctrl }] ∧ x.st = .running ∧ s.dmaAcks v.dst = true ∧ bit ctrl 19 = true ∧ s.dmaRuns = true ∧ keeps ∧ s.wordHeld v rw ww = false ∧ x.ending = none ∧ x.hung = false) ∧
    (∃ (c : Fin 16) (i : Nat) (v : DmaWord) (rest : List DmaWord) (wr : Bool) (rw ww t : Nat) (s0 : State), let s := s0.upTo t; let x := s.chan c; x.flight = v :: rest ∧ s.wordHeld v rw ww = true) ∧
    (∃ (c : Fin 16) (i : Nat) (v : DmaWord) (rest : List DmaWord) (wr : Bool) (rw ww t : Nat) (s0 : State), let s := s0.upTo t; let x := s.chan c; let keeps := s.fclkFast = false ∧ s.fclkSlow = false; s.dma.halted = false ∧ s.chanIssues c = true ∧ s.dmaAcks x.src = false ∧ s.dmaErr = 0 ∧ x.flight = [v] ∧ s.dmaAcks v.dst = true ∧ keeps) ∧
    (∃ (c : Fin 16) (i : Nat) (v : DmaWord) (rest : List DmaWord) (wr : Bool) (rw ww t : Nat) (s0 : State), let s := s0.upTo t; let x := s.chan c; s.dma.halted = false ∧ (wr = true ∧ x.flight = v :: rest ∧ s.dmaAcks v.dst = false ∨ wr = false ∧ (s.chanIssues c = true ∧ s.dmaAcks x.src = false ∨ x.hung = true) ∧ s.dmaErr = 0)) :=
  ⟨⟨15, 4095, ⟨0x1000000, 0x1000000, 7, 0, none, 0⟩, [], false, 0, 0, 0, ({ on with parityBad := [(0x32FFFC, true)] }).setChan 15 { Channel.reset with st := .running, fetch := some 4095 }, by decide +kernel⟩,
    ⟨15, 4095, ⟨0x1000000, 0x1000000, 7, 0, none, 0⟩, [], false, 0, 0, 0, (words on [(0x32FFF8, 1)]).setChan 15 { Channel.reset with st := .running, fetch := some 4095 }, by decide +kernel⟩,
    ⟨15, 4095, ⟨0x1000000, 0x1000000, 7, 0, none, 0⟩, [], false, 0, 0, 0, (words on [(0x32FFF8, 4)]).setChan 15 { Channel.reset with st := .running, fetch := some 4095 }, by decide +kernel⟩,
    ⟨15, 4095, ⟨0x1000000, 0x1000000, 7, 0, none, 0⟩, [], false, 0, 0, 0, (words on [(0x32FFF0, 0x1000000), (0x32FFF4, 0x2000000), (0x32FFF8, 4)]).setChan 15 { Channel.reset with st := .running, fetch := some 4095 }, by decide +kernel⟩,
    ⟨15, 4095, ⟨0x1000000, 0x1000000, 7, 0, none, 0⟩, [], false, 0, 0, 0, (on).setChan 15 { Channel.reset with st := .running, fetch := some 4095, links := 14 }, by decide +kernel⟩,
    ⟨15, 4095, ⟨0x1000000, 0x1000000, 7, 0, none, 0⟩, [], false, 0, 0, 0, (on).setChan 15 { Channel.reset with st := .running, fetch := some 4095, links := 15 }, by decide +kernel⟩,
    ⟨15, 4095, ⟨0x1000000, 0x1000000, 7, 0, none, 0⟩, [], false, 0, 0, 0, (on.setTb 0 { Timebase.reset with tickNo := 64 }).setChan 15 { Channel.reset with st := .waiting, cfg := 0x400000 }, by decide +kernel⟩,
    ⟨15, 4095, ⟨0x1000000, 0x1000000, 7, 0, none, 0⟩, [], false, 0, 0, 0, (on.setTb 0 { Timebase.reset with tickNo := 64 }).setChan 15 { Channel.reset with st := .running, left := 4, cfg := 0x400000 }, by decide +kernel⟩,
    ⟨15, 4095, ⟨0x1000000, 0x1000000, 7, 0, none, 0⟩, [], false, 0, 0, 0, (half).setChan 15 { Channel.reset with st := .running, left := 2, src := 0x1000000, dst := 0x2000000 }, by decide +kernel⟩,
    ⟨15, 4095, ⟨0x1000000, 0x1000000, 7, 0, none, 0⟩, [], false, 0, 0, 0, (half).setChan 15 { Channel.reset with st := .running, flight := [⟨0x1000000, 0x1000000, 7, 0, some 0x80000, 0⟩] }, 0x80000, by decide +kernel⟩,
    ⟨15, 4095, ⟨0x1000000, 0x1000000, 7, 0, none, 1⟩, [], false, 0, 0, 0, (on).setChan 15 { Channel.reset with flight := [⟨0x1000000, 0x1000000, 7, 0, none, 1⟩] }, by decide +kernel⟩,
    ⟨15, 4095, ⟨0x1000000, 0x1000000, 7, 0, none, 0⟩, [], false, 0, 0, 0, (half).setChan 15 { Channel.reset with st := .running, left := 1, flight := [⟨0x1000000, 0x1000000, 7, 0, none, 0⟩] }, by decide +kernel⟩,
    ⟨15, 4095, ⟨0x1000000, 0x1000000, 7, 0, none, 0⟩, [], false, 0, 0, 0, (on).setChan 15 { Channel.reset with st := .running, left := 1 }, by decide +kernel⟩⟩

theorem witness_SealCommands :
    (∃ (level : Bool) (n : Fin 24) (r : SealRecord) (k : Nat) (t : Nat) (s0 : State), let s := s0.upTo t; let m := s.meter; let on := s.domain 18 = true; on ∧ m.up = false ∧ m.records = [] ∧ s.straps.testen = false) ∧
    (∃ (level : Bool) (n : Fin 24) (r : SealRecord) (k : Nat) (t : Nat) (s0 : State), let s := s0.upTo t; let m := s.meter; let on := s.domain 18 = true; on ∧ m.up = false ∧ m.live = some (k, r) ∧ r.words.length = 24 ∧ m.epoch < 16383) ∧
    (∃ (level : Bool) (n : Fin 24) (r : SealRecord) (k : Nat) (t : Nat) (s0 : State) (ok : Bool), let s := s0.upTo t; let m := s.meter; let on := s.domain 18 = true; let direct := s.loader.st ≠ .applying; let room := m.seq < 262143; let why := fun (isSeal : Bool) => if s.sealHeld = false then 1 else if isSeal = true ∧ m.sealSt = .sealed ∨ isSeal = false ∧ (m.sealSt = .never ∨ m.sealSt = .unsealed) then 2 else if m.sealSt = .permanent then 3 else if s.reg (blk 0x80 0x020) ≠ s.sealCheck then 4 else if isSeal = true ∧ s.paramsBad = true then 5 else if isSeal = true ∧ (m.degraded = true ∨ m.disagree = true) then 6 else 0; direct ∧ on ∧ room ∧ why true ≠ 0) ∧
    (∃ (level : Bool) (n : Fin 24) (r : SealRecord) (k : Nat) (t : Nat) (s0 : State), let s := s0.upTo t; let m := s.meter; let on := s.domain 18 = true; let direct := s.loader.st ≠ .applying; let room := m.seq < 262143; let count := m.records.length; let why := fun (isSeal : Bool) => if s.sealHeld = false then 1 else if isSeal = true ∧ m.sealSt = .sealed ∨ isSeal = false ∧ (m.sealSt = .never ∨ m.sealSt = .unsealed) then 2 else if m.sealSt = .permanent then 3 else if s.reg (blk 0x80 0x020) ≠ s.sealCheck then 4 else if isSeal = true ∧ s.paramsBad = true then 5 else if isSeal = true ∧ (m.degraded = true ∨ m.disagree = true) then 6 else 0; direct ∧ on ∧ room ∧ why true = 0 ∧ count < 16) ∧
    (∃ (level : Bool) (n : Fin 24) (r : SealRecord) (k : Nat) (t : Nat) (s0 : State) (ok : Bool), let s := s0.upTo t; let m := s.meter; let on := s.domain 18 = true; let direct := s.loader.st ≠ .applying; let room := m.seq < 262143; let why := fun (isSeal : Bool) => if s.sealHeld = false then 1 else if isSeal = true ∧ m.sealSt = .sealed ∨ isSeal = false ∧ (m.sealSt = .never ∨ m.sealSt = .unsealed) then 2 else if m.sealSt = .permanent then 3 else if s.reg (blk 0x80 0x020) ≠ s.sealCheck then 4 else if isSeal = true ∧ s.paramsBad = true then 5 else if isSeal = true ∧ (m.degraded = true ∨ m.disagree = true) then 6 else 0; direct ∧ on ∧ room ∧ why false ≠ 0) ∧
    (∃ (level : Bool) (n : Fin 24) (r : SealRecord) (k : Nat) (t : Nat) (s0 : State), let s := s0.upTo t; let m := s.meter; let on := s.domain 18 = true; let direct := s.loader.st ≠ .applying; let room := m.seq < 262143; let why := fun (isSeal : Bool) => if s.sealHeld = false then 1 else if isSeal = true ∧ m.sealSt = .sealed ∨ isSeal = false ∧ (m.sealSt = .never ∨ m.sealSt = .unsealed) then 2 else if m.sealSt = .permanent then 3 else if s.reg (blk 0x80 0x020) ≠ s.sealCheck then 4 else if isSeal = true ∧ s.paramsBad = true then 5 else if isSeal = true ∧ (m.degraded = true ∨ m.disagree = true) then 6 else 0; direct ∧ on ∧ room ∧ why false = 0 ∧ m.live = some (k, r) ∧ k < 16) ∧
    (∃ (level : Bool) (n : Fin 24) (r : SealRecord) (k : Nat) (t : Nat) (s0 : State), let s := s0.upTo t; let m := s.meter; let on := s.domain 18 = true; let room := m.seq < 262143; on ∧ room ∧ m.sealN ≠ level) ∧
    (∃ (level : Bool) (n : Fin 24) (r : SealRecord) (k : Nat) (t : Nat) (s0 : State), let s := s0.upTo t; let m := s.meter; let on := s.domain 18 = true; (¬on ∨ m.sealN = level ∧ level = true)) ∧
    (∃ (level : Bool) (n : Fin 24) (r : SealRecord) (k : Nat) (t : Nat) (s0 : State), let s := s0.upTo t; let m := s.meter; let on := s.domain 18 = true; on ∧ m.sealN = false) ∧
    (∃ (level : Bool) (n : Fin 24) (r : SealRecord) (k : Nat) (t : Nat) (s0 : State), let s := s0.upTo t; let m := s.meter; let on := s.domain 18 = true; on ∧ s.isSealed = true ∧ m.live = some (k, r) ∧ r.words.length = 24) ∧
    (∃ (level : Bool) (n : Fin 24) (r : SealRecord) (k : Nat) (t : Nat) (s0 : State), let s := s0.upTo t; let on := s.domain 18 = true; on ∧ s.isSealed = false) ∧
    (∃ (level : Bool) (n : Fin 24) (r : SealRecord) (k : Nat) (t : Nat) (s0 : State), let s := s0.upTo t; let on := s.domain 18 = true; let direct := s.loader.st ≠ .applying; direct ∧ ¬on) :=
  ⟨⟨false, 0, ⟨List.replicate 24 0, 0, 0, false, true⟩, 0, 0, on, by decide +kernel⟩,
    ⟨false, 0, ⟨List.replicate 24 0, 0, 0, false, true⟩, 0, 0, { (on) with meter := { Meter.reset with records := [⟨List.replicate 24 0, 0, 0, false, true⟩] } }, by decide +kernel⟩,
    ⟨false, 0, ⟨List.replicate 24 0, 0, 0, false, true⟩, 0, 0, on, true, by decide +kernel⟩,
    ⟨false, 0, ⟨List.replicate 24 0, 0, 0, false, true⟩, 0, 100000000, sealable .unsealed, ⟨by decide +kernel, by decide +kernel, by decide +kernel, by
      beta_reduce
      rw [if_neg (by decide +kernel), if_neg (by decide +kernel), if_neg (by decide +kernel), if_neg (fun h => h (sealable_check .unsealed)), if_neg (by decide +kernel),
        if_neg (by decide +kernel)], by decide +kernel⟩⟩,
    ⟨false, 0, ⟨List.replicate 24 0, 0, 0, false, true⟩, 0, 0, on, true, by decide +kernel⟩,
    ⟨false, 0, ⟨List.replicate 24 0, 0, 0, false, true⟩, 0, 100000000, sealable .sealed, ⟨by decide +kernel, by decide +kernel, by decide +kernel, by
      beta_reduce
      rw [if_neg (by decide +kernel), if_neg (by decide +kernel), if_neg (by decide +kernel), if_neg (fun h => h (sealable_check .sealed)), if_neg (by decide +kernel),
        if_neg (by decide +kernel)], by decide +kernel, by decide +kernel⟩⟩,
    ⟨false, 0, ⟨List.replicate 24 0, 0, 0, false, true⟩, 0, 0, on, by decide +kernel⟩,
    ⟨true, 0, ⟨List.replicate 24 0, 0, 0, false, true⟩, 0, 0, on, by decide +kernel⟩,
    ⟨false, 0, ⟨List.replicate 24 0, 0, 0, false, true⟩, 0, 0, { on with meter := { Meter.reset with sealN := false } }, by decide +kernel⟩,
    ⟨false, 0, ⟨List.replicate 24 0, 0, 0, false, true⟩, 0, 0, { (on) with meter := { Meter.reset with sealSt := .sealed, records := [⟨List.replicate 24 0, 0, 0, false, true⟩] } }, by decide +kernel⟩,
    ⟨false, 0, ⟨List.replicate 24 0, 0, 0, false, true⟩, 0, 0, on, by decide +kernel⟩,
    ⟨false, 0, ⟨List.replicate 24 0, 0, 0, false, true⟩, 0, 0, { State.reset with power := { Power.reset with on := [] } }, by decide +kernel⟩⟩

theorem witness_MeterMeasures :
    (∃ (ch : Fin 2) (dco bits half : Nat) (slots : List Word) (cls : BitVec 4) (xclk : Bool) (t : Nat) (s0 : State), let s := s0.upTo t; let on := s.domain 18 = true; let tap := s.srcKind ch = 1; on ∧ tap) ∧
    (∃ (ch : Fin 2) (dco bits half : Nat) (slots : List Word) (cls : BitVec 4) (xclk : Bool) (t : Nat) (s0 : State), let s := s0.upTo t; let on := s.domain 18 = true; on) ∧
    (∃ (ch : Fin 2) (dco bits half : Nat) (slots : List Word) (cls : BitVec 4) (xclk : Bool) (t : Nat) (s0 : State), let s := s0.upTo t; let on := s.domain 18 = true; let tap := s.srcKind ch = 1; let short := layoutShort (s.tapWord ch) bits half = true; on ∧ tap ∧ short) ∧
    (∃ (ch : Fin 2) (dco bits half : Nat) (slots : List Word) (cls : BitVec 4) (xclk : Bool) (t : Nat) (s0 : State), let s := s0.upTo t; let on := s.domain 18 = true; let c := s.mchan ch; let tap := s.srcKind ch = 1; let short := layoutShort (s.tapWord ch) bits half = true; on ∧ tap ∧ ¬short ∧ c.prevBits = some bits ∧ c.valid = false ∧ c.goodRun < 15) ∧
    (∃ (ch : Fin 2) (dco bits half : Nat) (slots : List Word) (cls : BitVec 4) (xclk : Bool) (t : Nat) (s0 : State), let s := s0.upTo t; let on := s.domain 18 = true; let c := s.mchan ch; let tap := s.srcKind ch = 1; let short := layoutShort (s.tapWord ch) bits half = true; on ∧ tap ∧ ¬short ∧ c.prevBits = some bits ∧ c.valid = false ∧ 15 ≤ c.goodRun) ∧
    (∃ (ch : Fin 2) (dco bits half : Nat) (slots : List Word) (cls : BitVec 4) (xclk : Bool) (t : Nat) (s0 : State), let s := s0.upTo t; let on := s.domain 18 = true; let m := s.meter; on ∧ m.degraded = false ∧ m.seq < 262143) ∧
    (∃ (ch : Fin 2) (dco bits half : Nat) (slots : List Word) (cls : BitVec 4) (xclk : Bool) (t : Nat) (s0 : State), let s := s0.upTo t; let on := s.domain 18 = true; ¬on) :=
  ⟨⟨1, 0, 32, 16, [], 0, true, 0, regs on [(0x80104, 0x40000000)], by decide +kernel⟩,
    ⟨1, 0, 32, 16, [], 0, true, 0, on, by decide +kernel⟩,
    ⟨1, 0, 31, 16, [], 0, true, 0, regs on [(0x80104, 0x40000000)], by decide +kernel⟩,
    ⟨1, 0, 32, 16, [], 0, true, 0, (regs on [(0x80104, 0x40000000)]).setMchan 1 { MeterChannel.reset with prevBits := some 32, goodRun := 14 }, by decide +kernel⟩,
    ⟨1, 0, 32, 16, [], 0, true, 0, (regs on [(0x80104, 0x40000000)]).setMchan 1 { MeterChannel.reset with prevBits := some 32, goodRun := 15 }, by decide +kernel⟩,
    ⟨1, 0, 32, 16, [], 0, true, 0, on, by decide +kernel⟩,
    ⟨1, 0, 32, 16, [], 0, true, 0, { State.reset with power := { Power.reset with on := [] } }, by decide +kernel⟩⟩

theorem witness_SupplyLossPowerUpAndStartUp :
    (∃ (high : Bool) (straps : Straps) (t : Nat) (s0 : State), let s := s0.upTo t; s.power.vin = true) ∧
    (∃ (high : Bool) (straps : Straps) (t : Nat) (s0 : State), let s := s0.upTo t; s.power.vin = false) ∧
    (∃ (high : Bool) (straps : Straps) (t : Nat) (s0 : State), let s := s0.upTo t; s.power.vin = false ∧ s.power.overVoltage = true) ∧
    (∃ (high : Bool) (straps : Straps) (t : Nat) (s0 : State), let s := s0.upTo t; (s.power.vin = true ∨ s.power.overVoltage = false)) ∧
    (∃ (ok : Bool) (t : Nat) (s0 : State), let s := s0.upTo t; let c := s.core; c.phase = .locking ∧ c.inReset = true) ∧
    (∃ (ok : Bool) (t : Nat) (s0 : State), let s := s0.upTo t; let c := s.core; (c.phase ≠ .locking ∨ c.inReset = false)) ∧
    (∃ (ok : Bool) (t : Nat) (s0 : State), let s := s0.upTo t; let c := s.core; c.phase ≠ .romCheck) ∧
    (∃ (ok : Bool) (t : Nat) (s0 : State), let s := s0.upTo t; let c := s.core; c.phase = .romCheck) ∧
    (∃ (ok : Bool) (t : Nat) (s0 : State), let s := s0.upTo t; let c := s.core; let boot := s.straps.boot.toNat; let quiet := s.waiting = [] ∧ s.gpio.waiting = 0; let good := c.phase = .romCheck ∧ (s.cross 70).active = false ∧ quiet; good ∧ c.cause ≠ 1 ∧ boot = 0) ∧
    (∃ (ok : Bool) (t : Nat) (s0 : State), let s := s0.upTo t; let c := s.core; let boot := s.straps.boot.toNat; let quiet := s.waiting = [] ∧ s.gpio.waiting = 0; let good := c.phase = .romCheck ∧ (s.cross 70).active = false ∧ quiet; good ∧ c.cause ≠ 1 ∧ boot = 1) ∧
    (∃ (ok : Bool) (t : Nat) (s0 : State), let s := s0.upTo t; let c := s.core; let boot := s.straps.boot.toNat; let quiet := s.waiting = [] ∧ s.gpio.waiting = 0; let good := c.phase = .romCheck ∧ (s.cross 70).active = false ∧ quiet; good ∧ c.cause ≠ 1 ∧ boot = 2) ∧
    (∃ (ok : Bool) (t : Nat) (s0 : State), let s := s0.upTo t; let c := s.core; let boot := s.straps.boot.toNat; let quiet := s.waiting = [] ∧ s.gpio.waiting = 0; let good := c.phase = .romCheck ∧ (s.cross 70).active = false ∧ quiet; good ∧ c.cause ≠ 1 ∧ boot = 3) ∧
    (∃ (ok : Bool) (t : Nat) (s0 : State), let s := s0.upTo t; let c := s.core; let quiet := s.waiting = [] ∧ s.gpio.waiting = 0; let good := c.phase = .romCheck ∧ (s.cross 70).active = false ∧ quiet; good ∧ c.cause = 1) ∧
    (∃ (ok : Bool) (t : Nat) (s0 : State), let s := s0.upTo t; let c := s.core; let quiet := s.waiting = [] ∧ s.gpio.waiting = 0; c.phase = .romCheck ∧ (s.cross 70).active = true ∧ quiet) :=
  ⟨⟨true, Straps.reset, 0, State.reset, by decide +kernel⟩,
    ⟨true, Straps.reset, 0, { State.reset with power := { Power.reset with vin := false } }, by decide +kernel⟩,
    ⟨true, Straps.reset, 0, { State.reset with power := { Power.reset with vin := false, overVoltage := true } }, by decide +kernel⟩,
    ⟨true, Straps.reset, 0, State.reset, by decide +kernel⟩,
    ⟨true, 0, { (State.reset) with core := { Core.reset with phase := .locking } }, by decide +kernel⟩,
    ⟨true, 0, State.reset, by decide +kernel⟩,
    ⟨true, 0, State.reset, by decide +kernel⟩,
    ⟨true, 0, { (State.reset) with core := { Core.reset with phase := .romCheck } }, by decide +kernel⟩,
    ⟨true, 0, { ({ State.reset with straps := { Straps.reset with boot := 0 } }) with core := { Core.reset with phase := .romCheck } }, by decide +kernel⟩,
    ⟨true, 0, { ({ State.reset with straps := { Straps.reset with boot := 1 } }) with core := { Core.reset with phase := .romCheck } }, by decide +kernel⟩,
    ⟨true, 0, { ({ State.reset with straps := { Straps.reset with boot := 2 } }) with core := { Core.reset with phase := .romCheck } }, by decide +kernel⟩,
    ⟨true, 0, { ({ State.reset with straps := { Straps.reset with boot := 3 } }) with core := { Core.reset with phase := .romCheck } }, by decide +kernel⟩,
    ⟨true, 0, { (State.reset) with core := { Core.reset with phase := .romCheck, cause := 1 } }, by decide +kernel⟩,
    ⟨true, 0, { (State.reset) with core := { Core.reset with phase := .romCheck, crossings := [(70, { Crossing.reset with waiting := true })] } }, by decide +kernel⟩⟩

theorem witness_DomainsSwitchAndClear :
    (∃ (w : Word) (d : Fin 20) (q : Fin 4) (n : Fin 8) (t : Nat) (s0 : State), let s := s0.upTo t; let p := s.power; let en := s.reg (blk 1 0x01C); let guarded := bit en 18 = true ∧ bit w 18 = false ∧ s.isSealed = true ∧ s.anyGslot = true; let loading := bit en 19 = true ∧ bit w 19 = false ∧ s.loader.st ≠ .idle ∧ s.loader.st ≠ .failed; let refused := p.target ≠ none ∨ guarded ∨ loading; let direct := s.loader.st ≠ .applying; direct ∧ refused) ∧
    (∃ (w : Word) (d : Fin 20) (q : Fin 4) (n : Fin 8) (t : Nat) (s0 : State), let s := s0.upTo t; let p := s.power; let en := s.reg (blk 1 0x01C); let guarded := bit en 18 = true ∧ bit w 18 = false ∧ s.isSealed = true ∧ s.anyGslot = true; let loading := bit en 19 = true ∧ bit w 19 = false ∧ s.loader.st ≠ .idle ∧ s.loader.st ≠ .failed; let refused := p.target ≠ none ∨ guarded ∨ loading; let direct := s.loader.st ≠ .applying; direct ∧ ¬refused ∧ p.mode = .run) ∧
    (∃ (w : Word) (d : Fin 20) (q : Fin 4) (n : Fin 8) (t : Nat) (s0 : State), let s := s0.upTo t; let p := s.power; d.val + 1 ∈ p.rising) ∧
    (∃ (w : Word) (d : Fin 20) (q : Fin 4) (n : Fin 8) (t : Nat) (s0 : State), let s := s0.upTo t; let p := s.power; d.val + 1 ∉ p.rising) ∧
    (∃ (w : Word) (d : Fin 20) (q : Fin 4) (n : Fin 8) (t : Nat) (s0 : State), let s := s0.upTo t; let p := s.power; s.domain (9 + q.val) = true ∧ 9 + q.val ∈ p.lost ∧ s.loader.clockTodo = []) ∧
    (∃ (w : Word) (d : Fin 20) (q : Fin 4) (n : Fin 8) (t : Nat) (s0 : State), let s := s0.upTo t; let p := s.power; s.domain (n.val + 1) = true ∧ n.val + 1 ∈ p.lost ∧ s.loader.clockTodo = [] ∧ (∀ k, k < 4 → (s.eng (4 * n.val + k)).st = .off)) :=
  ⟨⟨0, 19, 3, 7, 0, { (on) with power := { Power.reset with on := List.range 21, target := some .run } }, by decide +kernel⟩,
    ⟨0, 19, 3, 7, 0, on, by decide +kernel⟩,
    ⟨0, 19, 3, 7, 0, { (on) with power := { Power.reset with on := List.range 21, rising := [20] } }, by decide +kernel⟩,
    ⟨0, 19, 3, 7, 0, on, by decide +kernel⟩,
    ⟨0, 19, 3, 7, 0, { (on) with power := { Power.reset with on := List.range 21, lost := [12] } }, by decide +kernel⟩,
    ⟨0, 19, 3, 7, 0, { (on) with power := { Power.reset with on := List.range 21, lost := [8] } }, by decide +kernel⟩⟩

theorem witness_PowerModesChange :
    (∃ (i : Fin 16) (level : Bool) (temp : BitVec 16) (t : Nat) (s0 : State), let s := s0.upTo t; let p := s.power; let hot := p.therm = true ∧ p.cool = false; let idle := ¬hot ∧ p.target = none; let direct := s.loader.st ≠ .applying; direct ∧ idle ∧ p.mode = .run) ∧
    (∃ (i : Fin 16) (level : Bool) (temp : BitVec 16) (t : Nat) (s0 : State), let s := s0.upTo t; let p := s.power; let hot := p.therm = true ∧ p.cool = false; let idle := ¬hot ∧ p.target = none; let direct := s.loader.st ≠ .applying; direct ∧ idle ∧ p.mode = .deepSleep) ∧
    (∃ (i : Fin 16) (level : Bool) (temp : BitVec 16) (t : Nat) (s0 : State), let s := s0.upTo t; let p := s.power; let hot := p.therm = true ∧ p.cool = false; let idle := ¬hot ∧ p.target = none; let direct := s.loader.st ≠ .applying; direct ∧ idle ∧ p.mode ≠ .deepSleep) ∧
    (∃ (i : Fin 16) (level : Bool) (temp : BitVec 16) (t : Nat) (s0 : State), let s := s0.upTo t; let p := s.power; let hot := p.therm = true ∧ p.cool = false; let idle := ¬hot ∧ p.target = none; let direct := s.loader.st ≠ .applying; direct ∧ idle ∧ p.mode ≠ .run) ∧
    (∃ (i : Fin 16) (level : Bool) (temp : BitVec 16) (t : Nat) (s0 : State), let s := s0.upTo t; let p := s.power; let hot := p.therm = true ∧ p.cool = false; let idle := ¬hot ∧ p.target = none; let direct := s.loader.st ≠ .applying; direct ∧ idle ∧ p.mode = .sleep) ∧
    (∃ (i : Fin 16) (level : Bool) (temp : BitVec 16) (t : Nat) (s0 : State), let s := s0.upTo t; let p := s.power; let hot := p.therm = true ∧ p.cool = false; let direct := s.loader.st ≠ .applying; direct ∧ ¬hot ∧ p.target ≠ none) ∧
    (∃ (i : Fin 16) (level : Bool) (temp : BitVec 16) (t : Nat) (s0 : State), let s := s0.upTo t; let p := s.power; let hot := p.therm = true ∧ p.cool = false; let direct := s.loader.st ≠ .applying; direct ∧ hot) ∧
    (∃ (i : Fin 16) (level : Bool) (temp : BitVec 16) (t : Nat) (s0 : State), let s := s0.upTo t; let p := s.power; let hot := p.therm = true ∧ p.cool = false; hot) ∧
    (∃ (i : Fin 16) (level : Bool) (temp : BitVec 16) (t : Nat) (s0 : State), let s := s0.upTo t; let p := s.power; p.exiting = false ∧ p.target = some .sleep ∧ p.wakeLatched = none) ∧
    (∃ (i : Fin 16) (level : Bool) (temp : BitVec 16) (t : Nat) (s0 : State), let s := s0.upTo t; let p := s.power; p.exiting = false ∧ p.target = some .deepSleep ∧ p.wakeLatched = none) ∧
    (∃ (i : Fin 16) (level : Bool) (temp : BitVec 16) (t : Nat) (s0 : State) (c : _), let s := s0.upTo t; let p := s.power; let hot := p.therm = true ∧ p.cool = false; p.exiting = false ∧ p.target = some .sleep ∧ p.wakeLatched = some c ∧ ¬hot) ∧
    (∃ (i : Fin 16) (level : Bool) (temp : BitVec 16) (t : Nat) (s0 : State), let s := s0.upTo t; let p := s.power; let hot := p.therm = true ∧ p.cool = false; let idle := ¬hot ∧ p.target = none; let en := s.reg (blk 1 0x030); idle ∧ p.mode ≠ .run ∧ bit en 1 = true) ∧
    (∃ (i : Fin 16) (level : Bool) (temp : BitVec 16) (t : Nat) (s0 : State), let s := s0.upTo t; let p := s.power; let hot := p.therm = true ∧ p.cool = false; let idle := ¬hot ∧ p.target = none; let en := s.reg (blk 1 0x030); let pins := s.reg (blk 1 0x034); let pinOn := bit en 2 = true ∧ bit pins i = true ∧ bit pins (16 + i.val) = !level; idle ∧ p.mode ≠ .run ∧ pinOn) ∧
    (∃ (i : Fin 16) (level : Bool) (temp : BitVec 16) (t : Nat) (s0 : State), let s := s0.upTo t; let p := s.power; let hot := p.therm = true ∧ p.cool = false; let en := s.reg (blk 1 0x030); ¬hot ∧ p.target ≠ none ∧ p.target ≠ some .run ∧ p.wakeLatched = none ∧ bit en 1 = true) ∧
    (∃ (i : Fin 16) (level : Bool) (temp : BitVec 16) (t : Nat) (s0 : State), let s := s0.upTo t; let p := s.power; p.target = some .run) ∧
    (∃ (i : Fin 16) (level : Bool) (temp : BitVec 16) (t : Nat) (s0 : State), let s := s0.upTo t; let en := s.reg (blk 1 0x030); bit en 1 = false) ∧
    (∃ (i : Fin 16) (level : Bool) (temp : BitVec 16) (t : Nat) (s0 : State), let s := s0.upTo t; let en := s.reg (blk 1 0x030); let pins := s.reg (blk 1 0x034); let pinOn := bit en 2 = true ∧ bit pins i = true ∧ bit pins (16 + i.val) = !level; ¬pinOn) ∧
    (∃ (i : Fin 16) (level : Bool) (temp : BitVec 16) (t : Nat) (s0 : State), let s := s0.upTo t; let p := s.power; p.target = some .run ∧ p.exiting = true ∧ p.mode = .sleep ∧ s.gpio.waiting = 0) ∧
    (∃ (i : Fin 16) (level : Bool) (temp : BitVec 16) (t : Nat) (s0 : State), let s := s0.upTo t; let p := s.power; p.mode = .deepSleep ∧ p.target = none) ∧
    (∃ (i : Fin 16) (level : Bool) (temp : BitVec 16) (t : Nat) (s0 : State), let s := s0.upTo t; let p := s.power; (p.mode ≠ .deepSleep ∨ p.target ≠ none)) :=
  ⟨⟨15, true, 0, 0, on, by decide +kernel⟩,
    ⟨15, true, 0, 0, { (on) with power := { Power.reset with on := List.range 21, mode := .deepSleep } }, by decide +kernel⟩,
    ⟨15, true, 0, 0, on, by decide +kernel⟩,
    ⟨15, true, 0, 0, { (on) with power := { Power.reset with on := List.range 21, mode := .sleep } }, by decide +kernel⟩,
    ⟨15, true, 0, 0, { (on) with power := { Power.reset with on := List.range 21, mode := .sleep } }, by decide +kernel⟩,
    ⟨15, true, 0, 0, { (on) with power := { Power.reset with on := List.range 21, target := some .sleep } }, by decide +kernel⟩,
    ⟨15, true, 0, 0, { (on) with power := { Power.reset with on := List.range 21, therm := true, cool := false } }, by decide +kernel⟩,
    ⟨15, true, 0, 0, { (on) with power := { Power.reset with on := List.range 21, therm := true, cool := false } }, by decide +kernel⟩,
    ⟨15, true, 0, 0, { (on) with power := { Power.reset with on := List.range 21, target := some .sleep } }, by decide +kernel⟩,
    ⟨15, true, 0, 0, { (on) with power := { Power.reset with on := List.range 21, target := some .deepSleep } }, by decide +kernel⟩,
    ⟨15, true, 0, 0, { (on) with power := { Power.reset with on := List.range 21, target := some .sleep, wakeLatched := some 2 } }, 2, by decide +kernel⟩,
    ⟨15, true, 0, 0, { (regs on [(0x1030, 2)]) with power := { Power.reset with on := List.range 21, mode := .sleep } }, by decide +kernel⟩,
    ⟨15, true, 0, 0, { (regs on [(0x1030, 4), (0x1034, 0x00008000)]) with power := { Power.reset with on := List.range 21, mode := .sleep } }, by decide +kernel⟩,
    ⟨15, true, 0, 0, { (regs on [(0x1030, 2)]) with power := { Power.reset with on := List.range 21, target := some .sleep } }, by decide +kernel⟩,
    ⟨15, true, 0, 0, { on with power := { Power.reset with on := List.range 21, target := some .run, exiting := true, mode := .sleep } }, by decide +kernel⟩,
    ⟨15, true, 0, 0, regs on [(0x1030, 0)], by decide +kernel⟩,
    ⟨15, true, 0, 0, regs on [(0x1030, 0)], by decide +kernel⟩,
    ⟨15, true, 0, 0, { on with power := { Power.reset with on := List.range 21, target := some .run, exiting := true, mode := .sleep } }, by decide +kernel⟩,
    ⟨15, true, 0, 0, { (on) with power := { Power.reset with on := List.range 21, mode := .deepSleep } }, by decide +kernel⟩,
    ⟨15, true, 0, 0, on, by decide +kernel⟩⟩

theorem witness_AuxiliaryOutputsAndTelemetry :
    (∃ (o : AuxName) (good : Bool) (m : Telemetry) (t : Nat) (s0 : State), let s := s0.upTo t; let a := s.power.aux o; a.on = true) ∧
    (∃ (o : AuxName) (good : Bool) (m : Telemetry) (t : Nat) (s0 : State), let s := s0.upTo t; let a := s.power.aux o; a.on = false) ∧
    (∃ (o : AuxName) (good : Bool) (m : Telemetry) (t : Nat) (s0 : State), let s := s0.upTo t; let a := s.power.aux o; a.fault = true ∧ a.on = false ∧ s.auxRetries o = true ∧ s.auxWanted o = true ∧ s.power.therm = false ∧ s.power.vin = true) ∧
    (∃ (o : AuxName) (good : Bool) (m : Telemetry) (t : Nat) (s0 : State), let s := s0.upTo t; s.auxRetries o = false) :=
  ⟨⟨.aux5, true, ⟨1200, 0, 0, 0, 0, 0, 0, 0, 0⟩, 0, { (on) with power := { Power.reset with on := List.range 21, aux5 := ⟨true, false, false, false⟩ } }, by decide +kernel⟩,
    ⟨.aux5, true, ⟨1200, 0, 0, 0, 0, 0, 0, 0, 0⟩, 0, on, by decide +kernel⟩,
    ⟨.aux5, true, ⟨1200, 0, 0, 0, 0, 0, 0, 0, 0⟩, 0, { (regs on [(0x1028, 9)]) with power := { Power.reset with on := List.range 21, aux5 := ⟨false, true, false, true⟩ } }, by decide +kernel⟩,
    ⟨.aux5, true, ⟨1200, 0, 0, 0, 0, 0, 0, 0, 0⟩, 0, on, by decide +kernel⟩⟩

theorem witness_ModuleResets :
    (∃ (low : Nat) (straps : Straps) (t : Nat) (s0 : State), let s := s0.upTo t; (low < 100 ∨ s.power.vin = false)) ∧
    (∃ (low : Nat) (straps : Straps) (t : Nat) (s0 : State), let s := s0.upTo t; 1000 ≤ low ∧ s.power.vin = true) ∧
    (∃ (low : Nat) (straps : Straps) (t : Nat) (s0 : State), let s := s0.upTo t; 100 ≤ low ∧ low < 1000 ∧ s.power.vin = true) ∧
    (∃ (low : Nat) (straps : Straps) (t : Nat) (s0 : State), let s := s0.upTo t; s.power.vin = false) ∧
    (∃ (low : Nat) (straps : Straps) (t : Nat) (s0 : State), let s := s0.upTo t; s.power.vin = true) :=
  ⟨⟨99, Straps.reset, 0, on, by decide +kernel⟩,
    ⟨1000, Straps.reset, 0, on, by decide +kernel⟩,
    ⟨999, Straps.reset, 0, on, by decide +kernel⟩,
    ⟨1000, Straps.reset, 0, { on with power := { Power.reset with vin := false } }, by decide +kernel⟩,
    ⟨1000, Straps.reset, 0, on, by decide +kernel⟩⟩

theorem witness_ScopesReset :
    (∃ (k : Fin 8) (t : Nat) (s0 : State), let s := s0.upTo t; let boots := s.core.phase = .halted ∨ s.core.phase = .settling ∨ s.core.phase = .locking ∨ s.core.phase = .asleep; s.domain 19 = true ∧ ¬boots ∧ s.loader.st = .idle ∧ s.loader.path ≠ .flash ∧ s.core.phase ≠ .queued) ∧
    (∃ (k : Fin 8) (t : Nat) (s0 : State), let s := s0.upTo t; let boots := s.core.phase = .halted ∨ s.core.phase = .settling ∨ s.core.phase = .locking ∨ s.core.phase = .asleep; let load := s.loader.st = .stopping ∨ s.loader.st = .receiving ∨ s.loader.st = .verifying; s.domain 19 = true ∧ ¬boots ∧ load ∧ s.loader.path ≠ .flash) ∧
    (∃ (k : Fin 8) (t : Nat) (s0 : State), let s := s0.upTo t; let boots := s.core.phase = .halted ∨ s.core.phase = .settling ∨ s.core.phase = .locking ∨ s.core.phase = .asleep; s.domain 19 = true ∧ ¬boots ∧ s.loader.st = .applying) ∧
    (∃ (k : Fin 8) (t : Nat) (s0 : State), let s := s0.upTo t; s.domain 13 = true) ∧
    (∃ (k : Fin 8) (t : Nat) (s0 : State), let s := s0.upTo t; s.domain 14 = true) ∧
    (∃ (k : Fin 8) (t : Nat) (s0 : State), let s := s0.upTo t; s.domain 15 = true) ∧
    (∃ (k : Fin 8) (t : Nat) (s0 : State), let s := s0.upTo t; s.domain 16 = true) ∧
    (∃ (k : Fin 8) (t : Nat) (s0 : State), let s := s0.upTo t; s.domain (k.val + 1) = true) ∧
    (∃ (k : Fin 8) (t : Nat) (s0 : State), let s := s0.upTo t; s.domain 13 = false) ∧
    (∃ (k : Fin 8) (t : Nat) (s0 : State), let s := s0.upTo t; s.domain 14 = false) ∧
    (∃ (k : Fin 8) (t : Nat) (s0 : State), let s := s0.upTo t; s.domain 15 = false) ∧
    (∃ (k : Fin 8) (t : Nat) (s0 : State), let s := s0.upTo t; s.domain 16 = false) ∧
    (∃ (k : Fin 8) (t : Nat) (s0 : State), let s := s0.upTo t; s.domain (k.val + 1) = false) :=
  ⟨⟨7, 0, { (on) with core := { Core.reset with phase := .running } }, by decide +kernel⟩,
    ⟨7, 0, { (on.setLoader { Loader.reset with st := .receiving }) with core := { Core.reset with phase := .running, inReset := false } }, by decide +kernel⟩,
    ⟨7, 0, { ((on).setLoader { Loader.reset with st := .applying }) with core := { Core.reset with phase := .running } }, by decide +kernel⟩,
    ⟨7, 0, on, by decide +kernel⟩,
    ⟨7, 0, on, by decide +kernel⟩,
    ⟨7, 0, on, by decide +kernel⟩,
    ⟨7, 0, on, by decide +kernel⟩,
    ⟨7, 0, on, by decide +kernel⟩,
    ⟨7, 0, State.reset, by decide +kernel⟩,
    ⟨7, 0, State.reset, by decide +kernel⟩,
    ⟨7, 0, State.reset, by decide +kernel⟩,
    ⟨7, 0, State.reset, by decide +kernel⟩,
    ⟨7, 0, State.reset, by decide +kernel⟩⟩

theorem witness_MailboxCommandsAreAnswered :
    (∃ (w : Word) (i e a : Nat) (h l : List Word) (t : Nat) (s0 : State), let s := s0.upTo t; let direct := s.loader.st ≠ .applying; let crossed := (s.cross 70).active = false; direct ∧ crossed ∧ 64 < ringUsed (fld w 6 0) (s.mail 1)) ∧
    (∃ (w : Word) (i e a : Nat) (h l : List Word) (t : Nat) (s0 : State), let s := s0.upTo t; let direct := s.loader.st ≠ .applying; let crossed := (s.cross 70).active = false; direct ∧ crossed ∧ ringUsed (fld w 6 0) (s.mail 1) ≤ 64) ∧
    (∃ (w : Word) (i e a : Nat) (h l : List Word) (t : Nat) (s0 : State), let s := s0.upTo t; let ready := s.coreRuns = true ∧ s.mailBusy = false ∧ ringUsed (s.mail 2) (s.mail 3) < 64 ∧ s.mail 0 ≠ s.mail 1; let word := fun k => s.wordAt (0x300000 + 32 * (s.mail 1 % 64) + 4 * k); let op := fld (word 0) 31 24; ready ∧ op = 1) ∧
    (∃ (w : Word) (i e a : Nat) (h l : List Word) (t : Nat) (s0 : State), let s := s0.upTo t; let ready := s.coreRuns = true ∧ s.mailBusy = false ∧ ringUsed (s.mail 2) (s.mail 3) < 64 ∧ s.mail 0 ≠ s.mail 1; let word := fun k => s.wordAt (0x300000 + 32 * (s.mail 1 % 64) + 4 * k); let op := fld (word 0) 31 24; ready ∧ (op = 0 ∨ 4 < op)) ∧
    (∃ (w : Word) (i e a : Nat) (h l : List Word) (t : Nat) (s0 : State), let s := s0.upTo t; let ready := s.coreRuns = true ∧ s.mailBusy = false ∧ ringUsed (s.mail 2) (s.mail 3) < 64 ∧ s.mail 0 ≠ s.mail 1; let direct := s.loader.st ≠ .applying; let word := fun k => s.wordAt (0x300000 + 32 * (s.mail 1 % 64) + 4 * k); let op := fld (word 0) 31 24; let entry := fld (word 1) 9 0; direct ∧ ready ∧ op = 4 ∧ s.evlValid entry = false) ∧
    (∃ (w : Word) (i e a : Nat) (h l : List Word) (t : Nat) (s0 : State), let s := s0.upTo t; s.loader.st = .applying) ∧
    (∃ (w : Word) (i e a : Nat) (h l : List Word) (t : Nat) (s0 : State), let s := s0.upTo t; let ready := s.coreRuns = true ∧ s.mailBusy = false ∧ ringUsed (s.mail 2) (s.mail 3) < 64 ∧ s.mail 0 ≠ s.mail 1; let direct := s.loader.st ≠ .applying; let landed := ∀ l, s.laneWaits l = false; let word := fun k => s.wordAt (0x300000 + 32 * (s.mail 1 % 64) + 4 * k); let op := fld (word 0) 31 24; let entry := fld (word 1) 9 0; direct ∧ ready ∧ landed ∧ op = 4 ∧ s.evlValid entry = true ∧ fld (s.evlWord entry 2) 23 16 = 2 ∧ e = fld (s.evlWord entry 3) 4 0 ∧ s.unitOn (e / 4 + 1) = true ∧ (s.eng e).st = .stopped ∧ s.engBudget e ≠ 0) ∧
    (∃ (w : Word) (i e a : Nat) (h l : List Word) (t : Nat) (s0 : State), let s := s0.upTo t; let ready := s.coreRuns = true ∧ s.mailBusy = false ∧ ringUsed (s.mail 2) (s.mail 3) < 64 ∧ s.mail 0 ≠ s.mail 1; let word := fun k => s.wordAt (0x300000 + 32 * (s.mail 1 % 64) + 4 * k); let op := fld (word 0) 31 24; let control := fld (word 1) 15 0; ready ∧ op = 3 ∧ s.mapMatches control = []) ∧
    (∃ (w : Word) (i e a : Nat) (h l : List Word) (t : Nat) (s0 : State), let s := s0.upTo t; let ready := s.coreRuns = true ∧ s.mailBusy = false ∧ ringUsed (s.mail 2) (s.mail 3) < 64 ∧ s.mail 0 ≠ s.mail 1; let landed := ∀ l, s.laneWaits l = false; let word := fun k => s.wordAt (0x300000 + 32 * (s.mail 1 % 64) + 4 * k); let op := fld (word 0) 31 24; let control := fld (word 1) 15 0; ready ∧ op = 3 ∧ s.mapMatches control = [i] ∧ fld (s.mapWord i 0) 30 27 = 0 ∧ e = fld (s.mapWord i 1) 28 24 ∧ a = fld (s.mapWord i 1) 12 0 ∧ s.unitOn (e / 4 + 1) = true ∧ (s.eng e).lane.job = .idle ∧ s.fclkFast = false ∧ (bit (s.mapWord i 0) 26 = true → landed)) ∧
    (∃ (w : Word) (i e a : Nat) (h l : List Word) (t : Nat) (s0 : State), let s := s0.upTo t; let ready := s.coreRuns = true ∧ s.mailBusy = false ∧ ringUsed (s.mail 2) (s.mail 3) < 64 ∧ s.mail 0 ≠ s.mail 1; let word := fun k => s.wordAt (0x300000 + 32 * (s.mail 1 % 64) + 4 * k); let op := fld (word 0) 31 24; ready ∧ op = 2 ∧ a = wordOf (word 1).toNat ∧ s.sourceOk (!(bit (word 2) 0)) a = false) ∧
    (∃ (w : Word) (i e a : Nat) (h l : List Word) (t : Nat) (s0 : State), let s := s0.upTo t; let ready := s.coreRuns = true ∧ s.mailBusy = false ∧ ringUsed (s.mail 2) (s.mail 3) < 64 ∧ s.mail 0 ≠ s.mail 1; let word := fun k => s.wordAt (0x300000 + 32 * (s.mail 1 % 64) + 4 * k); let op := fld (word 0) 31 24; let idle := s.loader.st = .idle ∨ s.loader.st = .failed; ready ∧ op = 2 ∧ a = wordOf (word 1).toNat ∧ s.sourceOk (!(bit (word 2) 0)) a = true ∧ ¬idle) ∧
    (∃ (w : Word) (i e a : Nat) (h l : List Word) (t : Nat) (s0 : State), let s := s0.upTo t; let ready := s.coreRuns = true ∧ s.mailBusy = false ∧ ringUsed (s.mail 2) (s.mail 3) < 64 ∧ s.mail 0 ≠ s.mail 1; let word := fun k => s.wordAt (0x300000 + 32 * (s.mail 1 % 64) + 4 * k); let op := fld (word 0) 31 24; let idle := s.loader.st = .idle ∨ s.loader.st = .failed; let partly := bit (word 2) 0 = true; let n := imgLength h; ready ∧ op = 2 ∧ a = wordOf (word 1).toNat ∧ s.sourceOk false a = true ∧ partly ∧ idle ∧ s.sourceWords a 5 = some h ∧ lengthCode false n = 0 ∧ s.sourceWords a (n / 4) = some l ∧ bit (imgWord l 3) 0 = true) :=
  ⟨⟨65, 0, 0, 0, [], [], 0, on, by decide +kernel⟩,
    ⟨64, 0, 0, 0, [], [], 0, on, by decide +kernel⟩,
    ⟨0, 0, 0, 0, [], [], 0, { (words (regs (on) [(0x6020, 1)]) [(0x300000, 0x1000000), (0x300004, 0x0), (0x300008, 0x0)]) with core := { Core.reset with phase := .running, inReset := false } }, by decide +kernel⟩,
    ⟨0, 0, 0, 0, [], [], 0, { (words (regs (on) [(0x6020, 1)]) [(0x300000, 0x5000000), (0x300004, 0x0), (0x300008, 0x0)]) with core := { Core.reset with phase := .running, inReset := false } }, by decide +kernel⟩,
    ⟨0, 0, 0, 0, [], [], 0, { (words (regs on [(0x6020, 1)]) [(0x300000, 0x4000000), (0x300004, 0x3FF)]) with core := { Core.reset with phase := .running, inReset := false } }, by decide +kernel⟩,
    ⟨0, 0, 0, 0, [], [], 0, on.setLoader { Loader.reset with st := .applying }, by decide +kernel⟩,
    ⟨0, 0, 31, 0, [], [], 0, { (words (regs (on.setEng 31 { Engine.reset with st := .stopped }) [(engReg 31 0x014, 1), (0x6020, 1)]) [(0x300000, 0x4000000), (0x300004, 0x3FF), (0x307FF8, 0x80020000), (0x307FFC, 31)]) with core := { Core.reset with phase := .running, inReset := false } },
      ⟨by decide +kernel, by decide +kernel, landed_of (by decide +kernel) (by decide +kernel), by decide +kernel⟩⟩,
    ⟨0, 0, 0, 0, [], [], 0, { (words (regs (on) [(0x6020, 1)]) [(0x300000, 0x3000000), (0x300004, 0x9), (0x300008, 0x0)]) with core := { Core.reset with phase := .running, inReset := false } }, by decide +kernel⟩,
    ⟨0, 0, 31, 8191, [], [], 0, { (words (regs half [(0x6020, 1)]) [(0x300000, 0x3000000), (0x300004, 0x9), (0x310000, 0x84000009), (0x310004, 0x1F001FFF)]) with core := { Core.reset with phase := .running, inReset := false } },
      ⟨by decide +kernel, by decide +kernel, by decide +kernel, by decide +kernel, by decide +kernel, by decide +kernel, by decide +kernel, by decide +kernel, by decide +kernel,
        fun _ => landed_of (by decide +kernel) (by decide +kernel)⟩⟩,
    ⟨0, 0, 0, 0, [], [], 0, { (words (regs (on) [(0x6020, 1)]) [(0x300000, 0x2000000), (0x300004, 0x0), (0x300008, 0x0)]) with core := { Core.reset with phase := .running, inReset := false } }, by decide +kernel⟩,
    ⟨0, 0, 0, 0x1000000, [], [], 0, { (words (regs ((on).setLoader { Loader.reset with st := .applying }) [(0x6020, 1)]) [(0x300000, 0x2000000), (0x300004, 0x1000000), (0x300008, 0x0)]) with core := { Core.reset with phase := .running, inReset := false } }, by decide +kernel⟩,
    ⟨0, 0, 0, 0x11FFFB8, [0, 0, 0, 1, 72], [0, 0, 0, 1, 72, 0, 0, 0, 0, 0, 0, 0, 0, 0, 0, 0, 0, 0], 0, { (words (regs (on) [(0x6020, 1)]) [(0x300000, 0x2000000), (0x300004, 0x11FFFB8), (0x300008, 0x1), (0x11FFFC4, 1), (0x11FFFC8, 72)]) with core := { Core.reset with phase := .running, inReset := false } }, by decide +kernel⟩⟩

theorem witness_EventListAndPinsAct :
    (∃ (i : Fin 1024) (late : Bool) (pin : Fin 16) (level busy : Bool) (t : Nat) (s0 : State), let s := s0.upTo t; let w2 := s.evlWord i 2; let runs := s.evlRuns = true ∧ s.holding (fld w2 25 24) = false; ¬runs) ∧
    (∃ (i : Fin 1024) (late : Bool) (pin : Fin 16) (level busy : Bool) (t : Nat) (s0 : State), let s := s0.upTo t; let w2 := s.evlWord i 2; let runs := s.evlRuns = true ∧ s.holding (fld w2 25 24) = false; runs ∧ s.entryBad (evlAddr i) = true) ∧
    (∃ (i : Fin 1024) (late : Bool) (pin : Fin 16) (level busy : Bool) (t : Nat) (s0 : State), let s := s0.upTo t; let w2 := s.evlWord i 2; let tick := s.evlTick i; let runs := s.evlRuns = true ∧ s.holding (fld w2 25 24) = false; let ready := runs ∧ s.entryBad (evlAddr i) = false; ready ∧ (bit w2 31 = false ∨ (∀ c, (s.tb (fld w2 25 24)).evlAt = some c → c < tick))) ∧
    (∃ (i : Fin 1024) (late : Bool) (pin : Fin 16) (level busy : Bool) (t : Nat) (s0 : State) (m : _), let s := s0.upTo t; let w2 := s.evlWord i 2; let tick := s.evlTick i; let runs := s.evlRuns = true ∧ s.holding (fld w2 25 24) = false; let ready := runs ∧ s.entryBad (evlAddr i) = false; ready ∧ m < i.val ∧ s.evlValid m = true ∧ s.evlTb m = s.evlTb i ∧ s.evlTick m = tick) ∧
    (∃ (i : Fin 1024) (late : Bool) (pin : Fin 16) (level busy : Bool) (t : Nat) (s0 : State), let s := s0.upTo t; let w2 := s.evlWord i 2; let runs := s.evlRuns = true ∧ s.holding (fld w2 25 24) = false; let ready := runs ∧ s.entryBad (evlAddr i) = false; ready ∧ s.evlTurn i = false) ∧
    (∃ (i : Fin 1024) (late : Bool) (pin : Fin 16) (level busy : Bool) (t : Nat) (s0 : State), let s := s0.upTo t; let w2 := s.evlWord i 2; let period := fld (s.evlWord i 1) 31 16; let count := fld w2 15 0; let tick := s.evlTick i; let action := fld w2 23 16; let runs := s.evlRuns = true ∧ s.holding (fld w2 25 24) = false; let due := runs ∧ s.evlTurn i = true ∧ tick ≤ s.tickCount.toNat; due ∧ action = 0 ∧ (period = 0 ∨ count = 1)) ∧
    (∃ (i : Fin 1024) (late : Bool) (pin : Fin 16) (level busy : Bool) (t : Nat) (s0 : State), let s := s0.upTo t; let w2 := s.evlWord i 2; let period := fld (s.evlWord i 1) 31 16; let count := fld w2 15 0; let tick := s.evlTick i; let action := fld w2 23 16; let runs := s.evlRuns = true ∧ s.holding (fld w2 25 24) = false; let due := runs ∧ s.evlTurn i = true ∧ tick ≤ s.tickCount.toNat; let steps := (s.tickCount.toNat - tick) / period + 1; let missed := s.reg (blk 6 0x03C); due ∧ action = 0 ∧ period ≠ 0 ∧ count ≠ 1 ∧ s.tickCount.toNat + 65536 ≤ 2 ^ 48 ∧ missed.toNat + steps < 2 ^ 32) ∧
    (∃ (i : Fin 1024) (late : Bool) (pin : Fin 16) (level busy : Bool) (t : Nat) (s0 : State), let s := s0.upTo t; let w2 := s.evlWord i 2; let tick := s.evlTick i; let action := fld w2 23 16; let e := fld (s.evlWord i 3) 4 0; let runs := s.evlRuns = true ∧ s.holding (fld w2 25 24) = false; let due := runs ∧ s.evlTurn i = true ∧ tick ≤ s.tickCount.toNat; let landed := ∀ l, s.laneWaits l = false; due ∧ action = 2 ∧ landed ∧ s.unitOn (e / 4 + 1) = true ∧ (s.eng e).st = .stopped ∧ s.engBudget e ≠ 0) ∧
    (∃ (i : Fin 1024) (late : Bool) (pin : Fin 16) (level busy : Bool) (t : Nat) (s0 : State), let s := s0.upTo t; let w2 := s.evlWord i 2; let tick := s.evlTick i; let action := fld w2 23 16; let runs := s.evlRuns = true ∧ s.holding (fld w2 25 24) = false; let due := runs ∧ s.evlTurn i = true ∧ tick ≤ s.tickCount.toNat; let landed := ∀ l, s.laneWaits l = false; due ∧ action = 1 ∧ landed) ∧
    (∃ (i : Fin 1024) (late : Bool) (pin : Fin 16) (level busy : Bool) (t : Nat) (s0 : State), let s := s0.upTo t; let f := s.reg (blk 0x0B (0x040 + 4 * pin.val)); let edge := s.gpio.level.getLsbD pin.val ≠ level ∧ fld f 2 0 = 1 ∧ (fld f 5 4 = 2 ∨ fld f 5 4 = (if level = true then 0 else 1)); edge ∧ bit f 19 = false) ∧
    (∃ (i : Fin 1024) (late : Bool) (pin : Fin 16) (level busy : Bool) (t : Nat) (s0 : State), let s := s0.upTo t; let f := s.reg (blk 0x0B (0x040 + 4 * pin.val)); let edge := s.gpio.level.getLsbD pin.val ≠ level ∧ fld f 2 0 = 1 ∧ (fld f 5 4 = 2 ∨ fld f 5 4 = (if level = true then 0 else 1)); let asks := edge ∧ bit f 19 = true; let lost := busy = true ∨ s.gpio.waiting.getLsbD pin.val = true ∨ s.domain 19 = false ∨ s.power.mode = .deepSleep; asks ∧ lost) ∧
    (∃ (i : Fin 1024) (late : Bool) (pin : Fin 16) (level busy : Bool) (t : Nat) (s0 : State), let s := s0.upTo t; let f := s.reg (blk 0x0B (0x040 + 4 * pin.val)); let edge := s.gpio.level.getLsbD pin.val ≠ level ∧ fld f 2 0 = 1 ∧ (fld f 5 4 = 2 ∨ fld f 5 4 = (if level = true then 0 else 1)); let asks := edge ∧ bit f 19 = true; let lost := busy = true ∨ s.gpio.waiting.getLsbD pin.val = true ∨ s.domain 19 = false ∨ s.power.mode = .deepSleep; asks ∧ ¬lost ∧ s.coreFires = false) ∧
    (∃ (i : Fin 1024) (late : Bool) (pin : Fin 16) (level busy : Bool) (t : Nat) (s0 : State), let s := s0.upTo t; let f := s.reg (blk 0x0B (0x040 + 4 * pin.val)); let edge := s.gpio.level.getLsbD pin.val ≠ level ∧ fld f 2 0 = 1 ∧ (fld f 5 4 = 2 ∨ fld f 5 4 = (if level = true then 0 else 1)); let asks := edge ∧ bit f 19 = true; let lost := busy = true ∨ s.gpio.waiting.getLsbD pin.val = true ∨ s.domain 19 = false ∨ s.power.mode = .deepSleep; let k := fld f 29 20; asks ∧ ¬lost ∧ s.coreFires = true ∧ s.evlValid k = false) ∧
    (∃ (i : Fin 1024) (late : Bool) (pin : Fin 16) (level busy : Bool) (t : Nat) (s0 : State), let s := s0.upTo t; let f := s.reg (blk 0x0B (0x040 + 4 * pin.val)); let edge := s.gpio.level.getLsbD pin.val ≠ level ∧ fld f 2 0 = 1 ∧ (fld f 5 4 = 2 ∨ fld f 5 4 = (if level = true then 0 else 1)); let asks := edge ∧ bit f 19 = true; let lost := busy = true ∨ s.gpio.waiting.getLsbD pin.val = true ∨ s.domain 19 = false ∨ s.power.mode = .deepSleep; let k := fld f 29 20; asks ∧ ¬lost ∧ s.coreFires = true ∧ s.evlValid k = true) ∧
    (∃ (i : Fin 1024) (late : Bool) (pin : Fin 16) (level busy : Bool) (t : Nat) (s0 : State) (j : _), let s := s0.upTo t; let landed := ∀ l, s.laneWaits l = false; let f := s.reg (blk 0x0B (0x040 + 4 * pin.val)); let edge := s.gpio.level.getLsbD pin.val ≠ level ∧ fld f 2 0 = 1 ∧ (fld f 5 4 = 2 ∨ fld f 5 4 = (if level = true then 0 else 1)); let asks := edge ∧ bit f 19 = true; let lost := busy = true ∨ s.gpio.waiting.getLsbD pin.val = true ∨ s.domain 19 = false ∨ s.power.mode = .deepSleep; let k := fld f 29 20; asks ∧ ¬lost ∧ s.coreFires = true ∧ s.evlValid k = true ∧ landed ∧ fld (s.evlWord k 2) 23 16 = 2 ∧ j = fld (s.evlWord k 3) 4 0 ∧ s.unitOn (j / 4 + 1) = true ∧ (s.eng j).st = .stopped ∧ s.engBudget j ≠ 0) ∧
    (∃ (i : Fin 1024) (late : Bool) (pin : Fin 16) (level busy : Bool) (t : Nat) (s0 : State), let s := s0.upTo t; let f := s.reg (blk 0x0B (0x040 + 4 * pin.val)); let edge := s.gpio.level.getLsbD pin.val ≠ level ∧ fld f 2 0 = 1 ∧ (fld f 5 4 = 2 ∨ fld f 5 4 = (if level = true then 0 else 1)); ¬edge) ∧
    (∃ (i : Fin 1024) (late : Bool) (pin : Fin 16) (level busy : Bool) (t : Nat) (s0 : State), let s := s0.upTo t; let f := s.reg (blk 0x0B (0x040 + 4 * pin.val)); fld f 2 0 = 2 ∧ fld f 15 8 ≠ 0 ∧ look 0 s.gpio.tickAt pin.val + 16 * fld f 15 8 ≤ s.now) ∧
    (∃ (i : Fin 1024) (late : Bool) (pin : Fin 16) (level busy : Bool) (t : Nat) (s0 : State), let s := s0.upTo t; let f := s.reg (blk 0x0B (0x040 + 4 * pin.val)); fld f 2 0 ≠ 2) :=
  ⟨⟨1023, false, 15, true, false, 0, on, by decide +kernel⟩,
    ⟨1023, false, 15, true, false, 0, { { ((words (regs (on) [(0x601C, 1)]) []).setTb 0 { Timebase.reset with st := .tracking }) with core := { Core.reset with phase := .running, inReset := false } } with parityBad := [(0x307FF0, true)] }, by decide +kernel⟩,
    ⟨1023, false, 15, true, false, 0, { ((words (regs on [(0x601C, 1)]) [(0x307FF0, 1), (0x307FF8, 0x80000000)]).setTb 0 { Timebase.reset with st := .tracking, evlAt := some 0 }) with core := { Core.reset with phase := .running, inReset := false } }, ⟨by decide +kernel, Or.inr fun c h => by
      rw [Option.some.inj (h.symm.trans (show _ = some 0 by decide +kernel))]; decide +kernel⟩⟩,
    ⟨1023, false, 15, true, false, 0, { ((words (regs on [(0x601C, 1)]) [(0x307FE8, 0x80000000), (0x307FF8, 0x80000000)]).setTb 0 { Timebase.reset with st := .tracking, evlAt := some 0 }) with core := { Core.reset with phase := .running, inReset := false } }, 1022, by decide +kernel⟩,
    ⟨1023, false, 15, true, false, 0, { ((words (regs on [(0x601C, 1)]) [(0x307FE8, 0x80000000), (0x307FF8, 0x80000000)]).setTb 0 { Timebase.reset with st := .tracking, evlAt := some 0 }) with core := { Core.reset with phase := .running, inReset := false } }, by decide +kernel⟩,
    ⟨1023, false, 15, true, false, 0, { ((words (regs on [(0x601C, 1)]) [(0x307FF8, 0x80000000)]).setTb 0 { Timebase.reset with st := .tracking, evlAt := some 0 }) with core := { Core.reset with phase := .running, inReset := false } }, by decide +kernel⟩,
    ⟨1023, false, 15, true, false, 0, { ((words (regs on [(0x601C, 1)]) [(0x307FF4, 0x10000), (0x307FF8, 0x80000000)]).setTb 0 { Timebase.reset with st := .tracking, evlAt := some 0 }) with core := { Core.reset with phase := .running, inReset := false } }, by decide +kernel⟩,
    ⟨1023, false, 15, true, false, 0, { ((words (regs (on.setEng 31 { Engine.reset with st := .stopped }) [(0x601C, 1), (engReg 31 0x014, 1)]) [(0x307FF8, 0x80020000), (0x307FFC, 31)]).setTb 0 { Timebase.reset with st := .tracking, evlAt := some 0 }) with core := { Core.reset with phase := .running, inReset := false } }, 
      ⟨by decide +kernel, by decide +kernel, landed_of (by decide +kernel) (by decide +kernel), by decide +kernel⟩⟩,
    ⟨1023, false, 15, true, false, 0, { ((words (regs on [(0x601C, 1)]) [(0x307FF8, 0x80010000)]).setTb 0 { Timebase.reset with st := .tracking, evlAt := some 0 }) with core := { Core.reset with phase := .running, inReset := false } }, 
      ⟨by decide +kernel, by decide +kernel, landed_of (by decide +kernel) (by decide +kernel)⟩⟩,
    ⟨1023, false, 15, true, false, 0, regs on [(0xB07C, 0x21)], by decide +kernel⟩,
    ⟨1023, false, 15, true, true, 0, regs on [(0xB07C, 0x80021)], by decide +kernel⟩,
    ⟨1023, false, 15, true, false, 0, regs on [(0xB07C, 0x80021)], by decide +kernel⟩,
    ⟨1023, false, 15, true, false, 0, { (regs on [(0xB07C, 0x3FF80021)]) with core := { Core.reset with phase := .running, inReset := false } }, by decide +kernel⟩,
    ⟨1023, false, 15, true, false, 0, { (words (regs on [(0xB07C, 0x3FF80021)]) [(0x307FF8, 0x80000000)]) with core := { Core.reset with phase := .running, inReset := false } }, by decide +kernel⟩,
    ⟨1023, false, 15, true, false, 0, { (words (regs (on.setEng 31 { Engine.reset with st := .stopped }) [(engReg 31 0x014, 1), (0xB07C, 0x3FF80021)])
      [(0x307FF8, 0x80020000), (0x307FFC, 31)]) with core := { Core.reset with phase := .running, inReset := false } }, 31,
      ⟨by decide +kernel, by decide +kernel, by decide +kernel, by decide +kernel, landed_of (by decide +kernel) (by decide +kernel), by decide +kernel⟩⟩,
    ⟨1023, false, 15, true, false, 0, on, by decide +kernel⟩,
    ⟨1023, false, 15, true, false, 16, regs on [(0xB07C, 0x102)], by decide +kernel⟩,
    ⟨1023, false, 15, true, false, 0, on, by decide +kernel⟩⟩

theorem witness_PerturbationNeedsItsKeysAndTestAccess :
    (∃ (w : Word) (n : Fin 32) (i : Fin 20) (t : Nat) (s0 : State) (c : _), let s := s0.upTo t; let p := s.perturb; let direct := s.loader.st ≠ .applying; let opened := s.straps.testen = true ∨ p.unlocked = true; let legal := fun o => (o = 0x0FC → |(w.extractLsb' 0 11).toInt| ≤ 1000) ∧ (0x0E0 ≤ o → o < 0x0F0 → bit w 0 = false); let controls : List (Nat × Word × Instr) := [(0x01C, 0xFF, .arbEng w t), (0x018, 0xFFFFFFFF, .arbLower w t), (0x020 + 4 * n.val, 0xFF, .farLat n w t), (0x0A0 + 4 * i.val, 0x00FF0003, .bp i w t), (0x0F0, 0xFF, .hostNotready w t), (0x0F4, 0x1FFF, .tickShift w t), (0x0F8, 0x3FF, .tickSuppress w t), (0x0FC, 0x7FF, .dcoOffset w t), (0x100, 0x00FFFFFF, .dmaErr w t), (0x104, 0x800FFFFF, .slip w t), (0x108, 0x010FFFFF, .loop w t)]; direct ∧ c ∈ controls ∧ p.firstKey = false ∧ opened ∧ legal c.1) ∧
    (∃ (w : Word) (n : Fin 32) (i : Fin 20) (t : Nat) (s0 : State) (c : _), let s := s0.upTo t; let p := s.perturb; let direct := s.loader.st ≠ .applying; let opened := s.straps.testen = true ∨ p.unlocked = true; let legal := fun o => (o = 0x0FC → |(w.extractLsb' 0 11).toInt| ≤ 1000) ∧ (0x0E0 ≤ o → o < 0x0F0 → bit w 0 = false); let controls : List (Nat × Word × Instr) := [(0x01C, 0xFF, .arbEng w t), (0x018, 0xFFFFFFFF, .arbLower w t), (0x020 + 4 * n.val, 0xFF, .farLat n w t), (0x0A0 + 4 * i.val, 0x00FF0003, .bp i w t), (0x0F0, 0xFF, .hostNotready w t), (0x0F4, 0x1FFF, .tickShift w t), (0x0F8, 0x3FF, .tickSuppress w t), (0x0FC, 0x7FF, .dcoOffset w t), (0x100, 0x00FFFFFF, .dmaErr w t), (0x104, 0x800FFFFF, .slip w t), (0x108, 0x010FFFFF, .loop w t)]; direct ∧ c ∈ controls ∧ p.firstKey = false ∧ (¬opened ∨ ¬legal c.1)) ∧
    (∃ (w : Word) (n : Fin 32) (i : Fin 20) (t : Nat) (s0 : State) (c : _), let s := s0.upTo t; let p := s.perturb; let direct := s.loader.st ≠ .applying; let opened := s.straps.testen = true ∨ p.unlocked = true; let controls : List (Nat × Word × Instr) := [(0x01C, 0xFF, .arbEng w t), (0x018, 0xFFFFFFFF, .arbLower w t), (0x020 + 4 * n.val, 0xFF, .farLat n w t), (0x0A0 + 4 * i.val, 0x00FF0003, .bp i w t), (0x0F0, 0xFF, .hostNotready w t), (0x0F4, 0x1FFF, .tickShift w t), (0x0F8, 0x3FF, .tickSuppress w t), (0x0FC, 0x7FF, .dcoOffset w t), (0x100, 0x00FFFFFF, .dmaErr w t), (0x104, 0x800FFFFF, .slip w t), (0x108, 0x010FFFFF, .loop w t)]; direct ∧ c ∈ controls ∧ p.firstKey = true ∧ ¬opened) ∧
    (∃ (w : Word) (n : Fin 32) (i : Fin 20) (t : Nat) (s0 : State), let s := s0.upTo t; let direct := s.loader.st ≠ .applying; direct ∧ s.straps.testen = true) ∧
    (∃ (w : Word) (n : Fin 32) (i : Fin 20) (t : Nat) (s0 : State), let s := s0.upTo t; let p := s.perturb; let direct := s.loader.st ≠ .applying; let opened := s.straps.testen = true ∨ p.unlocked = true; direct ∧ ¬opened ∧ p.firstKey = false ∧ w = 0xA5C3) ∧
    (∃ (w : Word) (n : Fin 32) (i : Fin 20) (t : Nat) (s0 : State), let s := s0.upTo t; let p := s.perturb; let direct := s.loader.st ≠ .applying; let opened := s.straps.testen = true ∨ p.unlocked = true; direct ∧ ¬opened ∧ p.firstKey = false ∧ w ≠ 0xA5C3) ∧
    (∃ (w : Word) (n : Fin 32) (i : Fin 20) (t : Nat) (s0 : State), let s := s0.upTo t; let p := s.perturb; let direct := s.loader.st ≠ .applying; let opened := s.straps.testen = true ∨ p.unlocked = true; direct ∧ ¬opened ∧ p.firstKey = true ∧ w = 0x3C5A) ∧
    (∃ (w : Word) (n : Fin 32) (i : Fin 20) (t : Nat) (s0 : State), let s := s0.upTo t; let p := s.perturb; let direct := s.loader.st ≠ .applying; let opened := s.straps.testen = true ∨ p.unlocked = true; direct ∧ ¬opened ∧ p.firstKey = true ∧ w ≠ 0x3C5A) ∧
    (∃ (w : Word) (n : Fin 32) (i : Fin 20) (t : Nat) (s0 : State), let s := s0.upTo t; let p := s.perturb; let direct := s.loader.st ≠ .applying; direct ∧ s.straps.testen = false ∧ p.unlocked = true ∧ w ≠ 0xA5C3 ∧ w ≠ 0x3C5A) ∧
    (∃ (w : Word) (n : Fin 32) (i : Fin 20) (t : Nat) (s0 : State), let s := s0.upTo t; let mode := blk 0xF0 (0x0A0 + 4 * i.val); let spent := look 0 s.provoked.ticksLeft i.val = 0; spent ∧ fld (s.reg mode) 23 16 ≠ 0 ∧ fld (s.reg mode) 1 0 ≠ 0) ∧
    (∃ (w : Word) (n : Fin 32) (i : Fin 20) (t : Nat) (s0 : State), let s := s0.upTo t; let mode := blk 0xF0 (0x0A0 + 4 * i.val); let spent := look 0 s.provoked.ticksLeft i.val = 0; (¬spent ∨ fld (s.reg mode) 23 16 = 0 ∨ fld (s.reg mode) 1 0 = 0)) ∧
    (∃ (k : TapInstr) (t : Nat) (s0 : State), k = .bypass) ∧
    (∃ (k : TapInstr) (t : Nat) (s0 : State), let s := s0.upTo t; let drives := k = .extest ∨ k = .highz; let guarded := s.isSealed = true ∧ s.anyGslot = true; drives ∧ guarded) ∧
    (∃ (k : TapInstr) (t : Nat) (s0 : State), k = .samplePreload) ∧
    (∃ (k : TapInstr) (t : Nat) (s0 : State), let s := s0.upTo t; let guarded := s.isSealed = true ∧ s.anyGslot = true; k = .extest ∧ ¬guarded) ∧
    (∃ (k : TapInstr) (t : Nat) (s0 : State), let s := s0.upTo t; let guarded := s.isSealed = true ∧ s.anyGslot = true; k = .highz ∧ ¬guarded) :=
  ⟨⟨0, 31, 19, 0, { on with perturb := ⟨true, false⟩ }, (0x108, 0x010FFFFF, .loop 0 0), by decide +kernel⟩,
    ⟨0, 31, 19, 0, { on with perturb := ⟨false, false⟩ }, (0x108, 0x010FFFFF, .loop 0 0), by decide +kernel⟩,
    ⟨0, 31, 19, 0, { on with perturb := ⟨false, true⟩ }, (0x108, 0x010FFFFF, .loop 0 0), by decide +kernel⟩,
    ⟨0, 31, 19, 0, { { on with straps := { Straps.reset with testen := true } } with perturb := ⟨false, false⟩ }, by decide +kernel⟩,
    ⟨0xA5C3, 31, 19, 0, { on with perturb := ⟨false, false⟩ }, by decide +kernel⟩,
    ⟨0, 31, 19, 0, { on with perturb := ⟨false, false⟩ }, by decide +kernel⟩,
    ⟨0x3C5A, 31, 19, 0, { on with perturb := ⟨false, true⟩ }, by decide +kernel⟩,
    ⟨0, 31, 19, 0, { on with perturb := ⟨false, true⟩ }, by decide +kernel⟩,
    ⟨0, 31, 19, 0, { on with perturb := ⟨true, false⟩ }, by decide +kernel⟩,
    ⟨0, 31, 19, 0, regs on [(0xF00EC, 0x10001)], by decide +kernel⟩,
    ⟨0, 31, 19, 0, { (regs on [(0xF00EC, 0x10001)]) with provoked := { on.provoked with ticksLeft := [(19, 1)] } }, by decide +kernel⟩,
    ⟨.bypass, 0, on, rfl⟩,
    ⟨.extest, 0, regs ({ (on) with meter := { Meter.reset with sealSt := .sealed } }) [(0x8015C, 0x80000000)], by decide +kernel⟩,
    ⟨.samplePreload, 0, on, rfl⟩,
    ⟨.extest, 0, on, by decide +kernel⟩,
    ⟨.highz, 0, on, by decide +kernel⟩⟩

theorem witness_MemoryStaysCanonical :
    ∃ (s u : State), Safety.Inv s ∧ step s = .next u :=
  ⟨{ State.reset with pending := [.programWrite 31 4095 true 7 0] }, _, ⟨by unfold Safety.Inv; decide +kernel, rfl⟩⟩

theorem witness_HoldoverKeepsItsWord :
    (∃ (n t : Nat) (s0 : State), let s := s0.upTo t; let c := s.clocks; c.xclkOk = true ∧ c.dco = .locked) ∧
    (∃ (n t : Nat) (s0 : State), let s := s0.upTo t; let c := s.clocks; c.xclkOk = false ∧ c.dco = .holdover ∧ s.gpio.waiting = 0) ∧
    (∃ (n t : Nat) (s0 : State), let s := s0.upTo t; let c := s.clocks; c.settling = true ∧ c.dco = .holdover ∧ s.straps.testen = false ∧ s.core.phase ≠ .settling) ∧
    (∃ (n t : Nat) (s0 : State), let s := s0.upTo t; let c := s.clocks; let judged := c.xclkOk = true ∧ c.settling = false ∧ s.straps.testen = false; judged ∧ c.dco = .holdover ∧ s.windowPasses n = true ∧ c.passes < 3) ∧
    (∃ (n t : Nat) (s0 : State), let s := s0.upTo t; let c := s.clocks; let word := s.controlWord; let judged := c.xclkOk = true ∧ c.settling = false ∧ s.straps.testen = false; judged ∧ c.dco = .holdover ∧ s.windowPasses n = true ∧ 3 ≤ c.passes ∧ s.loader.st ≠ .applying ∧ word = (s.reg (blk 2 0x010), c.steer)) ∧
    (∃ (n t : Nat) (s0 : State), let s := s0.upTo t; let c := s.clocks; let judged := c.xclkOk = true ∧ c.settling = false ∧ s.straps.testen = false; judged ∧ c.dco = .holdover ∧ s.windowPasses n = false) :=
  ⟨⟨0, 0, { on with clocks := { Clocks.reset with settling := false, dco := .locked } }, by decide +kernel⟩,
    ⟨0, 0, { on with clocks := { Clocks.reset with xclkOk := false, dco := .holdover } }, by decide +kernel⟩,
    ⟨0, 0, { { on with core := { Core.reset with phase := .locking } } with clocks := { Clocks.reset with dco := .holdover } }, by decide +kernel⟩,
    ⟨3200, 0, { on with clocks := { Clocks.reset with settling := false, dco := .holdover, passes := 2 } }, by decide +kernel⟩,
    ⟨3200, 0, { on with clocks := { Clocks.reset with settling := false, dco := .holdover, passes := 3 } }, by decide +kernel⟩,
    ⟨0, 0, { on with clocks := { Clocks.reset with settling := false, dco := .holdover } }, by decide +kernel⟩⟩

theorem witness_EveryCommandCompletes :
    ∃ (c : Instr) (t : Nat) (s : State), Safety.HostAccess t c ∧ (s.upTo t).loader.st = .applying :=
  ⟨.align 0, 0, (on).setLoader { Loader.reset with st := .applying }, ⟨rfl, rfl⟩⟩

end Sys2Proof.Tests
end

section
/-!
PROOFS. HIN: what a handoff read returns, and when it counts as late (R91, R92).
-/

namespace Sys2Proof.Machine

/-- A slot command that issues does its effect and the slot is done. -/
theorem State.runSlot_of_issues {s : State} {e op : Nat} {slot : SlotName} (f : BitVec 64 → State → State)
    (h : s.issues e slot op = true) : s.runSlot e slot op f = (f (s.engWord e) s).slotDone e [slot] :=
  if_pos h

/-- The CTRL slot's results land one cycle later, behind those of the other slots (R137, R139). -/
theorem State.ctrlLater_eq_fly (s : State) (e n : Nat) (v : Word) : s.ctrlLater e n v = Safety.fly s e 1 3 n v := rfl

theorem exec_hin_of_issues {s : State} {e : Fin 32} (h : s.issues e .ctrl 9 = true) :
    exec (.hin e) s = .next ((s.doHin e (s.engWord e)).slotDone e [.ctrl]) :=
  congrArg Host.Outcome.next (State.runSlot_of_issues (fun w s => s.doHin e w) h)

/-! ## The writer that a read names -/

/-- The writer at position `p` of the Set of engine `e` is RUNNING and its timebase does not hold it (R92). -/
def State.WriterLive (s : State) (e p : Nat) : Prop :=
  (s.eng (e / 4 * 4 + p)).st = .running ∧ s.holding (s.engTb (e / 4 * 4 + p)) = false

/-- The writer's publication needs no tag of the present tick, or carries it (R92). -/
def State.PublicationServes (s : State) (e p : Nat) : Prop :=
  ¬ s.WriterLive e p ∨ (s.eng (e / 4 * 4 + p)).pubTag = some (s.tb (s.engTb e)).tickNo

section

variable {s : State} {e p : Nat}

theorem State.handoffFresh_iff :
    s.handoffFresh e p = true ↔ (s.eng (e / 4 * 4 + p)).pubTag = some (s.tb (s.engTb e)).tickNo :=
  beq_iff_eq

/-- The model's test for returning the publication, as R92 words it. -/
theorem State.publicationServes_iff :
    s.PublicationServes e p ↔
      (s.eng (e / 4 * 4 + p)).st ≠ .running ∨ s.holding (s.engTb (e / 4 * 4 + p)) = true ∨ s.handoffFresh e p = true := by
  rw [State.handoffFresh_iff, State.PublicationServes, State.WriterLive, not_and_or, Bool.not_eq_false, or_assoc]

/-! ## The value and the count -/

theorem State.hinValue_of_undeclared (c : Nat) (h : s.handoffDeclared e p = false) : s.hinValue e p c = 0 := by
  simp [State.hinValue, h]

theorem State.hinValue_of_serves (c : Nat) (h : s.handoffDeclared e p = true) (hs : s.PublicationServes e p) :
    s.hinValue e p c = look 0 (s.eng (e / 4 * 4 + p)).pub c := by
  simp [State.hinValue, h, State.publicationServes_iff.mp hs]

theorem State.hinValue_of_stale (c : Nat) (h : s.handoffDeclared e p = true) (hs : ¬ s.PublicationServes e p) :
    s.hinValue e p c = look 0 s.router.src (584 + 16 * (e / 4 * 4 + p) + c) := by
  simp [State.hinValue, h, mt State.publicationServes_iff.mpr hs]

/-- A read counts as late exactly when it is undeclared or its publication does not serve. -/
theorem State.hinLate_iff : s.hinLate e p = true ↔ s.handoffDeclared e p = false ∨ ¬ s.PublicationServes e p := by
  simp [State.hinLate, State.publicationServes_iff, and_assoc]

/-! ## The effect -/

/-- The four places where R91 and R92 count a late read of engine `e`: HANDOFF_LATE in its EVENT register and in SET.EVENT, its HANDOFF_LATE_COUNT and
SET.HANDOFF_LATE_TOTAL. -/
def State.handoffLateMark (s : State) (e : Nat) : State :=
  (((s.engRaise e 5).raise (0x60 + e / 4) 1).bump (engReg e 0x044)).bump (blk (0x60 + e / 4) 0x01C)

variable {w : BitVec 64}

theorem State.doHin_of_late (h : s.hinLate e (wf w 11 10) = true) :
    s.doHin e w = Safety.fly (s.handoffLateMark e) e 1 3 (wf w 15 12) (s.hinValue e (wf w 11 10) (wf w 9 6)) := by
  simp only [State.doHin, h, if_true, State.ctrlLater_eq_fly]; rfl

theorem State.doHin_of_inTime (h : ¬ s.hinLate e (wf w 11 10) = true) :
    s.doHin e w = Safety.fly s e 1 3 (wf w 15 12) (s.hinValue e (wf w 11 10) (wf w 9 6)) := by
  simp only [State.doHin, if_neg h, State.ctrlLater_eq_fly]

end

/-- Settles O11: HIN issued is its effect with the CTRL slot done, and each clause fixes the value and whether the read counts as late. -/
theorem handoffReads : Obligations.HandoffReads := by
  unfold Obligations.HandoffReads
  intro e s hissues
  rw [exec_hin_of_issues hissues]
  refine ⟨fun hundeclared => ?undeclared, fun hdeclared hserves => ?served, fun hdeclared hlive hstale => ?stale⟩
  case undeclared =>
    rw [State.doHin_of_late (State.hinLate_iff.mpr (.inl hundeclared)), State.hinValue_of_undeclared _ hundeclared]
    rfl
  case served =>
    have hinTime : ¬ s.hinLate e (wf (s.engWord e) 11 10) = true := fun hlate =>
      (State.hinLate_iff.mp hlate).elim (fun hun => Bool.false_ne_true (hun.symm.trans hdeclared)) (· hserves)
    rw [State.doHin_of_inTime hinTime, State.hinValue_of_serves _ hdeclared hserves]
  case stale =>
    have hnot : ¬ s.PublicationServes e (wf (s.engWord e) 11 10) := fun h => h.elim (· hlive) hstale
    rw [State.doHin_of_late (State.hinLate_iff.mpr (.inr hnot)), State.hinValue_of_stale _ hdeclared hnot]
    rfl

end Sys2Proof.Machine
end

section
/-!
PROOFS. The ARITH slot's multiply-accumulates: exact products added to the accumulators or set into them (R112, R115 to R117).
-/

namespace Sys2Proof.Machine

section

variable {s : State} {e : Fin 32}

theorem exec_mac_of_issues (h : s.issues e .arith 0x01 = true) :
    exec (.mac e) s = .next ((s.doMac e (s.engWord e)).slotDone e [.arith]) :=
  congrArg Host.Outcome.next (State.runSlot_of_issues (fun w s => s.doMac e w) h)

theorem exec_dmac_of_issues (h : s.issues e .arith 0x02 = true) :
    exec (.dmac e) s = .next ((s.doDmac e (s.engWord e)).slotDone e [.arith]) :=
  congrArg Host.Outcome.next (State.runSlot_of_issues (fun w s => s.doDmac e w) h)

theorem exec_cmac_of_issues (h : s.issues e .arith 0x03 = true) :
    exec (.cmac e) s = .next ((s.doCmac e (s.engWord e)).slotDone e [.arith]) :=
  congrArg Host.Outcome.next (State.runSlot_of_issues (fun w s => s.doCmac e w) h)

end

/-! ## What a write of an accumulator leaves -/

theorem State.accWrite_eq_toA (s : State) (e n : Nat) (r : AccResult) :
    s.accWrite e n r = if r.ovg then (Safety.toA s e n r.val r.mark).ovg e else Safety.toA s e n r.val r.mark := rfl

theorem inGuard_iff (v : Int) : inGuard v = true ↔ -2 ^ 71 ≤ v ∧ v < 2 ^ 71 := by
  simp [inGuard]

/-- A setting operation: the exact value, or the limit of its sign with mark and OVG (R117). -/
theorem State.accWrite_accSet (s : State) (e n : Nat) (v : Int) : s.accWrite e n (accSet v) = Safety.setA s e n v := by
  rw [State.accWrite_eq_toA, Safety.setA]
  by_cases hv : -2 ^ 71 ≤ v ∧ v < 2 ^ 71
  · simp only [accSet, if_pos ((inGuard_iff v).mpr hv), if_pos hv, Bool.false_eq_true, if_false]
  · simp only [accSet, if_neg (mt (inGuard_iff v).mp hv), if_neg hv, if_true, accLimit, decide_eq_true_eq]

/-- An accumulating operation: a marked accumulator keeps its value, another is set to the exact sum (R116). -/
theorem State.accWrite_accAdd (s : State) (e n : Nat) (v : Int) :
    s.accWrite e n (accAdd ((s.eng e).accReg n) ((s.eng e).accMark n) v) = Safety.addA s e n v := by
  unfold accAdd Safety.addA
  split
  · rfl
  · exact s.accWrite_accSet e n _

theorem State.mulAcc_eq_macA (s : State) (e n : Nat) (w : BitVec 64) (p : Int) : s.mulAcc e n w p = Safety.macA s e n w p := by
  unfold State.mulAcc Safety.macA
  cases fSET w
  case false => exact s.accWrite_accAdd e n _
  case true => exact s.accWrite_accSet e n _

/-! ## The effects -/

section

variable (s : State) (e : Nat) (w : BitVec 64)

theorem State.doMac_eq_macA :
    s.doMac e w = Safety.macA s e (fA w) w (((s.eng e).dreg (fSX w)).toInt * ((s.eng e).dreg (fSY w)).toInt) :=
  s.mulAcc_eq_macA e _ w _

theorem State.doDmac_eq_macA :
    s.doDmac e w =
      Safety.macA (Safety.macA s e (fA w) w (((s.eng e).dreg (fSX w)).toInt * ((s.eng e).dreg (fSY w)).toInt)) e (fA w + 1) w
        (((s.eng e).dreg (fSX w + 1)).toInt * ((s.eng e).dreg (fSY w + 1)).toInt) := by
  simp only [State.doDmac, State.mulAcc_eq_macA]
  rfl

variable {w}

theorem State.doCmac_eq_macA (h : fCONJ w = false) :
    s.doCmac e w =
      Safety.macA (Safety.macA s e (fA w) w
        (((s.eng e).dreg (fSX w)).toInt * ((s.eng e).dreg (fSY w)).toInt -
          ((s.eng e).dreg (fSX w + 1)).toInt * ((s.eng e).dreg (fSY w + 1)).toInt)) e (fA w + 1) w
        (((s.eng e).dreg (fSX w)).toInt * ((s.eng e).dreg (fSY w + 1)).toInt +
          ((s.eng e).dreg (fSX w + 1)).toInt * ((s.eng e).dreg (fSY w)).toInt) := by
  simp only [State.doCmac, State.mulAcc_eq_macA, h, Bool.false_eq_true, if_false]
  rfl

/-- CONJ takes Cy's imaginary part negated. -/
theorem State.doCmac_conj_eq_macA (h : fCONJ w = true) :
    s.doCmac e w =
      Safety.macA (Safety.macA s e (fA w) w
        (((s.eng e).dreg (fSX w)).toInt * ((s.eng e).dreg (fSY w)).toInt +
          ((s.eng e).dreg (fSX w + 1)).toInt * ((s.eng e).dreg (fSY w + 1)).toInt)) e (fA w + 1) w
        (((s.eng e).dreg (fSX w + 1)).toInt * ((s.eng e).dreg (fSY w)).toInt -
          ((s.eng e).dreg (fSX w)).toInt * ((s.eng e).dreg (fSY w + 1)).toInt) := by
  simp only [State.doCmac, State.mulAcc_eq_macA, h, if_true]
  rfl

end

/-- Settles O1: each operation issued is its effect with the ARITH slot done, and each effect is one `Safety.macA` for each accumulator it writes. -/
theorem multiplyAccumulate : Obligations.MultiplyAccumulate := by
  unfold Obligations.MultiplyAccumulate
  intro e s
  refine ⟨fun hissues => ?mac, fun hissues => ?dmac, fun hissues hplain => ?cmac, fun hissues hconj => ?conj⟩
  case mac => rw [exec_mac_of_issues hissues, State.doMac_eq_macA]
  case dmac => rw [exec_dmac_of_issues hissues, State.doDmac_eq_macA]
  case cmac => rw [exec_cmac_of_issues hissues, State.doCmac_eq_macA _ _ hplain]
  case conj => rw [exec_cmac_of_issues hissues, State.doCmac_conj_eq_macA _ _ hconj]

end Sys2Proof.Machine
end

section
/-!
PROOFS. The ARITH slot's roundings: to the nearest multiple of 2^-31, ties to even, saturated (R119, R121).
-/

namespace Sys2Proof.Machine

section

variable {s : State} {e : Fin 32}

theorem exec_rnd_of_issues (h : s.issues e .arith 0x10 = true) :
    exec (.rnd e) s =
      .next ((s.doRound e (fA (s.engWord e)) (fDZ (s.engWord e)) (s.engWord e)).slotDone e [.arith]) :=
  congrArg Host.Outcome.next (State.runSlot_of_issues (fun w s => s.doRound e (fA w) (fDZ w) w) h)

theorem exec_rndk_of_issues (h : s.issues e .arith 0x11 = true) :
    exec (.rndk e) s =
      .next (((s.doRound e (fA (s.engWord e)) (fDZ (s.engWord e)) (s.engWord e)).doRound e (fA (s.engWord e) + 1)
        (fDZ (s.engWord e) + 1) (s.engWord e)).slotDone e [.arith]) :=
  congrArg Host.Outcome.next
    (State.runSlot_of_issues (fun w s => (s.doRound e (fA w) (fDZ w) w).doRound e (fA w + 1) (fDZ w + 1) w) h)

theorem exec_mpyd_of_issues (h : s.issues e .arith 0x1E = true) :
    exec (.mpyd e) s =
      .next ((s.dWrite e (fDZ (s.engWord e)) (roundAcc (dProd (s.opX e (s.engWord e)) (s.opY e (s.engWord e))) 0)).slotDone e
        [.arith]) :=
  congrArg Host.Outcome.next
    (State.runSlot_of_issues (fun w s => s.dWrite e (fDZ w) (roundAcc (dProd (s.opX e w) (s.opY e w)) 0)) h)

end

/-! ## The nearest integer -/

theorem nearestEven_of_lt {q : Rat} {n : Int} (h : |q - n| < 1 / 2) : Safety.NearestEven q n :=
  ⟨h.le, fun htie => absurd htie h.ne⟩

theorem div_eq_ediv_add_emod_div (n : Int) {d : Nat} (hd : 0 < d) : (n : Rat) / d = (n / d : Int) + (n % d : Int) / d := by
  have hd' : (d : Rat) ≠ 0 := by exact_mod_cast hd.ne'
  have hsplit : (d : Rat) * (n / d : Int) + (n % d : Int) = n := by exact_mod_cast Int.mul_ediv_add_emod n d
  rw [← hsplit]
  field_simp

/-- Where `rneDiv` goes from `q` by the fraction `f` that is left: the nearer of `q` and `q + 1`, the even one at a half. -/
theorem nearestEven_add_fraction (q : Int) {f : Rat} (h0 : 0 ≤ f) (h1 : f < 1) :
    (f < 1 / 2 → Safety.NearestEven (q + f) q) ∧ (1 / 2 < f → Safety.NearestEven (q + f) (q + 1 : Int)) ∧
      (f = 1 / 2 → q % 2 = 0 → Safety.NearestEven (q + f) q) ∧
      (f = 1 / 2 → q % 2 ≠ 0 → Safety.NearestEven (q + f) (q + 1 : Int)) := by
  have below : |(q : Rat) + f - q| = f := by rw [add_sub_cancel_left, abs_of_nonneg h0]
  have above : |(q : Rat) + f - (q + 1 : Int)| = 1 - f := by
    rw [Int.cast_add, Int.cast_one, add_sub_add_left_eq_sub, abs_of_nonpos (by linarith), neg_sub]
  refine ⟨fun hlow => ?_, fun hhigh => ?_, fun htie heven => ?_, fun htie hodd => ?_⟩
  · exact nearestEven_of_lt (by rwa [below])
  · exact nearestEven_of_lt (by rw [above]; linarith)
  · exact ⟨by rw [below, htie], fun _ => heven⟩
  · exact ⟨by rw [above, htie]; norm_num, fun _ => by omega⟩

/-- The model's division is to the nearest, ties to even: the remainder is below, above or at half the divisor. -/
theorem rneDiv_nearestEven (n : Int) {d : Nat} (hd : 0 < d) : Safety.NearestEven ((n : Rat) / d) (rneDiv n d) := by
  have hdq : (0 : Rat) < d := by exact_mod_cast hd
  have hnonneg : (0 : Rat) ≤ (n % d : Int) := by exact_mod_cast Int.emod_nonneg n (by omega)
  have hlt : ((n % d : Int) : Rat) < d := by exact_mod_cast Int.emod_lt_of_pos n (by omega)
  obtain ⟨low, high, tieEven, tieOdd⟩ :=
    nearestEven_add_fraction (n / d) (div_nonneg hnonneg hdq.le) ((div_lt_one hdq).mpr hlt)
  rw [div_lt_div_iff₀ hdq two_pos, one_mul] at low
  rw [div_lt_div_iff₀ two_pos hdq, one_mul] at high
  rw [div_eq_div_iff hdq.ne' two_ne_zero, one_mul] at tieEven tieOdd
  rw [div_eq_ediv_add_emod_div n hd]
  unfold rneDiv
  split_ifs with hlow hhigh heven
  · exact low (by exact_mod_cast (by omega : n % d * 2 < d))
  · exact high (by exact_mod_cast (by omega : (d : Int) < n % d * 2))
  · exact tieEven (by exact_mod_cast (by omega : n % d * 2 = d)) heven
  · exact tieOdd (by exact_mod_cast (by omega : n % d * 2 = d)) heven

/-! ## The rounded result -/

theorem sat31_eq_clamp (v : Int) : sat31 v = Safety.clamp v := by
  unfold sat31 Safety.clamp
  split_ifs with hhigh hlow
  · rw [min_eq_left (by omega)]; rfl
  · rw [max_eq_left (by omega)]; rfl
  · rw [min_eq_right (by omega), max_eq_right (by omega)]

theorem dSat_eq (v : Int) : dSat v = ⟨Safety.clamp v, Safety.outside v⟩ := by
  have hsat : (decide (v > 0x7FFFFFFF) || decide (v < -0x80000000)) = Safety.outside v := by
    rw [← Bool.decide_or]
    exact decide_eq_decide.mpr (by omega)
  rw [dSat, sat31_eq_clamp, hsat]

/-- A shift by `sh` under the 31 fraction bits that the result drops is one division by a power of two. -/
theorem mul_zpow_div_eq_div_pow (q : Rat) {sh : Int} (h : sh ≤ 31) : q * 2 ^ sh / 2 ^ 31 = q / (2 ^ (31 - sh).toNat : Nat) := by
  have hexp : (2 : Rat) ^ (31 : Nat) = 2 ^ (31 - sh).toNat * 2 ^ sh := by
    rw [← zpow_natCast, ← zpow_natCast, ← zpow_add₀ two_ne_zero]
    congr 1
    omega
  rw [hexp, mul_div_mul_right _ _ (zpow_ne_zero _ two_ne_zero), Nat.cast_pow, Nat.cast_ofNat]

/-- R119's rounding: the nearest multiple of 2^-31, saturated. -/
theorem roundAcc_nearestEven (v : Int) {sh : Int} (h : sh ≤ 31) :
    ∃ n, Safety.NearestEven ((v : Rat) * 2 ^ sh / 2 ^ 31) n ∧ roundAcc v sh = ⟨Safety.clamp n, Safety.outside n⟩ := by
  refine ⟨rneDiv v (2 ^ (31 - sh).toNat), ?_, dSat_eq _⟩
  rw [mul_zpow_div_eq_div_pow _ h]
  exact rneDiv_nearestEven v (Nat.two_pow_pos _)

theorem fSH_le (w : BitVec 64) : fSH w ≤ 31 := by
  have hmod : fMOD w < 32 := Nat.mod_lt _ (by decide)
  unfold fSH
  split <;> omega

/-! ## The effects -/

theorem State.dWrite_eq_toD (s : State) (e n : Nat) (r : DResult) : s.dWrite e n r = Safety.toD s e n r.val r.sat := rfl

/-- A result on its way to a data register leaves the accumulators as sources read them (R119). -/
theorem State.accSrc_toD (s : State) (e n : Nat) (v : Word) (sat : Bool) (a : Nat) :
    ((Safety.toD s e n v sat).eng e).accSrc a = (s.eng e).accSrc a := by
  have hlater : ((s.setEng e ((s.eng e).later 2 2 (.d n) (v.setWidth 72))).eng e).accSrc a = (s.eng e).accSrc a := by
    rw [State.eng_setEng, if_pos rfl]
    rfl
  cases sat
  · exact hlater
  · exact hlater

/-- Settles O3: `roundAcc` finds the nearest integers of what is rounded, and RNDK's second rounding reads an accumulator that its first left as
it was. -/
theorem roundingToNearestEven : Obligations.RoundingToNearestEven := by
  unfold Obligations.RoundingToNearestEven
  intro e s
  have hsource := fun a => roundAcc_nearestEven ((s.eng e).accSrc a).toInt (fSH_le (s.engWord e))
  refine ⟨fun hissues => ?rnd, fun hissues => ?rndk, fun hissues => ?mpyd⟩
  case rnd =>
    obtain ⟨n, hnear, hround⟩ := hsource (fA (s.engWord e))
    refine ⟨n, hnear, ?_⟩
    rw [exec_rnd_of_issues hissues, State.doRound, hround, State.dWrite_eq_toD]
  case rndk =>
    obtain ⟨n, hnear, hround⟩ := hsource (fA (s.engWord e))
    obtain ⟨m, hnear', hround'⟩ := hsource (fA (s.engWord e) + 1)
    refine ⟨n, m, hnear, hnear', ?_⟩
    simp only [exec_rndk_of_issues hissues, State.doRound, State.accSrc_toD, hround, hround', State.dWrite_eq_toD]
  case mpyd =>
    obtain ⟨n, hnear, hround⟩ := roundAcc_nearestEven (dProd (s.opX e (s.engWord e)) (s.opY e (s.engWord e))) (sh := 0) (by decide)
    refine ⟨n, ?_, ?_⟩
    · simpa only [zpow_zero, mul_one, dProd, State.opX, State.opY, Int.cast_mul] using hnear
    · rw [exec_mpyd_of_issues hissues, hround, State.dWrite_eq_toD]

end Sys2Proof.Machine
end
